-- ==== Sys2Proof/Word.lean ====
section
/-! DEFINITION. The widths in which the manual counts: bytes on the host port, 16-bit fields, 32-bit positions,
and the 104 bytes of one head line. -/

namespace Sys2Proof

/-- A byte of the host port, of a record or of memory. -/
abbrev Byte := BitVec 8

/-- A 16-bit field: a label number, an event detail, a CRC-16, a sequence number. -/
abbrev Half := BitVec 16

/-- A media position, and any other 32-bit field (R110: positions are kept modulo 2^32). -/
abbrev Pos := BitVec 32

/-- One head line: 104 bytes, byte 0 holding dots 0 to 7 with dot 0 in its most significant bit (section 5.1). -/
abbrev Line := List Byte

end Sys2Proof
end

