-- ==== Sys2Proof/Syntax.lean ====
section
/-! DEFINITION. The steps of the VLE-12: one constructor of `Instr` for each row of spec/opcode_table.json, with the
operands that the world outside supplies at that step. What a host command asks for (its parameters) is no operand
here: it stands in the command block that COMMAND_BYTE has collected (R7, R21). -/

namespace Sys2Proof

/-- Which way a Data Port or DACK access goes (R1, R17). -/
inductive Access where
  /-- The read strobe is active. -/
  | read
  /-- The write strobe is active, with the byte on the data bus. -/
  | write (b : Byte)
deriving DecidableEq, Repr

/-- What a reset meets outside the part (R160, R164): the head-up switch, the media sensor, the thermistor, and the store
with a copy whose write it stops. -/
structure Inputs where
  /-- The head-up switch shows the head open. -/
  headOpen : Bool
  /-- The sensor input as a raw level. -/
  level : Byte
  /-- The thermistor input in whole degrees, before the clamp of R107. -/
  degrees : Int
  /-- What the store returns for the copy that is left torn. -/
  torn : List Byte
deriving DecidableEq, Repr

/-- A byte of the three memories that does not read back as a pass of the power-up test wrote it (R165). -/
structure Misread where
  /-- The pass, 0 to 3, in the order of R165. -/
  pass : Nat
  /-- The byte's offset in Table 11-2. -/
  offset : Nat
  /-- The bits that read back otherwise than written. -/
  bits : Byte
deriving DecidableEq, Repr

/-- One byte of a stored copy that the store no longer returns as written (R158: "a copy whose bytes have decayed"). -/
structure Decay where
  /-- The record id, 0 to 4. -/
  record : Nat
  /-- Copy B rather than copy A. -/
  copyB : Bool
  /-- The byte's place in the copy. -/
  index : Nat
  /-- The bits that differ from what the copy held. -/
  bits : Byte
deriving DecidableEq, Repr

/-- What a power-on or pin reset finds (R163, R165). -/
structure PowerUp where
  inputs : Inputs
  /-- The protect strap is fitted. -/
  strap : Bool
  /-- What the four passes of the RAM test do not read back as written; none when the memories are sound. -/
  misreads : List Misread
  decay : List Decay
  /-- The sequence has ended; until it has, it is in progress and the port is out of service (R20). -/
  ends : Bool
deriving DecidableEq, Repr

/-- How a byte answers RAM TEST (R166, R167). -/
structure ByteTest where
  /-- The bits in which the patterns read back otherwise than written, pattern by pattern (none: as written). -/
  differs : List Byte
  /-- The bits in which a byte that fails differs from its saved contents after the write-back. -/
  left : Byte
deriving DecidableEq, Repr

/-- The steps of the part, one for each row of spec/opcode_table.json. -/
inductive Instr where
  /-- SELECT (R6): a write of 0x01 to the Attention Port. -/
  | select
  /-- BREAK (R12): a write of 0x02 to the Attention Port. -/
  | breakRequest
  /-- NOTIFY_MASK_WRITE (R4): a write of this value to the Notify Mask Port. -/
  | notifyMaskWrite (value : Byte)
  /-- PORT_RESET (R19): a write of any value to the Engine Reset Port, with what the reset meets (R164). -/
  | portReset (value : Byte) (inputs : Inputs)
  /-- PIN_RESET (R165): the reset input is released and the power-up sequence runs. -/
  | pinReset (found : PowerUp)
  /-- POWER_ON_RESET (R165): supply settles and the power-up sequence runs. -/
  | powerOnReset (found : PowerUp)
  /-- COMMAND_BYTE (R7): a Data Port write of the next block byte. -/
  | commandByte (value : Byte)
  /-- PAYLOAD_BYTE (R9): a Data Port write of the next payload byte. -/
  | payloadByte (value : Byte)
  /-- RESULT_BYTE_READ (R9): a Data Port read of the next result byte. -/
  | resultByteRead
  /-- COMPLETION_BYTE_READ (R10): a Data Port read of the completion byte. -/
  | completionByteRead
  /-- DACK_CYCLE (R17): one DMA acknowledge cycle. -/
  | dackCycle (access : Access)
  /-- BYTE_TIMEOUT (R14): 1,000 ms have passed since a rise of REQ with no transfer. -/
  | byteTimeout
  /-- EVENT_PORT_READ (R153). -/
  | eventPortRead
  /-- TEST_READY (R150): the sequencer's act on a TEST READY block. -/
  | testReady
  /-- REQUEST_SENSE (R41). -/
  | requestSense
  /-- READ_ENGINE_STATE (R151). -/
  | readEngineState
  /-- SENSOR_READ (R138). -/
  | sensorRead
  /-- SET_MEDIA_PARAMETERS (R155). -/
  | setMediaParameters
  /-- READ_MEDIA_PARAMETERS (R156). -/
  | readMediaParameters
  /-- SET_MECHANISM_PARAMETERS (R157), with the strap as sampled and what has decayed in the store. -/
  | setMechanismParameters (strap : Bool) (decay : List Decay)
  /-- STORE_PROFILE (R161), with the strap as sampled and what has decayed in the store. -/
  | storeProfile (strap : Bool) (decay : List Decay)
  /-- LOAD_PROFILE (R162), with what has decayed in the store. -/
  | loadProfile (decay : List Decay)
  /-- VERIFY_PROFILES (R159), with what has decayed in the store. -/
  | verifyProfiles (decay : List Decay)
  /-- RECORD_COPY_WRITE (R160): one write of a record copy with its read-back ends; the read-back differs from
  what was written in these bits, byte by byte (none: it matches). -/
  | recordCopyWrite (differs : List Byte)
  /-- DEFINE_GLYPH (R50). -/
  | defineGlyph
  /-- DELETE_GLYPH (R53). -/
  | deleteGlyph
  /-- COMPACT_GLYPHS (R54). -/
  | compactGlyphs
  /-- GLYPH_MOVE (R54): one compaction move ends. -/
  | glyphMove
  /-- READ_GLYPH_ENTRY (R57). -/
  | readGlyphEntry
  /-- OPEN_LABEL (R64). -/
  | openLabel
  /-- PLACE_GLYPH (R67). -/
  | placeGlyph
  /-- PLACE_TEXT (R68). -/
  | placeText
  /-- PLACE_RULE (R69). -/
  | placeRule
  /-- PLACE_IMAGE (R70). -/
  | placeImage
  /-- CLOSE_LABEL (R72). -/
  | closeLabel
  /-- DISCARD_LABEL (R73). -/
  | discardLabel
  /-- CANCEL_LABELS (R76). -/
  | cancelLabels
  /-- SET_RUN_GATE (R80). -/
  | setRunGate
  /-- FEED (R122). -/
  | feed
  /-- ADVANCE_TO_EDGE (R135). -/
  | advanceToEdge
  /-- CALIBRATE_MEDIA (R136). -/
  | calibrateMedia
  /-- PRESENT (R123). -/
  | present
  /-- RETRACT (R123). -/
  | retract
  /-- RESUME (R147). -/
  | resume
  /-- RAM_TEST (R166). -/
  | ramTest
  /-- RAM_BYTE_TEST (R166): the test of one byte, and how it answers. -/
  | ramByteTest (answer : ByteTest)
  /-- MOTION_WAIT_TIMEOUT (R36): the 1,500 ms wait timer expires. -/
  | motionWaitTimeout
  /-- BAND_RENDER (R87): the rendering of the COMPOSING band ends. -/
  | bandRender
  /-- LINE_STEP (R111): a forward motor step, the sensor's level at it and the microseconds since the motor last stepped. -/
  | lineStep (level : Byte) (elapsed : Nat)
  /-- BACKWARD_STEP (R113): a backward motor step and the microseconds since the motor last stepped. -/
  | backwardStep (elapsed : Nat)
  /-- RUN_START (R141). -/
  | runStart
  /-- TEMPERATURE_SAMPLE (R106), with the thermistor input in whole degrees before the clamp of R107. -/
  | temperatureSample (degrees : Int)
  /-- HEAD_STATE_CHANGE (R140): ten switch reads agree on the level opposite to the head state. -/
  | headStateChange
  /-- IDLE_SAMPLE (R126): the idle timer expires and the sensor reads this level. -/
  | idleSample (level : Byte)
  /-- AUTO_RECOVER (R149): the settle timer expires. -/
  | autoRecover
  /-- MOTOR_RELEASE (R125): the motor's idle timer reaches 2,000 ms. -/
  | motorRelease
  /-- REFUSED_DATA_PORT_ACCESS (R15): a Data Port access. -/
  | refusedDataPortAccess (access : Access)
  /-- RESET_INPUT_HELD (R20): the host drives the reset input. -/
  | resetInputHeld
deriving DecidableEq, Repr

end Sys2Proof
end

