-- ==== Sys2Proof/Decode.lean ====
section
/-! DEFINITION. The block fetches no words. No row of spec/opcode_table.json has bits ("fields" is empty in every row
and none has a fixed pattern), so no word spells a row and the decoder refuses every word (log 6). -/

namespace Sys2Proof

/-- The row a word spells by the table's bits: the table gives no row any bits. -/
def decodeTableWord (_nbits _w : Nat) : Option Instr := none

end Sys2Proof
end

