-- ==== Sys2Proof/Config.lean ====
section
/-! DEFINITION. The constants of the VLE-12: sizes of its memories and queues, and the intervals of its timers.
Every one of them is a number the manual states; nothing here is left to an implementation. -/

namespace Sys2Proof.Config

/-- Table 11-2: the raster ring's bytes, at offsets 0 to 26,623. -/
abbrev ringBytes : Nat := 26624
/-- Table 11-2: the first offset of glyph memory. -/
abbrev glyphBase : Nat := 26624
/-- Table 11-2: the first offset of the placement pool. -/
abbrev poolBase : Nat := 43008
/-- Table 11-2: the three memories together. -/
abbrev ramBytes : Nat := 51200

/-- Granules of glyph memory (R44). -/
abbrev glyphGranules : Nat := 2048
/-- Glyph ids (Table 3-1). -/
abbrev glyphIds : Nat := 64
/-- Granules of the placement pool (R63). -/
abbrev poolGranules : Nat := 1024
/-- Label slots (section 4.1). -/
abbrev labelSlots : Nat := 8
/-- Placements a label may hold (R62). -/
abbrev maxPlacements : Nat := 255
/-- Bands of the raster ring (section 5.1). -/
abbrev ringBands : Nat := 16
/-- Lines of a full band (R81). -/
abbrev bandLines : Nat := 16
/-- Bytes of a head line (section 5.1). -/
abbrev lineBytes : Nat := 104
/-- Dots of the head (section 7.1 of About This Manual). -/
abbrev headDots : Nat := 832
/-- Records the event queue holds (R152). -/
abbrev maxEvents : Nat := 16
/-- The overflow count stays here (R152). -/
abbrev maxOverflow : Nat := 65535
/-- Positions the edge queue holds (R130). -/
abbrev maxEdges : Nat := 16
/-- A reference count may not pass this (R47). -/
abbrev maxReferences : Nat := 65535

/-- The byte timeout, in ms (R14). -/
abbrev byteTimeout : Nat := 1000
/-- The wait of a motion command, in ms (R36). -/
abbrev motionWait : Nat := 1500
/-- The auto-recover settle, in ms (R149). -/
abbrev settleTime : Nat := 1000
/-- The temperature sample timer, in ms (R106). -/
abbrev sampleInterval : Nat := 100
/-- The idle-sample timer, in ms (R126). -/
abbrev idleInterval : Nat := 50
/-- The motor's idle timer, in ms (R125). -/
abbrev releaseTime : Nat := 2000
/-- Strobed lines after which a temperature sample is due (R106). -/
abbrev linesPerSample : Nat := 16
/-- History stands for this long, in microseconds (R99, R100). -/
abbrev historyLife : Nat := 100000

/-- Steps of a calibration's survey (Table 8-3). -/
abbrev surveySteps : Nat := 4608
/-- Steps of a calibration's measure (Table 8-3). -/
abbrev measureSteps : Nat := 8256
/-- Least difference of levels a survey accepts (R136). -/
abbrev leastContrast : Nat := 24

end Sys2Proof.Config
end

