-- ==== Sys2Proof/Machine/State.lean ====
section
/-! DEFINITION. Everything the VLE-12 keeps, block by block (Table 1 of About This Manual), as plain data; the reasons a
step can stop; and the machine right after reset. -/

namespace Sys2Proof.Machine

/-- A running timer holds the interval (ms) it was started with; a stopped one is `none`. Its expiry is a row. -/
abbrev Timer := Option Nat

/-! ### Host Port -/

/-- Table 1-3. -/
inductive Phase where
  | free | command | execute | dataOut | dataIn | completion
deriving DecidableEq, Repr

/-- Whether the port answers (R20): in service, the reset input held, or the power-up sequence in progress. -/
inductive Service where
  | inService | held | starting
deriving DecidableEq, Repr

structure Hpu where
  phase : Phase
  /-- Bytes transferred in the phase (R7, R9). -/
  counter : Nat
  /-- Length of the data phase (R8). -/
  length : Nat
  latch : Byte
  /-- Command bytes received (R7). -/
  cmd : List Byte
  /-- Result bytes still to be loaded into the latch (R9). -/
  result : List Byte
  byteTimer : Timer
  /-- Notify Mask: bit 0 DMA, bit 1 completion interrupt, bit 2 event interrupt (R4). -/
  mask : BitVec 3
  drq : Bool
  cirq : Bool
  misuse : Bool
  breakPending : Bool
  seq : BitVec 3
  /-- The completion byte as fixed at entry into COMPLETION (R11). -/
  completion : Byte
  /-- The byte the last read access returned: an output of the model's own. -/
  bus : Byte
  service : Service
deriving DecidableEq, Repr

/-! ### Command Sequencer -/

/-- Table 2-7. -/
inductive SenseCode where
  | noSense | resetOccurred | recovered
  | engineHalted | headOpen | mediaOut | headCritical | motionTimeout | engineBusy | engineFault | stillMoving
  | edgeNotFound | registrationLost | calibrationFailed | noContrast
  | checkByteError | invalidCommand | invalidParameter | noOpenLabel | labelAlreadyOpen | queueFull | labelNotFound
  | payloadCheckError | aborted | placementOutsideLabel
  | glyphUndefined | glyphInUse | glyphMemoryFull | glyphMemoryFragmented | placementPoolFull | nvmProtected
  | nvmWriteFailed | profileInvalid | ramFault | glyphLimit
  | portTimeout
deriving DecidableEq, Repr

/-- What bytes 6–9 of the sense record name: at most one of position, glyph and detail (R39). -/
inductive SenseInfo where
  | nothing
  | position (p : Pos)
  | glyph (id : Nat)
  | detail (d : Pos)
deriving DecidableEq, Repr

/-- Table 2-6; class and flags follow from it (R39). -/
structure Sense where
  code : SenseCode
  failing : Byte
  label : Option Half
  info : SenseInfo
deriving DecidableEq, Repr

/-- How a command ends (R37 to R39). -/
inductive Ending where
  /-- Success without remark. -/
  | ok
  /-- Success with NOTICE; the detail of Table 2-5. -/
  | notice (detail : Pos)
  /-- ERROR, with the fields Table 2-7 gives the code. -/
  | error (code : SenseCode) (label : Option Half) (info : SenseInfo)
deriving DecidableEq, Repr

/-- A record write in hand (R160): the record, the target copy and the bytes being written. -/
structure RecordWrite where
  record : Nat
  copyB : Bool
  bytes : List Byte
deriving DecidableEq, Repr

/-- How far the command in hand has come. -/
inductive Stage where
  /-- No block in hand. -/
  | idle
  /-- The block is in hand in its first EXECUTE; its act is still to come (R23). -/
  | validate
  /-- The payload is in hand; the second EXECUTE's act is still to come (R28). -/
  | finish
  /-- A motion command waits behind a free motion (R36). -/
  | waiting
  /-- COMPACT GLYPHS at work (R54). -/
  | compacting
  /-- A record write at work (R160). -/
  | writing (write : RecordWrite)
  /-- RAM TEST at work; the next offset to be tested (R166). -/
  | ramTesting (offset : Nat)
  /-- An attached motion command whose motion is in hand (R30). -/
  | moving
deriving DecidableEq, Repr

structure Csq where
  block : List Byte
  payload : List Byte
  stage : Stage
  sense : Sense
  waitTimer : Timer
  attempts : Nat
deriving DecidableEq, Repr

/-! ### Glyph Store -/

/-- Table 3-2. -/
inductive GlyphState where
  | empty | defined | doomed
deriving DecidableEq, Repr

/-- Table 3-1. -/
structure Glyph where
  state : GlyphState
  width : Nat
  height : Nat
  size : Nat
  base : Nat
  count : Nat
deriving DecidableEq, Repr

/-- R43: an EMPTY entry has every field 0. -/
def Glyph.blank : Glyph := ⟨.empty, 0, 0, 0, 0, 0⟩

/-- A run of granules: its first granule and its length (R44). -/
structure Extent where
  first : Nat
  length : Nat
deriving DecidableEq, Repr

structure Gst where
  entries : List Glyph
  free : List Extent
  /-- The compaction cursor, set when a move begins (R54). -/
  cursor : Option Nat
  /-- The glyph whose move is in hand (R31, R56). -/
  moving : Option Nat
deriving DecidableEq, Repr

/-! ### Label Queue -/

/-- Rotation in quarter turns clockwise and the two magnifications (R67, section 5.5.3). -/
structure Transform where
  turns : Nat
  hm : Nat
  vm : Nat
deriving DecidableEq, Repr

/-- Table 4-4. -/
inductive Placement where
  | glyph (id x y op : Nat) (form : Transform)
  | text (x y op : Nat) (form : Transform) (spacing : Int) (ids : List Nat)
  | rule (x y width height op : Nat)
  | image (x y width height op : Nat) (bitmap : List Byte)
deriving DecidableEq, Repr

/-- Table 4-2. REMOVED is not here: no state between two steps ever shows it (R60). -/
inductive LabelState where
  | opened | queued | active
deriving DecidableEq, Repr

/-- Table 4-1. -/
structure Label where
  number : Half
  length : Nat
  copies : Nat
  done : Nat
  state : LabelState
  finishing : Bool
  placements : List Placement
  granules : Nat
deriving DecidableEq, Repr

/-- A copy of the label in a slot. -/
structure Copy where
  slot : Nat
  copy : Nat
deriving DecidableEq, Repr

/-- The copy that is printing (R59) and how many of its lines have been passed. -/
structure Printing where
  slot : Nat
  copy : Nat
  passed : Nat
deriving DecidableEq, Repr

structure Lbq where
  slots : List (Option Label)
  queue : List Nat
  poolFree : Nat
  /-- The run gate is open (R80). -/
  gate : Bool
  printing : Option Printing
deriving DecidableEq, Repr

/-! ### Composer and Raster Ring -/

/-- Table 5-2. -/
inductive BandState where
  | free | composing | ready | printing
deriving DecidableEq, Repr

/-- Table 5-1. -/
structure Band where
  state : BandState
  slot : Nat
  number : Half
  copy : Nat
  first : Nat
  count : Nat
  dots : List Nat
deriving DecidableEq, Repr

/-- A FREE band: no field but the state has a meaning (Table 5-1). -/
def Band.blank : Band := ⟨.free, 0, 0, 0, 0, 0, []⟩

/-- Where the composer cursor is seated (section 5.3). -/
structure Seat where
  slot : Nat
  copy : Nat
  line : Nat
deriving DecidableEq, Repr

structure Ring where
  bands : List Band
  head : Nat
  tail : Nat
  seat : Option Seat
deriving DecidableEq, Repr

/-! ### Head Drive -/

/-- Table 6-5. -/
inductive Thermal where
  | normal | hot | critical
deriving DecidableEq, Repr

/-- One driving of strobe lines (R103): the latched line, the segments driven and for how many microseconds. -/
structure Pulse where
  latched : Line
  segments : List Nat
  micros : Nat
deriving DecidableEq, Repr

/-- The line handed on in the last line step, and its dot count (R98). -/
structure CurrentLine where
  line : Line
  dots : Nat
deriving DecidableEq, Repr

structure Hdu where
  history : Line
  current : Option CurrentLine
  /-- What the last line step drove on the head, in order: an output of the model's own. -/
  strobe : List Pulse
  /-- The history clock in microseconds, or stopped (R98, R100). -/
  clock : Option Nat
  temp : Int
  strobed : Nat
  sampleTimer : Timer
  thermal : Thermal
deriving DecidableEq, Repr

/-! ### Feed Motion -/

/-- Table 7-2. -/
inductive Mode where
  | stopped | freeMove | printRun | stopping
deriving DecidableEq, Repr

/-- Table 7-4. -/
inductive StopKind where
  | soft | fault | dead
deriving DecidableEq, Repr

/-- Who ordered the stop in progress, and so who is told when it ends (R120). -/
inductive StopWhy where
  /-- A hold (R143). -/
  | hold
  /-- A halt (R145). -/
  | halt
  /-- Media out in a free move (R121). -/
  | mediaOut
  /-- A Break of an attached motion command (R13). -/
  | breakRequest
  /-- An edge search on the host's order that reached its limit (R134). -/
  | searchFailed
deriving DecidableEq, Repr

/-- The movement in hand, which decides its caps (Table 7-3). -/
inductive Move where
  | none
  /-- A FEED: backward or forward, and its speed, 0 for the profile's (R122). -/
  | feed (back : Bool) (cruise : Nat)
  /-- ADVANCE TO EDGE in CONTINUOUS mode (R135). -/
  | advance
  | present
  | retract
  /-- An edge find (R134). -/
  | find
  /-- A calibration (R136). -/
  | calibrate
  /-- A print run under the horizon of R115. -/
  | run
deriving DecidableEq, Repr

/-- Whose the free motion in progress is (R33 to R35). -/
inductive Owner where
  | attached | detached | engine
deriving DecidableEq, Repr

/-- The free motion in progress (R33): its command's code, 0 for the automatic present. -/
structure FreeMotion where
  code : Byte
  owner : Owner
deriving DecidableEq, Repr

/-- Table 7-1, rest reason. -/
inductive Rest where
  | none | starved | gate | finished | topUnknown
deriving DecidableEq, Repr

/-- Table 7-6. -/
inductive Present where
  | atPrintLine | presenting | presented | retracting
deriving DecidableEq, Repr

structure Fmu where
  pos : Pos
  speed : Nat
  /-- The direction of the last step was backward. -/
  backward : Bool
  mode : Mode
  target : Option Pos
  stop : Option StopKind
  why : Option StopWhy
  move : Move
  motion : Option FreeMotion
  rest : Rest
  underrun : Option Copy
  present : Present
  offset : Nat
  energised : Bool
  settling : Bool
  idleTimer : Timer
deriving DecidableEq, Repr

/-! ### Media Sense -/

/-- Section 8.2. -/
inductive Class where
  | media | marker | empty
deriving DecidableEq, Repr

/-- The three kinds of sample (R126). -/
inductive SampleKind where
  | step | idle | reset
deriving DecidableEq, Repr

/-- Table 8-2. -/
inductive RegState where
  | unknown | registered | flywheel
deriving DecidableEq, Repr

/-- The registration record (R131). -/
structure Registration where
  state : RegState
  top : Option Pos
  decided : Bool
  miss : Nat
deriving DecidableEq, Repr

/-- R131: the record whenever registration becomes UNKNOWN. -/
def Registration.lost : Registration := ⟨.unknown, none, false, 0⟩

/-- An edge find in hand (R134). -/
structure Find where
  /-- Edges still to be counted. -/
  need : Nat
  /-- The last edge counted. -/
  last : Option Pos
  /-- Steps taken since the later of the start and the last edge counted. -/
  steps : Nat
deriving DecidableEq, Repr

/-- Table 8-3. -/
inductive CalibPhase where
  | survey | measure | finishing
deriving DecidableEq, Repr

/-- A calibration in hand (R136, R137). -/
structure Calib where
  phase : CalibPhase
  /-- Steps taken in the phase. -/
  steps : Nat
  lowest : Nat
  highest : Nat
  /-- The candidate threshold, in force from MEASURE on. -/
  threshold : Nat
  /-- MARKER has been entered during MEASURE. -/
  entered : Bool
  e1 : Option Pos
  m : Option Pos
  /-- What E2 gave: the top, the pitch and the gap. -/
  top : Pos
  pitch : Nat
  gap : Nat
deriving DecidableEq, Repr

structure Msu where
  raw : Byte
  cls : Class
  cand : Option Class
  agree : Nat
  candPos : Pos
  lastKind : SampleKind
  absent : Bool
  emptyRun : Nat
  edges : List Pos
  lastEdge : Option Pos
  reg : Registration
  lastLen : Option Nat
  find : Option Find
  calib : Option Calib
  idleTimer : Timer
deriving DecidableEq, Repr

/-! ### Engine Supervisor -/

/-- Table 9-1. -/
inductive Condition where
  | faulted | idle | running | holding | paused | halted | recovering
deriving DecidableEq, Repr

/-- Table 9-3, in order of priority (R144). -/
inductive Cause where
  | headOpen | mediaOut | headCritical | registrationLost
deriving DecidableEq, Repr

/-- Table 9-4. -/
inductive EventCode where
  | reset | copyDone | labelDone | labelCancelled | labelSpoiled | queueIdle | moveDone | moveFailed | edgeMissed
  | registrationLost | headOpened | headClosed | mediaOut | mediaLoaded | hold | holdReleased | headCritical | halted
  | recovered | rasterUnderrun | glyphReleased | portMisuse | nvmDefaulted | overflow
deriving DecidableEq, Repr

/-- R152: a record of six bytes. -/
structure Event where
  code : EventCode
  attr : Byte
  label : Half
  detail : Half
deriving DecidableEq, Repr

structure Eng where
  cond : Condition
  headOpen : Bool
  /-- The halt cause set, bits as in Table 9-3. -/
  causes : BitVec 4
  primary : Option Cause
  haltPos : Pos
  interrupted : Option Copy
  /-- The applied disposition of the recovery in hand (R148). -/
  applied : Nat
  /-- The label number RECOVERED will carry (R148). -/
  recLabel : Half
  settle : Timer
  events : List Event
  overflow : Nat
  cursor : Nat
deriving DecidableEq, Repr

/-! ### Profile and non-volatile store -/

/-- Table 8-1. -/
inductive SensorMode where
  | gap | mark | continuous
deriving DecidableEq, Repr

/-- Table 10-1. -/
structure Profile where
  mode : SensorMode
  marker : Nat
  empty : Nat
  pitch : Nat
  gap : Nat
  speed : Nat
  accel : Nat
  darkness : Nat
  hot : Nat
  tolerance : Nat
  afterBatch : Bool
  autoRecover : Bool
  discard : Bool
  adjust : Int
deriving DecidableEq, Repr

/-- The defaults of Table 10-1. -/
def Profile.default : Profile :=
  ⟨.gap, 128, 224, 800, 24, 800, 8, 15, 60, 12, false, false, false, 0⟩

/-- Table 10-2. -/
structure Mechanism where
  sensorOffset : Nat
  tearOffset : Nat
  startSpeed : Nat
  faultDecel : Nat
  powerLimit : Nat
  critical : Nat
  outLength : Nat
  powerSlot : Nat
deriving DecidableEq, Repr

/-- The defaults of Table 10-2. -/
def Mechanism.default : Mechanism := ⟨96, 120, 200, 48, 416, 75, 48, 0⟩

/-- A stored copy (R158): the bytes the store returns. Nothing else says whether it is valid. -/
structure StoredCopy where
  bytes : List Byte
deriving DecidableEq, Repr

structure StoredRecord where
  a : StoredCopy
  b : StoredCopy
deriving DecidableEq, Repr

structure Nvs where
  profile : Profile
  mech : Mechanism
  /-- Records 0 to 4. -/
  store : List StoredRecord
deriving DecidableEq, Repr

/-! ### Memory and the whole machine -/

/-- The three memories of Table 11-2: the bytes that are not 0x00, by offset, offsets rising. -/
structure Memory where
  cells : List Host.Cell
deriving DecidableEq, Repr

/-- The controller. Nothing in it is a function: two states can be compared, and a state can be written out. -/
structure State where
  hpu : Hpu
  csq : Csq
  gst : Gst
  lbq : Lbq
  ring : Ring
  hdu : Hdu
  fmu : Fmu
  msu : Msu
  eng : Eng
  nvs : Nvs
  ram : Memory
  /-- The protect strap as last sampled (R2, R157). -/
  strap : Bool
  /-- The steps still to come, first in, first out: the model's own. -/
  pending : List Instr
deriving DecidableEq, Repr

/-- The reasons for a fault. -/
inductive Fault where
  /-- Raised by RAM_BYTE_TEST when the next offset to be tested lies above 51,199, an address Table 11-2 says does
  not exist. No run from reset reaches it. Safe: the model stops where the part has no such byte. -/
  | noSuchOffset (offset : Nat)
deriving DecidableEq, Repr

/-- The reasons for a refusal. -/
inductive Refusal where
  /-- Raised by an arm of exec whose row has no meaning yet. No arm raises it. Safe. -/
  | notModelled (mnemonic : String)
deriving DecidableEq, Repr

/-- A label number or detail that concerns no label (R152). -/
abbrev noLabel : Half := 0xFFFF

/-- A record never written: the erased store (log 3). -/
def StoredRecord.erased (length : Nat) : StoredRecord :=
  ⟨⟨List.replicate length 0xFF⟩, ⟨List.replicate length 0xFF⟩⟩

/-- The machine at the end of a power-on reset whose RAM test passed (Table 11-1, R164, R165), with the inputs of
log 2 and the never-written store of log 3; log 4 names the fields the manual gives no value. -/
def State.reset : State where
  hpu := { phase := .free, counter := 0, length := 0, latch := 0, cmd := [], result := [], byteTimer := none,
           mask := 0, drq := false, cirq := false, misuse := false, breakPending := false, seq := 0,
           completion := 0, bus := 0, service := .inService }
  csq := { block := [], payload := [], stage := .idle,
           sense := ⟨.resetOccurred, 0, none, .detail 1⟩, waitTimer := none, attempts := 0 }
  gst := { entries := List.replicate Config.glyphIds .blank, free := [⟨0, Config.glyphGranules⟩],
           cursor := none, moving := none }
  lbq := { slots := List.replicate Config.labelSlots none, queue := [], poolFree := Config.poolGranules,
           gate := true, printing := none }
  ring := { bands := List.replicate Config.ringBands .blank, head := 0, tail := 0, seat := none }
  hdu := { history := List.replicate Config.lineBytes 0, current := none, strobe := [], clock := none,
           temp := 25, strobed := 0, sampleTimer := some Config.sampleInterval, thermal := .normal }
  fmu := { pos := 0, speed := 0, backward := false, mode := .stopped, target := none, stop := none, why := none,
           move := .none, motion := none, rest := .none, underrun := none, present := .atPrintLine, offset := 0,
           energised := false, settling := false, idleTimer := none }
  msu := { raw := 0, cls := .media, cand := none, agree := 0, candPos := 0, lastKind := .reset, absent := false,
           emptyRun := 0, edges := [], lastEdge := none, reg := .lost, lastLen := none, find := none,
           calib := none, idleTimer := some Config.idleInterval }
  eng := { cond := .idle, headOpen := false, causes := 0, primary := none, haltPos := 0, interrupted := none,
           applied := 0, recLabel := noLabel, settle := none,
           events := [⟨.reset, 1, noLabel, 0⟩, ⟨.nvmDefaulted, 0, noLabel, 0⟩, ⟨.nvmDefaulted, 0, noLabel, 1⟩],
           overflow := 0, cursor := 0 }
  nvs := { profile := .default, mech := .default,
           store := .erased 14 :: List.replicate 4 (.erased 20) }
  ram := ⟨[]⟩
  strap := false
  pending := []

end Sys2Proof.Machine
end

