-- ==== Sys2Proof/Machine/Memory.lean ====
section
/-! DEFINITION. The three memories under the numbering of Table 11-2: reading, and writing a run of bytes, in one
canonical form. A byte that is not listed reads 0x00, which is what the power-up test leaves everywhere (R165). -/

namespace Sys2Proof.Machine

/-- The byte at an offset of Table 11-2. -/
def Memory.read (m : Memory) (a : Nat) : Byte :=
  match m.cells.find? (fun c => c.1 == a) with
  | some c => c.2
  | none => 0

/-- The bytes at `len` offsets from `base` on. -/
def Memory.readBlock (m : Memory) (base len : Nat) : List Byte :=
  (List.range len).map fun i => m.read (base + i)

/-- The cells that a run of bytes makes: a 0x00 is not listed. -/
def cellsOf : Nat → List Byte → List Host.Cell
  | _, [] => []
  | a, b :: bs => if b = 0 then cellsOf (a + 1) bs else (a, b) :: cellsOf (a + 1) bs

/-- The memory with a run of bytes written from `base` on. -/
def Memory.writeBlock (m : Memory) (base : Nat) (bytes : List Byte) : Memory :=
  ⟨m.cells.filter (fun c => decide (c.1 < base)) ++ cellsOf base bytes
    ++ m.cells.filter (fun c => decide (base + bytes.length ≤ c.1))⟩

/-- The canonical form: offsets strictly rising, and no 0x00 listed. -/
def Memory.wf (m : Memory) : Bool :=
  decide (m.cells.Pairwise fun a b => a.1 < b.1) && m.cells.all fun c => decide (c.2 ≠ 0)

end Sys2Proof.Machine
end

