-- ==== Sys2Proof/Machine/Flags.lean ====
section
/-! DEFINITION. The codes and flag bytes that the controller shows: sense and event codes (Tables 2-7, 9-4), the Port
Status, Identity and completion bytes (Tables 1-2, 2-4), the two output lines of the port, and the states of the blocks
as results code them. -/

namespace Sys2Proof.Machine

/-- A bit as a number. -/
def bit (b : Bool) : Nat := if b then 1 else 0

/-- A byte from its bits, bit 0 first. -/
def byteOfBits (bs : List Bool) : Byte :=
  BitVec.ofNat 8 (bs.foldr (fun b n => bit b + 2 * n) 0)

/-- Table 2-7. -/
def SenseCode.byte : SenseCode → Byte
  | .noSense => 0x00 | .resetOccurred => 0x01 | .recovered => 0x02
  | .engineHalted => 0x10 | .headOpen => 0x11 | .mediaOut => 0x12 | .headCritical => 0x13
  | .motionTimeout => 0x14 | .engineBusy => 0x15 | .engineFault => 0x16 | .stillMoving => 0x17
  | .edgeNotFound => 0x20 | .registrationLost => 0x21 | .calibrationFailed => 0x22 | .noContrast => 0x23
  | .checkByteError => 0x30 | .invalidCommand => 0x31 | .invalidParameter => 0x32 | .noOpenLabel => 0x33
  | .labelAlreadyOpen => 0x34 | .queueFull => 0x35 | .labelNotFound => 0x36 | .payloadCheckError => 0x37
  | .aborted => 0x38 | .placementOutsideLabel => 0x39
  | .glyphUndefined => 0x40 | .glyphInUse => 0x41 | .glyphMemoryFull => 0x42 | .glyphMemoryFragmented => 0x43
  | .placementPoolFull => 0x44 | .nvmProtected => 0x45 | .nvmWriteFailed => 0x46 | .profileInvalid => 0x47
  | .ramFault => 0x48 | .glyphLimit => 0x49
  | .portTimeout => 0x50

/-- Table 9-4. -/
def EventCode.byte : EventCode → Byte
  | .reset => 0x01 | .copyDone => 0x10 | .labelDone => 0x11 | .labelCancelled => 0x12 | .labelSpoiled => 0x13
  | .queueIdle => 0x14 | .moveDone => 0x20 | .moveFailed => 0x21 | .edgeMissed => 0x22
  | .registrationLost => 0x23 | .headOpened => 0x30 | .headClosed => 0x31 | .mediaOut => 0x32
  | .mediaLoaded => 0x33 | .hold => 0x34 | .holdReleased => 0x35 | .headCritical => 0x36 | .halted => 0x37
  | .recovered => 0x38 | .rasterUnderrun => 0x40 | .glyphReleased => 0x41 | .portMisuse => 0x50
  | .nvmDefaulted => 0x51 | .overflow => 0x7F

/-- R15: the phase as the detail of PORT MISUSE codes it. -/
def Phase.code : Phase → Nat
  | .free => 0 | .command => 1 | .execute => 2 | .dataOut => 3 | .dataIn => 4 | .completion => 5

/-- Table 9-1. -/
def Condition.code : Condition → Nat
  | .faulted => 0 | .idle => 1 | .running => 2 | .holding => 3 | .paused => 4 | .halted => 5 | .recovering => 6

/-- R131. -/
def RegState.code : RegState → Nat
  | .unknown => 0 | .registered => 1 | .flywheel => 2

/-- R138. -/
def Class.code : Class → Nat
  | .media => 0 | .marker => 1 | .empty => 2

/-- Table 3-4. -/
def GlyphState.code : GlyphState → Nat
  | .empty => 0 | .defined => 1 | .doomed => 2

/-- Table 9-3: the sense code and event detail of a cause. -/
def Cause.sense : Cause → SenseCode
  | .headOpen => .headOpen | .mediaOut => .mediaOut | .headCritical => .headCritical
  | .registrationLost => .registrationLost

/-- Table 9-3: the cause's bit in the cause set. -/
def Cause.index : Cause → Nat
  | .headOpen => 0 | .mediaOut => 1 | .headCritical => 2 | .registrationLost => 3

/-- Low byte first (section 7.2). -/
def lowHigh (h : Half) : List Byte := [h.setWidth 8, (h >>> 8).setWidth 8]

/-- A 32-bit field, low byte first (section 7.2). -/
def fourBytes (p : Pos) : List Byte :=
  [p.setWidth 8, (p >>> 8).setWidth 8, (p >>> 16).setWidth 8, (p >>> 24).setWidth 8]

/-- R152: the six bytes of an event record. -/
def Event.bytes (e : Event) : List Byte :=
  [e.code.byte, e.attr] ++ lowHigh e.label ++ lowHigh e.detail

/-- Table 2-6: the ten bytes of the sense record. -/
def Sense.bytes (r : Sense) : List Byte :=
  let flags := byteOfBits
    [r.label.isSome,
     match r.info with | .position _ => true | _ => false,
     match r.info with | .glyph _ => true | _ => false,
     match r.info with | .detail _ => true | _ => false]
  let last : Pos := match r.info with
    | .nothing => 0
    | .position p => p
    | .glyph id => BitVec.ofNat 32 id
    | .detail d => d
  [r.code.byte, r.code.byte / 16, flags, r.failing] ++ lowHigh (r.label.getD 0) ++ fourBytes last

/-- R6 to R10, Table 1-3. -/
def Hpu.busy (h : Hpu) : Bool := h.phase != .free
def Hpu.req (h : Hpu) : Bool :=
  match h.phase with
  | .command | .dataOut | .dataIn | .completion => true
  | .free | .execute => false
def Hpu.ctl (h : Hpu) : Bool :=
  match h.phase with
  | .command | .completion => true
  | _ => false
def Hpu.dir (h : Hpu) : Bool :=
  match h.phase with
  | .dataIn | .completion => true
  | _ => false

/-- R5: the notify enables, by bit of the mask (R4). -/
def Hpu.dmaEnable (h : Hpu) : Bool := h.mask.getLsbD 0
def Hpu.completionEnable (h : Hpu) : Bool := h.mask.getLsbD 1
def Hpu.eventEnable (h : Hpu) : Bool := h.mask.getLsbD 2

/-- R3: ATTN and the HALTED bit of the completion byte. -/
def Eng.attention (e : Eng) : Bool := e.cond == .halted || e.cond == .faulted

/-- Table 1-2, R3, R20: the Port Status byte. -/
def portStatus (s : State) : Byte :=
  match s.hpu.service with
  | .held => 0xFF
  | .starting => 0x08
  | .inService =>
    byteOfBits [s.hpu.req, s.hpu.dir, s.hpu.ctl, s.hpu.busy, s.hpu.drq, s.hpu.cirq,
      !s.eng.events.isEmpty, s.eng.attention]

/-- R2, R20: the Identity Port with the strap at this level at the moment of the read. -/
def identityPort (s : State) (strap : Bool) : Byte :=
  match s.hpu.service with
  | .held => 0xFF
  | .starting | .inService => if strap then 0x63 else 0x62

/-- R18: the interrupt request output. -/
def irq (s : State) : Bool := s.hpu.cirq || (!s.eng.events.isEmpty && s.hpu.eventEnable)

/-- R16: the DMA request output follows the flip-flop. -/
def dmaRequest (s : State) : Bool := s.hpu.drq

/-- Table 2-4, R37: the completion byte, from how the command ends, the sequence counter and the engine. -/
def completionByte (e : Ending) (seq : BitVec 3) (motion events halted : Bool) : Byte :=
  let error := match e with | .error _ _ _ => true | _ => false
  let remark := match e with | .notice _ => true | _ => false
  byteOfBits [error, remark, motion, events, halted, seq.getLsbD 0, seq.getLsbD 1, seq.getLsbD 2]

/-- R39: the sense record that describes an ending. -/
def Ending.sense (e : Ending) (failing : Byte) : Sense :=
  match e with
  | .ok => ⟨.noSense, failing, none, .nothing⟩
  | .notice detail => ⟨.recovered, failing, none, .detail detail⟩
  | .error code label info => ⟨code, failing, label, info⟩

/-- Table 6-5: both requests follow the thermal state. -/
def Thermal.hold : Thermal → Bool
  | .normal => false
  | .hot | .critical => true
def Thermal.crit : Thermal → Bool
  | .critical => true
  | .normal | .hot => false

end Sys2Proof.Machine
end

