-- ==== Sys2Proof/Machine/Operands.lean ====
section
/-! DEFINITION. The fields of a command block and of a payload (Table 2-1): little-endian numbers, signed fields, the
control byte, and the catalogue's codes (section 2.8). -/

namespace Sys2Proof.Machine

/-- Byte `i` of a block or payload. -/
def byteAt (l : List Byte) (i : Nat) : Byte := l.getD i 0

/-- The byte as a number. -/
def num8 (l : List Byte) (i : Nat) : Nat := (byteAt l i).toNat

/-- A 16-bit field, low byte first. -/
def half (l : List Byte) (i : Nat) : Half := (byteAt l (i + 1)) ++ (byteAt l i)

/-- A 16-bit field as an unsigned number. -/
def num16 (l : List Byte) (i : Nat) : Nat := (half l i).toNat

/-- A 16-bit field as a signed number. -/
def int16 (l : List Byte) (i : Nat) : Int := (half l i).toInt

/-- A signed byte. -/
def int8 (l : List Byte) (i : Nat) : Int := (byteAt l i).toInt

/-- R21: control bits. -/
def detachBit (block : List Byte) : Bool := (byteAt block 1).getLsbD 7
def immediateBit (block : List Byte) : Bool := (byteAt block 1).getLsbD 6
/-- R21: the modifiers are bits 5–0 of the control byte. -/
def modifierBit (block : List Byte) (i : Nat) : Bool := (byteAt block 1).getLsbD i

/-- The thirty codes of section 2.8. -/
def commandCodes : List Byte :=
  [0x11, 0x12, 0x13, 0x14,
   0x21, 0x22, 0x23, 0x24, 0x25, 0x26,
   0x31, 0x32, 0x33, 0x34,
   0x41, 0x42, 0x43, 0x44, 0x45, 0x46, 0x47, 0x48, 0x49,
   0x51, 0x52, 0x53, 0x54, 0x55, 0x56,
   0x61]

/-- The six motion commands, on which alone DETACH is honoured (R21). -/
def motionCodes : List Byte := [0x51, 0x52, 0x53, 0x54, 0x55, 0x56]

/-- The four commands that pass the fault gate (R24). -/
def faultGateCodes : List Byte := [0x12, 0x13, 0x26, 0x61]

/-- R22: the sum of the block's bytes modulo 256. -/
def checkSum (block : List Byte) : Byte := block.foldl (· + ·) 0

/-- The transform byte of R67: rotation, and each magnification less 1. -/
def transformOf (b : Byte) : Transform :=
  ⟨b.toNat % 4, b.toNat / 4 % 4 + 1, b.toNat / 16 % 4 + 1⟩

/-- ⌈a/b⌉ (section 7.2). -/
def ceilDiv (a b : Nat) : Nat := (a + b - 1) / b

/-- Bytes of a bitmap of width w and height h (section 7.4). -/
def bitmapBytes (w h : Nat) : Nat := ceilDiv w 8 * h

/-- The dot in column u of row v of a bitmap of this width (section 7.4, R92). -/
def bitmapDot (fetch : Nat → Byte) (width u v : Nat) : Bool :=
  (fetch (v * ceilDiv width 8 + u / 8)).getLsbD (7 - u % 8)

/-- R110: how far q lies ahead of p, taken modulo 2^32 as a signed number. -/
def ahead (p q : Pos) : Int := (q - p).toInt

/-- A position plus a signed number of lines (R110). -/
def shift (p : Pos) (n : Int) : Pos := p + BitVec.ofInt 32 n

/-- Positions in an event's detail are their low 16 bits (R152). -/
def low16 (p : Pos) : Half := p.setWidth 16

/-- Refusals as a table: the first row whose condition holds decides (R23). -/
def firstOf : List (Bool × Ending) → Option Ending
  | [] => none
  | (c, e) :: rest => if c then some e else firstOf rest

/-- INVALID PARAMETER with the index of the byte blamed (R25). -/
def badParameter (index : Nat) : Ending :=
  .error .invalidParameter none (.detail (BitVec.ofNat 32 index))

/-- A refusal whose code carries no field (Table 2-7). -/
def refusal (code : SenseCode) : Ending := .error code none .nothing

/-- A refusal whose code carries the detail (Table 2-7). -/
def refusalDetail (code : SenseCode) (d : Nat) : Ending := .error code none (.detail (BitVec.ofNat 32 d))

/-- A refusal whose code names a glyph (Table 2-7). -/
def refusalGlyph (code : SenseCode) (id : Nat) : Ending := .error code none (.glyph id)

end Sys2Proof.Machine
end

