-- ==== Sys2Proof/Machine/Ops.lean ====
section
/-! DEFINITION. The operations every block uses: posting an event (R152), the misuse latch (R15), the rise of REQ (R5,
R16), the sequencer's three orders to the port (R8) with entry into COMPLETION (R10, R37, R39), and the two ways a row
is served (R20). -/

namespace Sys2Proof.Machine

/-- R152: a record joins the tail; with 16 held it is lost and counted. -/
def State.post (s : State) (e : Event) : State :=
  if s.eng.events.length < Config.maxEvents then
    { s with eng := { s.eng with events := s.eng.events ++ [e] } }
  else
    { s with eng := { s.eng with overflow := min Config.maxOverflow (s.eng.overflow + 1) } }

/-- R15: refuse; the first misuse with the latch clear sets it and posts PORT MISUSE. -/
def State.refuseAccess (s : State) (kind : Byte) : State :=
  if s.hpu.misuse then s
  else
    ({ s with hpu := { s.hpu with misuse := true } } : State).post
      ⟨.portMisuse, kind, noLabel, BitVec.ofNat 16 s.hpu.phase.code⟩

/-- R5, R14, R16: REQ rises in a data phase; the byte timeout starts, and DRQ is what the DMA enable makes it. -/
def State.raiseReq (s : State) : State :=
  { s with hpu := { s.hpu with byteTimer := some Config.byteTimeout, drq := s.hpu.dmaEnable } }

/-- The engine as the completion byte shows it (R37). -/
def State.completionByteFor (s : State) (e : Ending) (seq : BitVec 3) : Byte :=
  completionByte e seq s.fmu.motion.isSome (!s.eng.events.isEmpty) (s.eng.cond == .halted)

/-- R10, R11, R37, R39: entry into COMPLETION. The sense record is replaced unless `keep` (R41). -/
def State.complete (s : State) (keep : Bool) (e : Ending) : State :=
  { s with
    hpu := { s.hpu with
      phase := .completion
      seq := s.hpu.seq + 1
      completion := s.completionByteFor e (s.hpu.seq + 1)
      cirq := s.hpu.cirq || s.hpu.completionEnable
      result := []
      byteTimer := none
      breakPending := false }
    csq := { s.csq with
      block := []
      payload := []
      stage := .idle
      sense := if keep then s.csq.sense else e.sense (byteAt s.csq.block 0)
      waitTimer := none
      attempts := 0 } }

/-- R41: the command in hand is a REQUEST SENSE (its block has passed steps 1 and 2). -/
def State.requestSenseInHand (s : State) : Bool := s.csq.block.head? == some 0x12

/-- The command in hand ends; a REQUEST SENSE leaves the sense record (R39, R41). -/
def State.finish (s : State) (e : Ending) : State := s.complete s.requestSenseInHand e

/-- R13: ended at a safe point with the Break-pending flag set. -/
def State.abort (s : State) : State := s.finish (refusal .aborted)

/-- R8: enter DATA OUT with a length. -/
def State.enterDataOut (s : State) (length : Nat) : State :=
  { s with
    hpu := { s.hpu with
      phase := .dataOut, counter := 0, length := length
      byteTimer := some Config.byteTimeout, drq := s.hpu.dmaEnable }
    csq := { s.csq with payload := [] } }

/-- R8: enter DATA IN with the result bytes, the first of them in the latch. -/
def State.enterDataIn (s : State) (bytes : List Byte) : State :=
  { s with
    hpu := { s.hpu with
      phase := .dataIn, counter := 0, length := bytes.length, latch := bytes.headD 0, result := bytes.tail
      byteTimer := some Config.byteTimeout, drq := s.hpu.dmaEnable }
    csq := { s.csq with stage := .idle } }

/-- The part does what its rules say only while it is in service (R20). -/
def State.running (s : State) : Bool := s.hpu.service == .inService

/-- A row that reads nothing: out of service it is ignored (R20). -/
def State.served (s : State) (f : State → State) : State := if s.running then f s else s

/-- A read access: out of service it returns 0xFF and changes nothing else (R20). -/
def State.servedRead (s : State) (f : State → State) : State :=
  if s.running then f s else { s with hpu := { s.hpu with bus := 0xFF } }

end Sys2Proof.Machine
end

