-- ==== Sys2Proof/Machine/GlyphStore.lean ====
section
/-! DEFINITION. The glyph store's operations (Chapter 3): the free list (R44 to R46), the directory, reference counts and
deferred release (R47 to R49), storing a bitmap (R51), and compaction (R54 to R56). -/

namespace Sys2Proof.Machine

/-- Granules of a bitmap of this many bytes (section 3.1). -/
def granules (bytes : Nat) : Nat := ceilDiv bytes 8

/-- R46: an extent joins the free list at its place, merged with its neighbours. -/
def freeInsert (first length : Nat) : List Extent → List Extent
  | [] => [⟨first, length⟩]
  | e :: rest =>
    if first + length < e.first then ⟨first, length⟩ :: e :: rest
    else if first + length = e.first then ⟨first, length + e.length⟩ :: rest
    else if e.first + e.length = first then freeInsert e.first (e.length + length) rest
    else e :: freeInsert first length rest

/-- R45: first fit. The granule found and the list that remains. -/
def firstFit (g : Nat) : List Extent → Option (Nat × List Extent)
  | [] => none
  | e :: rest =>
    if g ≤ e.length then
      some (e.first, if e.length = g then rest else ⟨e.first + g, e.length - g⟩ :: rest)
    else (firstFit g rest).map fun r => (r.1, e :: r.2)

/-- The free list without the granules of one extent (R54: a moved glyph covers them). -/
def freeCarve (first length : Nat) (l : List Extent) : List Extent :=
  l.flatMap fun e =>
    [(⟨e.first, min e.length (first - e.first)⟩ : Extent),
     ⟨max e.first (first + length), e.first + e.length - max e.first (first + length)⟩].filter
      fun x => decide (0 < x.length)

/-- R44: all free granules. -/
def totalFree (l : List Extent) : Nat := (l.map (·.length)).sum

/-- R44: the longest free extent. -/
def longestFree (l : List Extent) : Nat := (l.map (·.length)).foldl max 0

/-- The directory entry of an id. -/
def Gst.entry (g : Gst) (id : Nat) : Glyph := g.entries.getD id .blank

def Gst.setEntry (g : Gst) (id : Nat) (e : Glyph) : Gst := { g with entries := g.entries.set id e }

/-- R46, R49: the glyph's extent is free and its entry EMPTY. A move of it that is in hand is abandoned (R31). DESIGN
CHOICE (log 51): the granules that the abandoned move had written, which R31 says stay free, hold what they held before
the move. -/
def Gst.release (g : Gst) (id : Nat) : Gst :=
  { (g.setEntry id .blank) with
    free := freeInsert (g.entry id).base (granules (g.entry id).size) g.free
    cursor := if g.moving == some id then none else g.cursor
    moving := if g.moving == some id then none else g.moving }

/-- The glyph ids a placement names, occurrence by occurrence (section 3.3). -/
def Placement.uses : Placement → List Nat
  | .glyph id _ _ _ _ => [id]
  | .text _ _ _ _ _ ids => ids
  | .rule _ _ _ _ _ => []
  | .image _ _ _ _ _ _ => []

/-- R47: a placement's occurrences are added. -/
def Gst.addReferences (g : Gst) (ids : List Nat) : Gst :=
  { g with entries := g.entries.mapIdx fun i e => { e with count := e.count + ids.count i } }

/-- R47: the first id, in the order named, whose count would pass 65,535. -/
def Gst.overLimit (g : Gst) (ids : List Nat) : Option Nat :=
  ids.find? fun id => decide (Config.maxReferences < (g.entry id).count + ids.count id)

/-- R48, R49: one id's occurrences leave; a DOOMED glyph at 0 is released and reported with the label's number. -/
def State.dropReference (number : Half) (ids : List Nat) (s : State) (id : Nat) : State :=
  let e := s.gst.entry id
  let n := ids.count id
  if n = 0 then s
  else if e.state = .doomed ∧ e.count - n = 0 then
    ({ s with gst := s.gst.release id } : State).post ⟨.glyphReleased, 0, number, BitVec.ofNat 16 id⟩
  else { s with gst := s.gst.setEntry id { e with count := e.count - n } }

/-- R48, R49: a label's placements leave, ids in increasing order. -/
def State.dropReferences (s : State) (number : Half) (ids : List Nat) : State :=
  (List.range Config.glyphIds).foldl (State.dropReference number ids) s

/-- The first byte of a granule, under Table 11-2. -/
def glyphOffset (granule : Nat) : Nat := Config.glyphBase + 8 * granule

/-- R51: the bitmap at the start of the extent, the rest of its last granule 0. -/
def padded (bitmap : List Byte) : List Byte :=
  bitmap ++ List.replicate (8 * granules bitmap.length - bitmap.length) 0

/-- R51, R52: a bitmap is stored under an id in the extent that first fit gives; an old extent is released after. -/
def State.defineGlyph (s : State) (id width height : Nat) (bitmap : List Byte) : State :=
  match firstFit (granules bitmap.length) s.gst.free with
  | none => s
  | some (base, free) =>
    let old := s.gst.entry id
    let free := if old.state = .empty then free else freeInsert old.base (granules old.size) free
    { s with
      gst := { (s.gst.setEntry id ⟨.defined, width, height, bitmap.length, base, 0⟩) with free := free }
      ram := s.ram.writeBlock (glyphOffset base) (padded bitmap) }

/-- The DEFINED or DOOMED glyph whose extent begins at a granule. -/
def Gst.glyphAt (g : Gst) (granule : Nat) : Option Nat :=
  (List.range Config.glyphIds).find? fun id =>
    decide ((g.entry id).state ≠ .empty ∧ (g.entry id).base = granule)

/-- R54 steps 1 to 3: where the next move goes and whose it is; none when the store is compact. -/
def Gst.nextMove (g : Gst) : Option (Nat × Nat) :=
  match g.free with
  | [] => none
  | e :: _ => (g.glyphAt (e.first + e.length)).map fun id => (e.first, id)

/-- R54 step 3: the glyph's bitmap is copied down to the cursor and the granules it no longer covers are free. DESIGN CHOICE
(log 55): all the bytes of its granules are copied, also those of the last granule beyond its byte size. -/
def State.moveGlyph (s : State) (cursor id : Nat) : State :=
  let e := s.gst.entry id
  let g := granules e.size
  { s with
    gst := { (s.gst.setEntry id { e with base := cursor }) with
      free := freeCarve cursor g (freeInsert e.base g s.gst.free)
      cursor := none
      moving := none }
    ram := s.ram.writeBlock (glyphOffset cursor) (s.ram.readBlock (glyphOffset e.base) (8 * g)) }

/-- R58: at a port reset every count is 0 and every DOOMED glyph is released. The ids released, in order. -/
def Gst.doomedIds (g : Gst) : List Nat :=
  (List.range Config.glyphIds).filter fun id => decide ((g.entry id).state = .doomed)

def Gst.portReset (g : Gst) : Gst :=
  let g := g.doomedIds.foldl Gst.release g
  { g with entries := g.entries.map fun e => { e with count := 0 }, cursor := none, moving := none }

end Sys2Proof.Machine
end

