-- ==== Sys2Proof/Machine/Ring.lean ====
section
/-! DEFINITION. The raster ring and the composer cursor (Chapter 5): the bands in ring order, the remaining print order
(R84), seating (R85, R88, R97), claiming (R86), and the two ways bands are taken away (R95, R96). -/

namespace Sys2Proof.Machine

/-- The label a slot holds. -/
def Lbq.label (q : Lbq) (slot : Nat) : Option Label := q.slots.getD slot none

/-- R84 items 2 and 3: the first copy still to be printed of the label in a slot. -/
def Lbq.firstCopy (q : Lbq) (slot : Nat) : Option Copy :=
  (q.label slot).map fun l => ⟨slot, l.done + 1⟩

/-- The slot behind this one in the print queue. -/
def slotAfter (slot : Nat) : List Nat → Option Nat
  | [] => none
  | a :: rest => if a = slot then rest.head? else slotAfter slot rest

/-- R84, R88: the copy behind this one in the remaining print order. -/
def Lbq.copyAfter (q : Lbq) (c : Copy) : Option Copy :=
  match q.label c.slot with
  | none => none
  | some l =>
    if c.copy < l.copies ∧ !l.finishing then some ⟨c.slot, c.copy + 1⟩
    else (slotAfter c.slot q.queue).bind q.firstCopy

/-- R84: the copy whose line 0 is the next to be passed, behind the printing copy if there is one. -/
def Lbq.nextCopy (q : Lbq) : Option Copy :=
  match q.printing with
  | some p => q.copyAfter ⟨p.slot, p.copy⟩
  | none => q.queue.head?.bind q.firstCopy

/-- R84: whether the remaining print order holds a copy or the rest of one. -/
def Lbq.workRemains (q : Lbq) : Bool := q.printing.isSome || q.nextCopy.isSome

/-- Band i of the ring. -/
def Ring.band (r : Ring) (i : Nat) : Band := r.bands.getD (i % Config.ringBands) .blank

/-- The bands from the head on, round the ring. -/
def Ring.inOrder (r : Ring) : List Band := (List.range Config.ringBands).map fun i => r.band (r.head + i)

/-- R82: the bands that are not FREE, from the head on. -/
def Ring.run (r : Ring) : List Band := r.inOrder.takeWhile fun b => b.state != .free

/-- READY or PRINTING: its lines are held. -/
def Band.held (b : Band) : Bool := b.state == .ready || b.state == .printing

/-- R97 with no band surviving: the start of the remaining print order. -/
def Lbq.firstSeat (q : Lbq) : Option Seat :=
  match q.printing with
  | some p => some ⟨p.slot, p.copy, p.passed / Config.bandLines * Config.bandLines⟩
  | none => q.nextCopy.map fun c => ⟨c.slot, c.copy, 0⟩

/-- R88: the seat behind a band. -/
def Lbq.seatAfter (q : Lbq) (b : Band) : Option Seat :=
  match q.label b.slot with
  | none => none
  | some l =>
    if b.first + Config.bandLines < l.length then some ⟨b.slot, b.copy, b.first + Config.bandLines⟩
    else (q.copyAfter ⟨b.slot, b.copy⟩).map fun c => ⟨c.slot, c.copy, 0⟩

/-- R97: the first band of the remaining print order that no READY or PRINTING band holds. -/
def State.reseat (s : State) : State :=
  { s with ring := { s.ring with
      seat := match (s.ring.run.filter Band.held).getLast? with
        | some b => s.lbq.seatAfter b
        | none => s.lbq.firstSeat } }

/-- R95: every band is FREE and head and tail stand where the tail stood. -/
def Ring.flush (r : Ring) : Ring :=
  { r with bands := List.replicate Config.ringBands .blank, head := r.tail }

/-- R96: the ring without the band that `cut` finds first and every band after it. -/
def Ring.truncate (r : Ring) (cut : Band → Bool) : Ring :=
  let keep := (r.run.takeWhile fun b => !cut b).length
  if keep = r.run.length then r
  else
    { r with
      bands := (List.range Config.ringBands).map fun i =>
        if (i + Config.ringBands - r.head) % Config.ringBands < keep then r.band i else .blank
      tail := (r.head + keep) % Config.ringBands }

def Ring.setBand (r : Ring) (i : Nat) (b : Band) : Ring :=
  { r with bands := r.bands.set (i % Config.ringBands) b }

/-- R86: the three conditions of a claim. -/
def Ring.mayClaim (r : Ring) : Bool :=
  r.seat.isSome && (r.band r.tail).state == .free
    && (r.bands.all (fun b => b.state == .free) || (r.band (r.tail + Config.ringBands - 1)).held)

/-- R86: the claim, with the record filled from the cursor (R81). -/
def State.claim (s : State) : State :=
  match s.ring.seat with
  | none => s
  | some c =>
    match s.lbq.label c.slot with
    | none => s
    | some l =>
      if s.ring.mayClaim then
        { s with ring := { s.ring.setBand s.ring.tail
              ⟨.composing, c.slot, l.number, c.copy, c.line, min Config.bandLines (l.length - c.line), []⟩ with
            tail := (s.ring.tail + 1) % Config.ringBands } }
      else s

/-- The COMPOSING band's place, if there is one: it stands just before the tail (R82). -/
def Ring.composing (r : Ring) : Option Nat :=
  let i := (r.tail + Config.ringBands - 1) % Config.ringBands
  if (r.band i).state = .composing then some i else none

/-- R83, R115: the dot counts of the lines of a copy that READY and PRINTING bands hold, from a line on. -/
def heldDots (c : Copy) : Nat → List Band → List Nat
  | _, [] => []
  | line, b :: rest =>
    if b.held ∧ b.slot = c.slot ∧ b.copy = c.copy ∧ b.first ≤ line ∧ line < b.first + b.count then
      b.dots.drop (line - b.first) ++ heldDots c (b.first + b.count) rest
    else heldDots c line rest

def State.heldFrom (s : State) (c : Copy) (line : Nat) : List Nat := heldDots c line s.ring.run

/-- R83: the head band after its line has been passed. -/
def Ring.passLine (r : Ring) (line : Nat) : Ring :=
  let b := r.band r.head
  if line + 1 < b.first + b.count then r.setBand r.head { b with state := .printing }
  else { r.setBand r.head .blank with head := (r.head + 1) % Config.ringBands }

end Sys2Proof.Machine
end

