-- ==== Sys2Proof/Machine/Compose.lean ====
section
/-! DEFINITION. What a placement covers and what it prints (section 5.5): raster operations (R90), footprints and clipping
(R66, R91, R92), rotation and magnification (R93), text layout (R94), and the rendering of a band (R87). -/

namespace Sys2Proof.Machine

/-- R90, Table 5-3: bit (S + 2 × D) of the operation. -/
def rasterOp (op : Nat) (source dest : Bool) : Bool := op.testBit (bit source + 2 * bit dest)

/-- A rectangle of label dots; a text's glyph may run to negative x or y (R91). -/
structure Footprint where
  x : Int
  y : Int
  width : Nat
  height : Nat
deriving DecidableEq, Repr

/-- The offset of a label dot in a footprint, if it lies inside. -/
def Footprint.offset (f : Footprint) (x y : Nat) : Option (Nat × Nat) :=
  if f.x ≤ x ∧ (x : Int) < f.x + f.width ∧ f.y ≤ y ∧ (y : Int) < f.y + f.height then
    some ((x - f.x).toNat, (y - f.y).toNat)
  else none

/-- R66: some dot of the footprint lies outside a label of this length. -/
def Footprint.outside (f : Footprint) (length : Nat) : Bool :=
  decide (f.x < 0 ∨ f.y < 0 ∨ (Config.headDots : Int) < f.x + f.width ∨ (length : Int) < f.y + f.height)

/-- R93: width of the scaled glyph. -/
def scaledWidth (e : Glyph) (t : Transform) : Nat := e.width * t.hm
/-- R93: height of the scaled glyph. -/
def scaledHeight (e : Glyph) (t : Transform) : Nat := e.height * t.vm

/-- R93: the footprint of a glyph with its top-left corner here. -/
def glyphFootprint (e : Glyph) (t : Transform) (x y : Int) : Footprint :=
  if t.turns % 2 = 0 then ⟨x, y, scaledWidth e t, scaledHeight e t⟩
  else ⟨x, y, scaledHeight e t, scaledWidth e t⟩

/-- Table 5-5: column and row of the scaled glyph for a footprint offset. -/
def scaledPosition (e : Glyph) (t : Transform) (u v : Nat) : Nat × Nat :=
  let sw := scaledWidth e t
  let sh := scaledHeight e t
  match t.turns % 4 with
  | 0 => (u, v)
  | 1 => (v, sh - 1 - u)
  | 2 => (sw - 1 - u, sh - 1 - v)
  | _ => (sw - 1 - v, u)

/-- R93: the source dot of a glyph for a footprint offset, read from its extent at its base. -/
def glyphSource (ram : Memory) (e : Glyph) (t : Transform) (u v : Nat) : Bool :=
  let p := scaledPosition e t u v
  bitmapDot (fun i => ram.read (glyphOffset e.base + i)) e.width (p.1 / t.hm) (p.2 / t.vm)

/-- R94, Table 5-6: the ids of a text with their footprints, along the baseline. The pen moves on by sw + spacing. -/
def textLayout (g : Gst) (t : Transform) (spacing : Int) (x y : Int) : Int → List Nat → List (Nat × Footprint)
  | _, [] => []
  | pen, id :: rest =>
    let e := g.entry id
    let sw : Int := scaledWidth e t
    match t.turns % 4 with
    | 0 => (id, glyphFootprint e t pen y) :: textLayout g t spacing x y (pen + (sw + spacing)) rest
    | 1 => (id, glyphFootprint e t x pen) :: textLayout g t spacing x y (pen + (sw + spacing)) rest
    | 2 => (id, glyphFootprint e t (pen - sw + 1) y) :: textLayout g t spacing x y (pen - (sw + spacing)) rest
    | _ => (id, glyphFootprint e t x (pen - sw + 1)) :: textLayout g t spacing x y (pen - (sw + spacing)) rest

/-- Table 5-6: where the pen starts. -/
def penStart (t : Transform) (x y : Nat) : Int := if t.turns % 2 = 0 then x else y

/-- The footprints of a placement (R92, R93, R94). -/
def Placement.footprints (g : Gst) : Placement → List Footprint
  | .glyph id x y _ t => [glyphFootprint (g.entry id) t x y]
  | .text x y _ t spacing ids => (textLayout g t spacing x y (penStart t x y) ids).map (·.2)
  | .rule x y w h _ => [⟨x, y, w, h⟩]
  | .image x y w h _ _ => [⟨x, y, w, h⟩]

/-- R66: whether the composer will clip the placement on a label of this length. -/
def Placement.clipped (g : Gst) (length : Nat) (p : Placement) : Bool :=
  (p.footprints g).any (Footprint.outside · length)

/-- R90 for one footprint: a dot inside takes the operation's bit, a dot outside stays. -/
def applyDot (op : Nat) (f : Footprint) (source : Nat → Nat → Bool) (x y : Nat) (dest : Bool) : Bool :=
  match f.offset x y with
  | some (u, v) => rasterOp op (source u v) dest
  | none => dest

/-- R90 to R94: what a placement makes of a label dot that the placements before it left at `dest`. -/
def Placement.apply (g : Gst) (ram : Memory) (x y : Nat) (dest : Bool) : Placement → Bool
  | .glyph id px py op t =>
    applyDot op (glyphFootprint (g.entry id) t px py) (glyphSource ram (g.entry id) t) x y dest
  | .text px py op t spacing ids =>
    (textLayout g t spacing px py (penStart t px py) ids).foldl
      (fun d f => applyDot op f.2 (glyphSource ram (g.entry f.1) t) x y d) dest
  | .rule px py w h op => applyDot op ⟨px, py, w, h⟩ (fun _ _ => true) x y dest
  | .image px py w h op bitmap =>
    applyDot op ⟨px, py, w, h⟩ (bitmapDot (byteAt bitmap) w) x y dest

/-- R87 steps 1 and 2: the label dot (x, y), from 0 through every placement in list order. -/
def labelDot (g : Gst) (ram : Memory) (l : Label) (x y : Nat) : Bool :=
  l.placements.foldl (fun d p => p.apply g ram x y d) false

/-- One byte of a head line, dot 8k in its most significant bit (section 5.1). -/
def lineByte (dot : Nat → Bool) (k : Nat) : Byte :=
  byteOfBits ([7, 6, 5, 4, 3, 2, 1, 0].map fun i => dot (8 * k + i))

/-- Line y of the label as the head sees it. -/
def labelLine (g : Gst) (ram : Memory) (l : Label) (y : Nat) : Line :=
  (List.range Config.lineBytes).map (lineByte fun x => labelDot g ram l x y)

/-- 1 bits of a byte. -/
def bitCount (b : Byte) : Nat := ((List.range 8).map fun i => bit (b.getLsbD i)).sum

/-- R87 step 3: printed dots of a line. -/
def dotCount (line : Line) : Nat := (line.map bitCount).sum

/-- The offset of a line of a band (Table 11-2). -/
def ringOffset (band line : Nat) : Nat := (band * Config.bandLines + line) * Config.lineBytes

/-- R87: the lines of a band, from its label's placements. -/
def State.bandLines (s : State) (l : Label) (b : Band) : List Line :=
  (List.range b.count).map fun i => labelLine s.gst s.ram l (b.first + i)

/-- R87, R88: the COMPOSING band is rendered and READY, and the cursor moves on. -/
def State.renderBand (s : State) : State :=
  match s.ring.composing with
  | none => s
  | some i =>
    let b := s.ring.band i
    match s.lbq.label b.slot with
    | none => s
    | some l =>
      let lines := s.bandLines l b
      { s with
        ram := s.ram.writeBlock (ringOffset i 0) lines.flatten
        ring := { s.ring.setBand i { b with state := .ready, dots := lines.map dotCount } with
          seat := s.lbq.seatAfter b } }

end Sys2Proof.Machine
end

