-- ==== Sys2Proof/Machine/HeadDrive.lean ====
section
/-! DEFINITION. The head drive (Chapter 6): history classes (R99, R100), strobe times (R101), passes and phases (R102,
R103), the line time and speed cap (R104), and the thermal state (R107, R108). -/

namespace Sys2Proof.Machine

/-- Table 6-3, in per cent. -/
def temperatureFactor (t : Int) : Nat :=
  if t ≤ 10 then 130 else if t ≤ 20 then 120 else if t ≤ 30 then 110 else if t ≤ 40 then 100
  else if t ≤ 50 then 92 else if t ≤ 60 then 85 else if t ≤ 70 then 78 else 72

/-- R101: the full strobe time in microseconds. -/
def fullStrobe (darkness : Nat) (t : Int) : Nat := (300 + 10 * darkness) * temperatureFactor t / 100

/-- R101: the Held strobe time. -/
def heldStrobe (darkness : Nat) (t : Int) : Nat := fullStrobe darkness t * 70 / 100

/-- R102: the segments driven, pass by pass. -/
def passSegments (dots limit : Nat) : List (List Nat) :=
  if dots ≤ limit then [[0, 1, 2, 3]]
  else if dots ≤ 2 * limit then [[0, 2], [1, 3]]
  else [[0], [1], [2], [3]]

/-- R104: the line-time requirement in microseconds; 0 for a line of no dots. -/
def lineTime (dots limit darkness : Nat) (t : Int) : Nat :=
  if dots = 0 then 0 else (passSegments dots limit).length * fullStrobe darkness t

/-- R104: the speed cap of a line; none for a line of no dots. -/
def lineCap (dots limit darkness : Nat) (t : Int) : Option Nat :=
  if dots = 0 then none else some (1000000 / lineTime dots limit darkness t)

/-- R104: the cap worked out from the values as they stand. -/
def State.capOf (s : State) (dots : Nat) : Option Nat :=
  lineCap dots s.nvs.mech.powerLimit s.nvs.profile.darkness s.hdu.temp

/-- All dots 0. -/
def blankLine : Line := List.replicate Config.lineBytes 0

/-- R99: the Fresh dots of a line against the history. -/
def freshDots (line history : Line) : Line := List.zipWith (fun a h => a &&& ~~~h) line history

/-- R103: Held phase, then Fresh phase, each through the passes of R102. -/
def strobePulses (line fresh : Line) (passes : List (List Nat)) (full held : Nat) : List Pulse :=
  passes.map (fun p => ⟨line, p, held⟩) ++ passes.map (fun p => ⟨fresh, p, full - held⟩)

/-- R100: the history that line `i` of a copy is judged against. -/
def State.historyFor (s : State) (i : Nat) : Line :=
  if i = 0 then blankLine
  else match s.hdu.clock with
    | some t => if Config.historyLife < t then blankLine else s.hdu.history
    | none => blankLine

/-- R98 to R103: the head's part of the step that passes line `i` of a copy. -/
def State.strobeLine (s : State) (i : Nat) (line : Line) (dots : Nat) : State :=
  let p := s.nvs.profile
  let pulses :=
    if dots = 0 then []
    else strobePulses line (freshDots line (s.historyFor i)) (passSegments dots s.nvs.mech.powerLimit)
      (fullStrobe p.darkness s.hdu.temp) (heldStrobe p.darkness s.hdu.temp)
  { s with hdu := { s.hdu with
      history := line
      current := some ⟨line, dots⟩
      strobe := pulses
      clock := some 0
      strobed := if dots = 0 then s.hdu.strobed else s.hdu.strobed + 1 } }

/-- R98: a step that hands the head nothing. -/
def State.strobeNothing (s : State) : State :=
  { s with hdu := { s.hdu with current := none, strobe := [] } }

/-- R107: the clamp of a reading. -/
def clampDegrees (t : Int) : Int := max (-40) (min 125 t)

/-- R108: the first row that matches. -/
def nextThermal (hot critical : Nat) (t : Int) (old : Thermal) : Thermal :=
  if (critical : Int) ≤ t then .critical
  else if (hot : Int) ≤ t then (match old with | .critical => .critical | .normal | .hot => .hot)
  else if (hot : Int) - 8 < t then old
  else .normal

/-- R106 to R108: a temperature sample, without what the Engine Supervisor makes of it. -/
def State.sampleHead (s : State) (degrees : Int) : State :=
  let t := clampDegrees degrees
  { s with hdu := { s.hdu with
      temp := t
      strobed := 0
      sampleTimer := some Config.sampleInterval
      thermal := nextThermal s.nvs.profile.hot s.nvs.mech.critical t s.hdu.thermal } }

end Sys2Proof.Machine
end

