-- ==== Sys2Proof/Machine/Labels.lean ====
section
/-! DEFINITION. The label queue's operations (Chapter 4): slots, the placement pool, the print queue, removal (R60),
storing a placement (R71), copy accounting (R74, R75) and cancellation (R76 to R79). -/

namespace Sys2Proof.Machine

/-- The slot whose label is OPEN (R60: at most one). -/
def Lbq.openSlot (q : Lbq) : Option Nat :=
  (List.range Config.labelSlots).find? fun i => (q.label i).any fun l => l.state == .opened

/-- The open label. -/
def Lbq.openLabel (q : Lbq) : Option Label := q.openSlot.bind q.label

/-- R64: the lowest-numbered free slot. -/
def Lbq.freeSlot (q : Lbq) : Option Nat :=
  (List.range Config.labelSlots).find? fun i => (q.label i).isNone

def Lbq.setLabel (q : Lbq) (slot : Nat) (l : Option Label) : Lbq := { q with slots := q.slots.set slot l }

/-- Table 4-4: the pool cost of a placement in bytes. -/
def Placement.cost : Placement → Nat
  | .glyph _ _ _ _ _ => 16
  | .text _ _ _ _ _ ids => 16 + 8 * ceilDiv ids.length 8
  | .rule _ _ _ _ _ => 16
  | .image _ _ w h _ _ => 16 + 8 * ceilDiv (bitmapBytes w h) 8

/-- The glyph ids of a label, occurrence by occurrence. -/
def Label.uses (l : Label) : List Nat := l.placements.flatMap Placement.uses

/-- R61: the head of the print queue is ACTIVE. -/
def Lbq.activateHead (q : Lbq) : Lbq :=
  match q.queue.head? with
  | none => q
  | some slot =>
    match q.label slot with
    | none => q
    | some l => q.setLabel slot (some { l with state := .active })

/-- R60 steps 2 to 4: the references fall, the granules return, the label leaves the queue and its slot. What names it
elsewhere is cleared: the printing copy, the interrupted copy (R60) and the underrun record (R117). -/
def State.vacate (s : State) (slot : Nat) (l : Label) : State :=
  let s := s.dropReferences l.number l.uses
  { s with
    lbq := { { s.lbq.setLabel slot none with queue := s.lbq.queue.erase slot }.activateHead with
      poolFree := s.lbq.poolFree + l.granules
      printing := if s.lbq.printing.any (·.slot == slot) then none else s.lbq.printing }
    eng := { s.eng with
      interrupted := if s.eng.interrupted.any (·.slot == slot) then none else s.eng.interrupted }
    fmu := { s.fmu with
      underrun := if s.fmu.underrun.any (·.slot == slot) then none else s.fmu.underrun } }

/-- R60 steps 1 to 4: the event that reports the removal, where there is one, comes first. -/
def State.removeLabel (s : State) (slot : Nat) (report : Option Event) : State :=
  match s.lbq.label slot with
  | none => s
  | some l => (match report with | some e => s.post e | none => s).vacate slot l

/-- R75: QUEUE IDLE when the queue has passed from holding a label to holding none. -/
def State.reportIdleQueue (s : State) (before : Lbq) : State :=
  if !before.queue.isEmpty && s.lbq.queue.isEmpty then s.post ⟨.queueIdle, 0, noLabel, 0⟩ else s

/-- R71: a placement joins the open label, with its granules and its references. -/
def State.storePlacement (s : State) (p : Placement) : State :=
  match s.lbq.openSlot, s.lbq.openLabel with
  | some slot, some l =>
    { s with
      lbq := { s.lbq.setLabel slot (some { l with
                 placements := l.placements ++ [p]
                 granules := l.granules + p.cost / 8 }) with
               poolFree := s.lbq.poolFree - p.cost / 8 }
      gst := s.gst.addReferences p.uses }
  | _, _ => s

/-- R59, R74: line 0 of a copy has been passed. -/
def State.beginCopy (s : State) (c : Copy) : State :=
  { s with lbq := { s.lbq with printing := some ⟨c.slot, c.copy, 1⟩ } }

/-- R59: a further line of the printing copy has been passed. -/
def State.countLine (s : State) : State :=
  { s with lbq := { s.lbq with printing := s.lbq.printing.map fun p => { p with passed := p.passed + 1 } } }

/-- R74: the last line of a copy has been passed: counted, reported, and its label removed when it is finished. -/
def State.copyDone (s : State) (slot : Nat) : State :=
  match s.lbq.label slot with
  | none => s
  | some l =>
    let done := l.done + 1
    let before := s.lbq
    let s := { s with lbq := { s.lbq.setLabel slot (some { l with done := done }) with printing := none } }
    let s := s.post ⟨.copyDone, BitVec.ofNat 8 l.copies, l.number, BitVec.ofNat 16 done⟩
    if l.finishing then (s.removeLabel slot none).reportIdleQueue before
    else if done = l.copies then
      (s.removeLabel slot (some ⟨.labelDone, 0, l.number, BitVec.ofNat 16 done⟩)).reportIdleQueue before
    else s

/-- R76: the targets, in print-queue order. -/
def Lbq.targets (q : Lbq) (all : Bool) (number : Half) : List Nat :=
  q.queue.filter fun slot => (q.label slot).any fun l => all || l.number == number

/-- What a cancel does with one target (R77, R78, R79), by Table 4-5. -/
inductive Treatment where
  /-- R77: no copy printing; removed. -/
  | remove
  /-- R78: a copy printing and allowed to complete. -/
  | allow
  /-- R78: already allowed to complete; nothing changes. -/
  | leave
  /-- R79: a copy printing and abandoned. -/
  | abandon
deriving DecidableEq, Repr

/-- R77 to R79: how a target is treated. -/
def Lbq.treatment (q : Lbq) (immediate : Bool) (slot : Nat) (l : Label) : Treatment :=
  if q.printing.any (·.slot == slot) then
    if immediate then .abandon else if l.finishing then .leave else .allow
  else .remove

/-- R76: the LABEL CANCELLED record. -/
def cancelled (l : Label) (attr : Byte) : Event := ⟨.labelCancelled, attr, l.number, BitVec.ofNat 16 l.done⟩

/-- R77 to R79: one target is dealt with. -/
def State.cancelOne (immediate : Bool) (s : State) (slot : Nat) : State :=
  match s.lbq.label slot with
  | none => s
  | some l =>
    match s.lbq.treatment immediate slot l with
    | .remove => s.removeLabel slot (some (cancelled l 0))
    | .allow =>
      ({ s with lbq := s.lbq.setLabel slot (some { l with finishing := true }) } : State).post (cancelled l 1)
    | .leave => s
    | .abandon => s.removeLabel slot (some (cancelled l 2))

/-- R77 to R79: where the ring is cut: at the earliest band of a removed label, or of a later copy of one allowed to finish. -/
def State.cancelCut (s : State) (immediate : Bool) (targets : List Nat) (b : Band) : Bool :=
  targets.contains b.slot &&
    (match s.lbq.label b.slot with
     | none => false
     | some l =>
       match s.lbq.treatment immediate b.slot l with
       | .remove | .abandon => true
       | .allow | .leave => s.lbq.printing.any fun p => decide (p.copy < b.copy))

/-- R76 to R79: the commit of a CANCEL LABELS on its targets. -/
def State.cancelTargets (s : State) (immediate : Bool) (targets : List Nat) : State :=
  let ring := s.ring.truncate (s.cancelCut immediate targets)
  let t := targets.foldl (State.cancelOne immediate) s
  ({ t with ring := ring } : State).reseat.reportIdleQueue s.lbq

/-- R148: the label of the interrupted copy is discarded. DESIGN CHOICE (log 53): QUEUE IDLE comes with the disposition,
so before the RECOVERED and MOVE DONE of a recovery that succeeds in the same step. -/
def State.discardInterrupted (s : State) (slot : Nat) : State :=
  match s.lbq.label slot with
  | none => s
  | some l =>
    let ring := s.ring.truncate fun b => b.slot == slot
    let t := s.removeLabel slot (some (cancelled l 3))
    ({ t with ring := ring } : State).reseat.reportIdleQueue s.lbq

end Sys2Proof.Machine
end

