-- ==== Sys2Proof/Machine/FeedMotion.lean ====
section
/-! DEFINITION. The feed motor (Chapter 7): the road and its horizon (R115, R116), the ramp and its caps (R113, R114,
R119), rest reasons, stops (R120), and entering and leaving the modes (R112, R125). -/

namespace Sys2Proof.Machine

/-- S, A and D (section 7.3). -/
def State.startSpeed (s : State) : Nat := s.nvs.mech.startSpeed
def State.accel (s : State) : Nat := s.nvs.profile.accel
def State.faultDecel (s : State) : Nat := s.nvs.mech.faultDecel

/-- R113: the stopping distance from a speed. -/
def State.stoppingDistance (s : State) (v : Nat) : Nat := ceilDiv (v - s.startSpeed) s.accel

/-! ### The road -/

/-- The first step of the road that is not counted (R116). -/
inductive RoadEnd where
  /-- It would pass this line, which is not held ready. -/
  | notHeld (copy : Copy) (line : Nat)
  /-- It would pass line 0 of a next copy while the gate is closed. -/
  | gateClosed
  /-- It lies beyond the last slew, and nothing is left to print. -/
  | nothingLeft
  /-- It lies in a slew whose top is not known. -/
  | topUnknown
deriving DecidableEq, Repr

/-- R115: how many steps may be taken, the dot counts of the lines among them by how many steps ahead they are passed,
and what comes first beyond. -/
structure Horizon where
  count : Nat
  lines : List (Nat × Nat)
  beyond : RoadEnd
deriving DecidableEq, Repr

/-- Dot counts with how many steps ahead each is, the first `j` steps ahead. -/
def numbered (j : Nat) (dots : List Nat) : List (Nat × Nat) := dots.zipIdx.map fun d => (j + d.2, d.1)

/-- R115 item 2: how far slew counts from position q on; none when the next top is not known. -/
def State.slewFrom (s : State) (q : Pos) : Option Nat :=
  match s.msu.reg.state, s.msu.reg.top with
  | .unknown, _ => none
  | _, none => none
  | _, some top =>
    let last := if s.msu.reg.decided then shift top (-1) else shift top (-(s.nvs.profile.tolerance : Int) - 1)
    some (ahead q last).toNat

/-- R115 items 2 and 3: the road beyond the printing copy, whose `r` lines still to pass are all held. -/
def State.roadBeyond (s : State) (r : Nat) (held : List Nat) : Horizon :=
  let lines := numbered 1 held
  match s.slewFrom (shift s.fmu.pos r) with
  | none =>
    ⟨r, lines, if !s.lbq.gate && s.lbq.nextCopy.isSome then .gateClosed else .topUnknown⟩
  | some n =>
    match s.lbq.nextCopy with
    | none => ⟨r + n, lines, .nothingLeft⟩
    | some c =>
      if s.lbq.gate then
        let next := s.heldFrom c 0
        ⟨r + n + next.length, lines ++ numbered (r + n + 1) next, .notHeld c next.length⟩
      else ⟨r + n, lines, .gateClosed⟩

/-- R115: the horizon from the present position. -/
def State.horizon (s : State) : Horizon :=
  match s.lbq.printing with
  | none => s.roadBeyond 0 []
  | some p =>
    let r := ((s.lbq.label p.slot).elim 0 (·.length)) - p.passed
    let held := (s.heldFrom ⟨p.slot, p.copy⟩ p.passed).take r
    if held.length < r then ⟨held.length, numbered 1 held, .notHeld ⟨p.slot, p.copy⟩ (p.passed + held.length)⟩
    else s.roadBeyond r held

/-- R116: the rest reason that the first uncounted step gives. -/
def RoadEnd.rest : RoadEnd → Rest
  | .notHeld _ _ => .starved
  | .gateClosed => .gate
  | .nothingLeft => .finished
  | .topUnknown => .topUnknown

/-- A label line, by copy and line number. -/
structure LabelLine where
  copy : Copy
  line : Nat
deriving DecidableEq, Repr

/-- R83, R115: the label line that the next run step passes; none for slew and for an overrun step. -/
def State.nextLine (s : State) (h : Horizon) : Option LabelLine :=
  if h.count = 0 then none
  else match s.lbq.printing with
    | some p => some ⟨⟨p.slot, p.copy⟩, p.passed⟩
    | none =>
      if s.msu.reg.decided ∧ s.msu.reg.top = some (s.fmu.pos + 1) then s.lbq.nextCopy.map fun c => ⟨c, 0⟩
      else none

/-! ### The speed of a forward step -/

/-- R116: the look-ahead cap. -/
def State.lookAhead (s : State) (h : Horizon) : Nat :=
  h.lines.foldl
    (fun cap l => if l.1 < 2 then cap else match s.capOf l.2 with
      | some c => min cap (c + s.accel * (l.1 - 1))
      | none => cap)
    (s.startSpeed + s.accel * (h.count - 1))

/-- R119: the present speed leaves no road to stop within the horizon at A, so the floor is v − D. With no horizon left
the road is that of the last step at S (log 13). DESIGN CHOICE (log 13): R119's comparison is taken literally, so with
A above D a run that slows at A without any withdrawal is governed by it too, and slows at D alone, into an overrun;
R113 says that there the floor never binds. -/
def State.withdrawn (s : State) (h : Horizon) : Bool :=
  decide (s.startSpeed + s.accel * (h.count - 1) < s.fmu.speed)

/-- R114: the cap of the line that the step passes, if it passes one with dots. -/
def State.lineCapNow (s : State) (h : Horizon) : Option Nat :=
  (s.nextLine h).bind fun _ => h.lines.head?.bind fun l => s.capOf l.2

/-- The smaller of a cap and a further one, where that applies. -/
def capped (cap : Nat) : Option Nat → Nat
  | some c => min cap c
  | none => cap

/-- R113 for a print-run step. -/
def State.runSpeed (s : State) (h : Horizon) : Nat :=
  let v := s.fmu.speed
  let upper := if v = 0 then s.startSpeed else v + s.accel
  let cap := min s.nvs.profile.speed (capped (s.lookAhead h) (s.lineCapNow h))
  let floor := if s.withdrawn h then v - s.faultDecel else v - s.accel
  max floor (min upper cap)

/-- R120 for a step of a soft stop in a print run: the ramp down, with the look-ahead and R119 still in force. -/
def State.runStopSpeed (s : State) (h : Horizon) : Nat :=
  let v := s.fmu.speed
  let down := max s.startSpeed (v - s.accel)
  let floor := if s.withdrawn h then v - s.faultDecel else v - s.accel
  max floor (min down (capped (s.lookAhead h) (s.lineCapNow h)))

/-- R105, R113: the speed travelled, when the head stretches the step to the line's cap. DESIGN CHOICE (log 46): the
stretch lowers the speed of the step that passes the strobed line, as R113 and section 7.4.4 put it, and not that of the
step after it, which R105 speaks of holding back. -/
def State.travelled (s : State) (h : Horizon) (v : Nat) : Nat := capped v (s.lineCapNow h)

/-- Table 7-3: the cruise cap of a free move or edge find. -/
def State.cruise (s : State) : Nat :=
  match s.fmu.move with
  | .feed _ speed => if speed = 0 then s.nvs.profile.speed else speed
  | .calibrate => min s.startSpeed s.nvs.profile.speed
  | .none | .advance | .present | .retract | .find | .run => s.nvs.profile.speed

/-- Table 7-3: the target cap, where the move has a target. -/
def State.targetCap (s : State) : Option Nat :=
  s.fmu.target.map fun t => s.startSpeed + s.accel * ((ahead s.fmu.pos t).toNat - 1)

/-- Table 7-3: the edge cap, until the edge find's last edge is counted (R134). -/
def State.edgeCap (s : State) : Option Nat :=
  if s.fmu.move = .find ∧ s.fmu.target = none then some (s.startSpeed + s.accel * s.nvs.mech.sensorOffset) else none

/-- R113 for a forward step of a free move or of an edge find. -/
def State.freeSpeed (s : State) : Nat :=
  let v := s.fmu.speed
  let upper := if v = 0 then s.startSpeed else v + s.accel
  max (v - s.accel) (min upper (capped (capped s.cruise s.targetCap) s.edgeCap))

/-- R120: a step of a stop outside a run's horizon. -/
def State.stopSpeed (s : State) : Nat :=
  let v := s.fmu.speed
  max s.startSpeed (v - if s.fmu.stop = some .fault then s.faultDecel else s.accel)

/-- The run's horizon governs the step: it is a run step, or a step of a soft stop within a run. -/
def State.underHorizon (s : State) : Bool :=
  s.fmu.move == .run && (s.fmu.mode == .printRun || (s.fmu.mode == .stopping && s.fmu.stop == some .soft))

/-- R113, R119, R120: the speed chosen for the next forward step. -/
def State.forwardSpeed (s : State) (h : Horizon) : Nat :=
  if s.underHorizon then
    s.travelled h (if s.fmu.mode = .printRun then s.runSpeed h else s.runStopSpeed h)
  else if s.fmu.mode = .stopping then s.stopSpeed
  else s.freeSpeed

/-! ### Which step is due -/

/-- R112: the next step of the movement in hand is a backward one. -/
def Fmu.goesBack (f : Fmu) : Bool :=
  match f.move with
  | .retract => true
  | .feed back _ => back
  | .none | .advance | .present | .find | .calibrate | .run => false

/-- R112, R115, R120: the motor has a forward step to take. -/
def State.forwardDue (s : State) : Bool :=
  match s.fmu.mode with
  | .stopped => false
  | .stopping => true
  | .freeMove => !s.fmu.goesBack
  | .printRun => if s.fmu.move = .run then decide (0 < s.horizon.count) || decide (s.startSpeed < s.fmu.speed)
                 else !s.fmu.goesBack

/-- R113: the motor has a backward step to take. -/
def State.backwardDue (s : State) : Bool :=
  (s.fmu.mode == .freeMove || s.fmu.mode == .printRun) && s.fmu.goesBack

/-- R106: a sample due by count comes before any further line step. -/
def State.sampleDue (s : State) : Bool := decide (Config.linesPerSample ≤ s.hdu.strobed)

/-! ### Steps, rests and modes -/

/-- R98, R100: the history clock runs on by the time that has passed. -/
def State.advanceClock (s : State) (micros : Nat) : State :=
  { s with hdu := { s.hdu with clock := s.hdu.clock.map (· + micros) } }

/-- R110, R113, R125: the motor part of a forward step. -/
def State.stepForward (s : State) (v : Nat) : State :=
  { s with
    fmu := { s.fmu with
      pos := s.fmu.pos + 1, speed := v, backward := false, rest := .none
      energised := true, settling := false, idleTimer := some Config.releaseTime }
    msu := { s.msu with idleTimer := none } }

/-- R110, R113: a backward step is taken at S. -/
def State.stepBackward (s : State) : State :=
  { s with
    fmu := { s.fmu with
      pos := s.fmu.pos - 1, speed := s.startSpeed, backward := true, rest := .none
      energised := true, settling := false, idleTimer := some Config.releaseTime }
    msu := { s.msu with idleTimer := none } }

/-- R112: entry into STOPPED. -/
def State.toStopped (s : State) : State :=
  { s with fmu := { s.fmu with
      mode := .stopped, speed := 0, target := none, stop := none, why := none, move := .none, rest := .none
      settling := false } }

/-- The motor is at rest, in the mode it is in (R116). -/
def State.restHere (s : State) : State := { s with fmu := { s.fmu with speed := 0 } }

/-- R120: what a stop ordered now does. At rest, at S or below, going backward, or dead: the motor is STOPPED at once. -/
def State.stopsAtOnce (s : State) (kind : StopKind) : Bool :=
  kind == .dead || s.fmu.backward || decide (s.fmu.speed ≤ s.startSpeed) || s.fmu.mode == .stopped

/-- R120: the order of strength. -/
def StopKind.strength : StopKind → Nat
  | .soft => 1
  | .fault => 2
  | .dead => 3

/-- R120: the order takes over only from a weaker stop. -/
def State.stopIgnored (s : State) (kind : StopKind) : Bool :=
  s.fmu.stop.any fun k => decide (kind.strength ≤ k.strength)

/-- R112, R120: a stop that takes steps is in progress. -/
def State.beginStop (s : State) (kind : StopKind) (why : StopWhy) : State :=
  { s with fmu := { s.fmu with mode := .stopping, stop := some kind, why := some why } }

/-- R112, R122, R123: a free move begins. -/
def State.beginMove (s : State) (move : Move) (target : Option Pos) : State :=
  { s with fmu := { s.fmu with mode := .freeMove, move := move, target := target, rest := .none } }

/-- R125: a motor that has a step to take and is released is energised, and settles first. -/
def State.energise (s : State) : State :=
  if (s.forwardDue || s.backwardDue) && !s.fmu.energised then
    { s with fmu := { s.fmu with energised := true, settling := true, idleTimer := some Config.releaseTime } }
  else s

/-- R126: the idle-sample timer runs while the motor is at rest. -/
def State.idleSampling (s : State) : State :=
  if s.fmu.speed = 0 then
    { s with msu := { s.msu with idleTimer := some (s.msu.idleTimer.getD Config.idleInterval) } }
  else { s with msu := { s.msu with idleTimer := none } }

end Sys2Proof.Machine
end

