-- ==== Sys2Proof/Machine/MediaSense.lean ====
section
/-! DEFINITION. The media sensor (Chapter 8): classification and debounce (R127), media out (R128), leading edges and the
edge queue (R129, R130), the window decision (R132), the next top (R133), edge finds (R134) and calibration (R136, R137). -/

namespace Sys2Proof.Machine

/-! ### Sampling -/

/-- R127, R136: the marker threshold in force; from MEASURE on, a calibration's candidate. -/
def State.markerThreshold (s : State) : Nat :=
  match s.msu.calib with
  | some c => if c.phase = .survey then s.nvs.profile.marker else c.threshold
  | none => s.nvs.profile.marker

/-- R127: the raw class of a level. -/
def State.classOf (s : State) (level : Byte) : Class :=
  if level.toNat < s.markerThreshold then .media
  else if level.toNat < s.nvs.profile.empty then .marker
  else .empty

/-- A change of the debounced class made by step samples, at its candidate position (R127). -/
structure ClassChange where
  before : Class
  after : Class
  at_ : Pos
deriving DecidableEq, Repr

/-- R127: what is left of the candidate when a sample of this kind comes: a sample of the other kind restarts it. -/
def Msu.restarted (m : Msu) (kind : SampleKind) : Msu :=
  if m.lastKind = kind then m else { m with cand := none, agree := 0, lastKind := kind }

/-- R127 for step samples. -/
def Msu.debounceStep (m : Msu) (cls : Class) (p : Pos) : Msu × Option ClassChange :=
  if cls = m.cls then ({ m with cand := none, agree := 0 }, none)
  else if m.cand = some cls then
    if m.agree + 1 = 3 then
      ({ m with cls := cls, cand := none, agree := 0 }, some ⟨m.cls, cls, m.candPos⟩)
    else ({ m with agree := m.agree + 1 }, none)
  else ({ m with cand := some cls, agree := 1, candPos := p }, none)

/-- R127 for idle samples, judged only as EMPTY or not. -/
def Msu.debounceIdle (m : Msu) (cls : Class) (p : Pos) : Msu :=
  if (cls == .empty) == (m.cls == .empty) then { m with cand := none, agree := 0 }
  else if m.cand.isSome then
    if m.agree + 1 = 3 then { m with cls := cls, cand := none, agree := 0 }
    else { m with cand := some cls, agree := m.agree + 1 }
  else { m with cand := some cls, agree := 1, candPos := p }

/-- R128: media out is posted, by travel (0) or while the motor rests (1). -/
def State.mediaOut (s : State) (attr : Byte) : State :=
  ({ s with msu := { s.msu with absent := true } } : State).post ⟨.mediaOut, attr, noLabel, low16 s.fmu.pos⟩

/-- R128: the empty-run count of a step sample, and MEDIA OUT when it reaches the out length. Whether the condition is
set by this sample. -/
def State.countEmpty (s : State) : State × Bool :=
  let out := s.nvs.mech.outLength
  if s.msu.cls = .empty then
    let n := min out (s.msu.emptyRun + 1)
    let reached := decide (s.msu.emptyRun < out ∧ n = out) && !s.msu.absent
    let s := { s with msu := { s.msu with emptyRun := n } }
    if reached then (s.mediaOut 0, true) else (s, false)
  else ({ s with msu := { s.msu with emptyRun := 0 } }, false)

/-- What a step sample gives (R111 part 3). -/
structure Sampled where
  state : State
  change : Option ClassChange
  absentNow : Bool

/-- R129: the edge position that a class change is referred to. -/
def State.edgeAt (s : State) (p : Pos) : Pos := shift p (s.nvs.mech.sensorOffset + s.nvs.profile.adjust)

/-- R129: far enough from the last accepted edge. -/
def State.edgeSpaced (s : State) (e : Pos) : Bool :=
  s.msu.lastEdge.all fun l => decide ((s.nvs.profile.pitch : Int) - s.nvs.profile.tolerance ≤ ahead l e)

/-- R130: an accepted edge joins the queue, is dropped when the queue stays full, and is the last accepted edge. -/
def State.acceptEdge (s : State) (e : Pos) : State :=
  let q := if s.msu.edges.length < Config.maxEdges then s.msu.edges
           else s.msu.edges.dropWhile fun x => decide (ahead s.fmu.pos x ≤ 0)
  { s with msu := { s.msu with
      edges := if q.length < Config.maxEdges then q ++ [e] else q
      lastEdge := some e } }

/-- R129: a leading edge is taken in GAP and MARK modes, no calibration at work, and accepted when spaced. -/
def State.takeEdge (s : State) : Option ClassChange → State
  | some ⟨.marker, .media, p⟩ =>
    if s.nvs.profile.mode = .continuous ∨ s.msu.calib.isSome then s
    else if s.edgeSpaced (s.edgeAt p) then s.acceptEdge (s.edgeAt p) else s
  | _ => s

/-- R111 part 3: the step sample, with media out and any leading edge. -/
def State.stepSample (s : State) (level : Byte) : Sampled :=
  let cls := s.classOf level
  let d := ({ s.msu with raw := level } : Msu).restarted .step |>.debounceStep cls s.fmu.pos
  let r := ({ s with msu := d.1 } : State).countEmpty
  ⟨r.1.takeEdge d.2, d.2, r.2⟩

/-- R126 to R128: an idle sample. Whether it sets the media-absent condition. -/
def State.idleSample (s : State) (level : Byte) : State × Bool :=
  let m := ({ s.msu with raw := level } : Msu).restarted .idle |>.debounceIdle (s.classOf level) s.fmu.pos
  let gone := m.cls = .empty ∧ s.msu.cls ≠ .empty ∧ !s.msu.absent
  let s := { s with msu := { m with idleTimer := some Config.idleInterval } }
  if gone then (s.mediaOut 1, true)
  else if m.cls ≠ .empty ∧ m.absent then
    (({ s with msu := { s.msu with absent := false, emptyRun := 0 } } : State).post ⟨.mediaLoaded, 0, noLabel, 0⟩, false)
  else (s, false)

/-- R126, R127, R128: the reset sample. -/
def State.resetSample (s : State) (level : Byte) : State :=
  let cls := s.classOf level
  { s with msu := { s.msu with
      raw := level, cls := cls, cand := none, agree := 0, candPos := 0, lastKind := .reset
      absent := cls == .empty, emptyRun := 0 } }

/-! ### Registration -/

/-- R131: registration becomes UNKNOWN. -/
def State.unregister (s : State) : State := { s with msu := { s.msu with reg := .lost } }

/-- R130: the edge queue is emptied and the last accepted edge forgotten. -/
def State.emptyEdges (s : State) : State := { s with msu := { s.msu with edges := [], lastEdge := none } }

/-- A decided top, REGISTERED, no miss. -/
def State.registerAt (s : State) (top : Pos) : State :=
  { s with msu := { s.msu with reg := ⟨.registered, some top, true, 0⟩ } }

/-- R133: the next top is prepared in the step that passes line 0 of a copy of this length. -/
def State.prepareTop (s : State) (top : Pos) (length : Nat) : State :=
  let reg : Registration :=
    match s.nvs.profile.mode with
    | .continuous => ⟨.registered, some (shift top (length + s.nvs.profile.gap)), true, s.msu.reg.miss⟩
    | .gap | .mark => { s.msu.reg with top := some (shift top s.nvs.profile.pitch), decided := false }
  { s with msu := { s.msu with reg := reg, lastLen := some length } }

/-- R132: the step has reached the decision point of an undecided top. -/
def State.atDecision (s : State) : Option Pos :=
  match s.msu.reg.top with
  | none => none
  | some t =>
    if s.nvs.profile.mode ≠ .continuous ∧ s.msu.reg.state ≠ .unknown ∧ s.msu.reg.decided = false
        ∧ s.fmu.pos = shift t (-(s.nvs.profile.tolerance : Int) - 1) then some t
    else none

/-- R132 steps 3 and 4: no edge in the window of the top `t`. -/
def State.missTop (s : State) (t : Pos) : State × Bool :=
  if 2 ≤ s.msu.reg.miss + 1 then
    (s.unregister.post ⟨.registrationLost, 2, noLabel, low16 t⟩, true)
  else
    (({ s with msu := { s.msu with reg := ⟨.flywheel, some t, true, s.msu.reg.miss + 1⟩ } } : State).post
      ⟨.edgeMissed, 1, noLabel, low16 t⟩, false)

/-- R132: the window decision. Whether it raises the registration-lost request. -/
def State.decideWindow (s : State) : State × Bool :=
  match s.atDecision with
  | none => (s, false)
  | some t =>
    let tol : Int := s.nvs.profile.tolerance
    let q := s.msu.edges.dropWhile fun e => decide (ahead t e < -tol)
    let s := { s with msu := { s.msu with edges := q } }
    match q with
    | e :: rest =>
      if ahead t e ≤ tol then
        (({ s with msu := { s.msu with edges := rest } } : State).registerAt e, false)
      else s.missTop t
    | [] => s.missTop t

/-! ### Edge finds -/

/-- How the movement in hand stands after the decisions of a step (R111 part 4). -/
inductive MoveEnd where
  /-- It goes on. -/
  | goesOn
  /-- The edge find has reached its top (R134). -/
  | found
  /-- The edge find has reached its limit (R134). -/
  | searchFailed
  /-- The calibration has reached the top of E2 with every check passed (R137). -/
  | calibrated
  /-- The calibration fails (R136, R137). -/
  | calibrationFailed (e : Ending)
deriving DecidableEq, Repr

/-- R134 step 2: of the edges not yet counted, those counted now and those that stay; an unreachable one is removed. -/
def countReachable (reach : Pos → Bool) : Nat → List Pos → List Pos × List Pos
  | 0, l => ([], l)
  | _ + 1, [] => ([], [])
  | n + 1, e :: l =>
    if reach e then
      let r := countReachable reach n l
      (e :: r.1, r.2)
    else countReachable reach (n + 1) l

/-- R134 step 2: the edge leaves room to stop from the present speed. -/
def State.reachable (s : State) (e : Pos) : Bool :=
  decide ((s.stoppingDistance s.fmu.speed : Int) ≤ ahead s.fmu.pos e - 1)

/-- R134 steps 2 and 4: edges available are counted; the nth sets the target. -/
def State.countEdges (s : State) : State :=
  match s.msu.find with
  | none => s
  | some f =>
    let done := match f.last with
      | none => []
      | some x => s.msu.edges.takeWhile fun e => decide (0 ≤ ahead e x)
    let r := countReachable s.reachable f.need (s.msu.edges.drop done.length)
    match r.1.getLast? with
    | none => { s with msu := { s.msu with edges := done ++ r.2 } }
    | some e =>
      { s with
        msu := { s.msu with edges := done ++ r.1 ++ r.2, find := some ⟨f.need - r.1.length, some e, 0⟩ }
        fmu := { s.fmu with target := if f.need = r.1.length then some (e - 1) else s.fmu.target } }

/-- R134 step 1: an edge find of n edges begins. -/
def State.beginFind (s : State) (n : Nat) : State :=
  ({ s with
      msu := { s.msu with
        reg := .lost
        edges := s.msu.edges.filter fun e => decide (0 < ahead s.fmu.pos e)
        find := some ⟨n, none, 0⟩ }
      fmu := { s.fmu with move := .find, target := none, rest := .none } } : State).countEdges

/-- R134 step 5: the media stands at the nth top. -/
def State.findReached (s : State) : Bool :=
  s.msu.find.any (fun f => f.need == 0) && s.fmu.target == some s.fmu.pos

/-- R134 step 5: the edges up to E_n are removed, and E_n is the decided next top; the motor is at rest. -/
def State.takeFind (s : State) : State :=
  let e := s.fmu.pos + 1
  let s := { s with
    msu := { s.msu with find := none, edges := s.msu.edges.dropWhile fun x => decide (ahead e x ≤ 0) }
    fmu := { s.fmu with target := none, speed := 0 } }
  s.registerAt e

/-- R134: one forward step of an edge find has been taken. -/
def State.findStep (s : State) : State × MoveEnd :=
  match s.msu.find with
  | none => (s, .goesOn)
  | some f =>
    let s := ({ s with msu := { s.msu with find := some { f with steps := f.steps + 1 } } } : State).countEdges
    if s.findReached then (s, .found)
    else if s.msu.find.any (fun f => decide (0 < f.need ∧ 2 * s.nvs.profile.pitch ≤ f.steps)) then (s, .searchFailed)
    else (s, .goesOn)

/-! ### Calibration -/

/-- R136: the calibration's state at its commit. -/
def Calib.start : Calib := ⟨.survey, 0, 255, 0, 0, false, none, none, 0, 0, 0⟩

/-- CALIBRATION FAILED at P (Table 2-7). -/
def State.calibrationFailed (s : State) : MoveEnd :=
  .calibrationFailed (.error .calibrationFailed none (.position s.fmu.pos))

/-- R136: a step of the survey, judged at the 4,608th. -/
def State.surveyStep (s : State) (c : Calib) (level : Byte) : State × MoveEnd :=
  let c := { c with steps := c.steps + 1, lowest := min c.lowest level.toNat, highest := max c.highest level.toNat }
  let go (c : Calib) : State := { s with msu := { s.msu with calib := some c } }
  if c.steps < Config.surveySteps then (go c, .goesOn)
  else if c.highest - c.lowest < Config.leastContrast then
    (go c, .calibrationFailed (refusalDetail .noContrast (c.highest - c.lowest)))
  else
    let t := (c.lowest + c.highest) / 2
    if s.nvs.profile.empty ≤ t then (go c, s.calibrationFailed)
    else (go { c with phase := .measure, steps := 0, threshold := t }, .goesOn)

/-- R137: the new tolerance. -/
def calibTolerance (profile gap : Nat) : Nat := min profile (gap / 2)

/-- R137: the phase FINISH ends at T2 − 1, if every held label fits. -/
def State.finishCalibration (s : State) (c : Calib) : MoveEnd :=
  if s.fmu.pos = c.top - 1 then
    if s.lbq.slots.all fun l => l.all fun l => decide (l.length ≤ c.pitch - c.gap) then .calibrated
    else s.calibrationFailed
  else .goesOn

/-- R137: what E2 gives. -/
def State.measured (s : State) (c : Calib) (e1 m e2 : Pos) : State × MoveEnd :=
  let pitch := ahead e1 e2
  let gap := ahead m e2
  let top := s.edgeAt e2
  if 16 ≤ pitch ∧ pitch ≤ 4096 ∧ 2 ≤ gap ∧ gap ≤ 512 ∧ gap < pitch ∧ 2 ≤ gap / 2 ∧ 0 ≤ ahead s.fmu.pos (top - 1) then
    let c := { c with phase := .finishing, steps := 0, top := top, pitch := pitch.toNat, gap := gap.toNat }
    let s := { s with
      msu := { s.msu with calib := some c }
      fmu := { s.fmu with target := some (top - 1) } }
    (s, s.finishCalibration c)
  else (s, s.calibrationFailed)

/-- R137: what a class change adds to the measure: E1, M, or the last edge E2. DESIGN CHOICE (log 47): MARKER is entered
by the step that completes the change to it, so a change whose first sample fell in SURVEY and whose third falls in
MEASURE counts as entered during MEASURE. -/
def Calib.note (c : Calib) (ch : ClassChange) : Calib × Option (Pos × Pos × Pos) :=
  let c := if ch.after = .marker then { c with entered := true } else c
  match ch.before, ch.after, c.e1, c.m with
  | .marker, .media, none, _ => (if c.entered then { c with e1 := some ch.at_ } else c, none)
  | .media, .marker, some _, none => ({ c with m := some ch.at_ }, none)
  | .marker, .media, some e1, some m => (c, some (e1, m, ch.at_))
  | _, _, _, _ => (c, none)

/-- R137: a step of the measure. -/
def State.measureStep (s : State) (c : Calib) (change : Option ClassChange) : State × MoveEnd :=
  let c := { c with steps := c.steps + 1 }
  let r := match change with
    | some ch => c.note ch
    | none => (c, none)
  let s := { s with msu := { s.msu with calib := some r.1 } }
  match r.2 with
  | some (e1, m, e2) => s.measured r.1 e1 m e2
  | none => if Config.measureSteps ≤ c.steps then (s, s.calibrationFailed) else (s, .goesOn)

/-- R136, R137: the phase decisions of a calibration at one step. -/
def State.calibStep (s : State) (level : Byte) (change : Option ClassChange) : State × MoveEnd :=
  match s.msu.calib with
  | none => (s, .goesOn)
  | some c =>
    match c.phase with
    | .survey => s.surveyStep c level
    | .measure => s.measureStep c change
    | .finishing => (s, s.finishCalibration c)

/-- R137: a calibration succeeds. -/
def State.takeCalibration (s : State) : State :=
  match s.msu.calib with
  | none => s
  | some c =>
    let p := s.nvs.profile
    let s := { s with
      nvs := { s.nvs with profile := { p with
        marker := c.threshold, pitch := c.pitch, gap := c.gap, tolerance := calibTolerance p.tolerance c.gap } }
      msu := { s.msu with calib := none, edges := [], lastEdge := some c.top } }
    s.registerAt c.top

/-- R111 part 4 for a search or calibration in hand. -/
def State.searchStep (s : State) (level : Byte) (change : Option ClassChange) : State × MoveEnd :=
  if s.msu.calib.isSome then s.calibStep level change else s.findStep

end Sys2Proof.Machine
end

