-- ==== Sys2Proof/Machine/Supervisor.lean ====
section
/-! DEFINITION. The engine supervisor (Chapter 9) and the ends of motion: how a free motion ends (R35, R121), halts (R144
to R146), holds (R143), print runs (R141, R142, R124) and recovery (R148). -/

namespace Sys2Proof.Machine

/-! ### The end of a free motion -/

/-- R35: MOVE DONE or MOVE FAILED. -/
def moveEvent (code : Byte) : Ending → Event
  | .ok | .notice _ => ⟨.moveDone, code, noLabel, 0⟩
  | .error c _ _ => ⟨.moveFailed, code, noLabel, c.byte.setWidth 16⟩

/-- R33 to R35: the free motion is no longer in progress; an attached command completes, a detached one is reported,
the engine's own is not. -/
def State.endMotion (s : State) (e : Ending) : State :=
  let t : State := { s with fmu := { s.fmu with motion := none } }
  match s.fmu.motion with
  | none => t
  | some m =>
    match m.owner with
    | .attached => t.finish e
    | .detached => t.post (moveEvent m.code e)
    | .engine => t

/-- R121, R123, R134, R137: a movement cut short. A present or retract leaves AT PRINT LINE and registration UNKNOWN; a
search or calibration in hand is over. -/
def State.cutShort (s : State) : State :=
  let s := { s with msu := { s.msu with find := none, calib := none } }
  match s.fmu.present with
  | .presenting | .retracting => { s with fmu := { s.fmu with present := .atPrintLine } }.unregister
  | .atPrintLine | .presented => s

/-- R121: the head opens, or media out has brought the motor to rest: the free move fails at P. -/
def State.failFreeMove (s : State) (code : SenseCode) : State :=
  let s := s.cutShort.unregister.toStopped
  ({ s with fmu := { s.fmu with present := .atPrintLine } } : State).endMotion
    (.error code none (.position s.fmu.pos))

/-- R13, R121: the motor has come to rest after a Break. -/
def State.abortFreeMove (s : State) : State := s.cutShort.toStopped.endMotion (refusal .aborted)

/-- R134, R135: the motor has come to rest after a search on the host's order that reached its limit. -/
def State.failSearch (s : State) : State :=
  s.cutShort.toStopped.endMotion (.error .edgeNotFound none (.position s.fmu.pos))

/-- R120, R121: media out during a forward free move orders a fault stop. -/
def State.stopForMediaOut (s : State) : State :=
  if s.stopIgnored .fault then s
  else if s.stopsAtOnce .fault then s.failFreeMove .mediaOut
  else ({ s with msu := { s.msu with find := none, calib := none } } : State).beginStop .fault .mediaOut

/-! ### Halts -/

/-- R144: in these conditions a cause halts the engine. -/
def Condition.live : Condition → Bool
  | .running | .holding | .recovering => true
  | .faulted | .idle | .paused | .halted => false

/-- The causes in their order of priority (R144). -/
def Cause.all : List Cause := [.headOpen, .mediaOut, .headCritical, .registrationLost]

/-- Table 9-3: the cause's bit. -/
def Cause.mask (c : Cause) : BitVec 4 := 1 <<< c.index

/-- Table 9-3: the cause set of some causes. -/
def causeSet (cs : List Cause) : BitVec 4 := cs.foldl (fun b c => b ||| c.mask) 0

/-- Table 9-3: the cause is in the set. -/
def Eng.hasCause (e : Eng) (c : Cause) : Bool := e.causes.getLsbD c.index

/-- Table 9-3: whether a cause persists. -/
def State.persists (s : State) : Cause → Bool
  | .headOpen => s.eng.headOpen
  | .mediaOut => s.msu.absent
  | .headCritical => s.hdu.thermal == .critical
  | .registrationLost => false

/-- R146: the first persisting cause of the set. -/
def State.firstPersisting (s : State) : Option Cause :=
  Cause.all.find? fun c => s.eng.hasCause c && s.persists c

/-- R146: a halt is clear when no cause of the set persists. -/
def State.haltClear (s : State) : Bool := s.firstPersisting.isNone

/-- The last temperature sample as a signed detail (Tables 2-7, 9-4). -/
def State.tempDetail (s : State) : Pos := BitVec.ofInt 32 s.hdu.temp

/-- R148: what a RESUME whose recovery halts again carries. -/
def State.haltEnding (s : State) (c : Cause) : Ending :=
  match c with
  | .headOpen | .mediaOut | .registrationLost => .error c.sense none (.position s.eng.haltPos)
  | .headCritical => .error c.sense none (.detail s.tempDetail)

/-- R145 step 1: a dead stop when HEAD OPEN is among the causes, a fault stop otherwise. -/
def State.stopForHalt (s : State) (cs : List Cause) : State :=
  let kind : StopKind := if cs.contains .headOpen then .dead else .fault
  if s.stopsAtOnce kind then s.toStopped
  else if s.stopIgnored kind then { s with fmu := { s.fmu with why := some .halt } }
  else s.beginStop kind .halt

/-- R145 steps 2 and 3: the printing copy is the interrupted copy, and LABEL SPOILED is posted for it. -/
def State.spoil (s : State) : State :=
  match s.lbq.printing with
  | none => { s with eng := { s.eng with interrupted := none } }
  | some p =>
    let s := { s with
      eng := { s.eng with interrupted := some ⟨p.slot, p.copy⟩ }
      lbq := { s.lbq with printing := none } }
    s.post ⟨.labelSpoiled, BitVec.ofNat 8 p.copy, (s.lbq.label p.slot).elim noLabel (·.number),
      BitVec.ofNat 16 p.passed⟩

/-- The label number of the interrupted copy, or none (R145, R148). -/
def State.interruptedLabel (s : State) : Half :=
  match s.eng.interrupted with
  | none => noLabel
  | some c => (s.lbq.label c.slot).elim noLabel (·.number)

/-- R145 step 6: the record of the halt. -/
def State.recordHalt (s : State) (cs : List Cause) (primary : Cause) : State :=
  { s with
    eng := { s.eng with
      cond := .halted, causes := causeSet cs, primary := some primary, haltPos := s.fmu.pos, settle := none }
    fmu := { s.fmu with underrun := none } }

/-- R145: a halt for these causes, in one step; a recovery's free motion ends with it (R148). -/
def State.halt (s : State) (cs : List Cause) : State :=
  let primary := (Cause.all.find? cs.contains).getD .registrationLost
  let s := (s.stopForHalt cs).spoil
  let s := ({ s with ring := s.ring.flush } : State).reseat.cutShort.unregister
  let s := s.recordHalt cs primary
  let s := s.post ⟨.halted, (causeSet cs).setWidth 8, s.interruptedLabel, primary.sense.byte.setWidth 16⟩
  s.endMotion (s.haltEnding primary)

/-- R146: a cause joins the set of a halt; a settle stops, and HEAD OPEN makes a stop in progress dead. -/
def State.addCause (s : State) (c : Cause) : State :=
  let s := { s with eng := { s.eng with causes := s.eng.causes ||| c.mask, settle := none } }
  if c = .headOpen then s.toStopped else s

/-- R140, R144, R146, R121: the head has opened. -/
def State.headOpens (s : State) : State :=
  if s.eng.cond.live then s.halt [.headOpen]
  else if s.eng.cond = .halted then s.addCause .headOpen
  else if s.fmu.motion.isSome then s.failFreeMove .headOpen
  else s

/-- R128, R144, R146, R121, R131: the media-absent condition has been set. Any free move loses registration; a forward one
is stopped. -/
def State.mediaGone (s : State) : State :=
  if s.eng.cond.live then s.halt [.mediaOut]
  else if s.eng.cond = .halted then s.addCause .mediaOut
  else if s.fmu.motion.isSome then
    if s.fmu.goesBack then s.unregister else s.unregister.stopForMediaOut
  else s

/-! ### Print runs -/

/-- R133, R134, R141: a run goes on: with registration UNKNOWN by an edge find, in CONTINUOUS mode by its layout. -/
def State.runOn (s : State) : State :=
  let run (s : State) : State := { s with fmu := { s.fmu with mode := .printRun, move := .run } }
  if s.msu.reg.state = .unknown then
    if s.nvs.profile.mode = .continuous then run (s.registerAt (s.fmu.pos + 1))
    else
      let s := s.beginFind 1
      if s.findReached then run s.takeFind else { s with fmu := { s.fmu with mode := .printRun } }
  else run s

/-- R123, R141: a run begins; presented media is retracted first. -/
def State.beginRun (s : State) : State :=
  if s.fmu.present = .presented then
    if s.fmu.offset = 0 then ({ s with fmu := { s.fmu with present := .atPrintLine } } : State).runOn
    else
      { s with fmu := { s.fmu with
          mode := .printRun, move := .retract, present := .retracting
          target := some (shift s.fmu.pos (-(s.fmu.offset : Int))) } }
  else s.runOn

/-- R124: the automatic present at an entry into IDLE from RUNNING. -/
def State.autoPresent (s : State) : State :=
  if s.nvs.profile.afterBatch && s.fmu.present == .atPrintLine && !s.eng.headOpen then
    let tear := s.nvs.mech.tearOffset
    if tear = 0 then { s with fmu := { s.fmu with present := .presented, offset := 0 } }
    else
      let s := s.beginMove .present (some (shift s.fmu.pos tear))
      { s with fmu := { s.fmu with present := .presenting, offset := tear, motion := some ⟨0, .engine⟩ } }
  else s

/-- R142: the run comes to rest with nothing left to print. -/
def State.endRun (s : State) : State :=
  let s := s.toStopped
  ({ s with eng := { s.eng with cond := .idle } } : State).autoPresent

/-- R116: the motor rests when the horizon is 0, with the reason that the first uncounted step gives. A settle ends with
the step that it delayed (R125): the released motor's 2,000 ms run on through the rest. -/
def State.restReason (s : State) : State :=
  let h := s.horizon
  if h.count = 0 ∧ s.fmu.speed ≤ s.startSpeed then
    { s with fmu := { s.fmu with speed := 0, rest := h.beyond.rest, settling := false } }
  else { s with fmu := { s.fmu with rest := .none } }

/-- R142: the action on a rest reason. -/
def State.actOnRest (s : State) : State :=
  match s.fmu.rest with
  | .none | .starved => s
  | .gate =>
    let s := s.toStopped
    { s with eng := { s.eng with cond := .paused } }
  | .finished => s.endRun
  | .topUnknown => if s.lbq.workRemains then s.runOn else s.endRun

/-- The engine is RUNNING and its run steps under the horizon. -/
def State.inRun (s : State) : Bool :=
  s.eng.cond == .running && s.fmu.mode == .printRun && s.fmu.move == .run

/-- R116, R142: the rest reason re-evaluated and acted on. -/
def State.weighRest (s : State) : State := if s.inRun then s.restReason.actOnRest else s

/-- R116, R142: as often as one action can bring another (an edge find that has no motion to make). -/
def State.reviewRun (s : State) : State := s.weighRest.weighRest

/-- R142: a PAUSED engine whose queue has become empty is IDLE. -/
def State.leavePause (s : State) : State :=
  if s.eng.cond = .paused ∧ s.lbq.queue = [] then { s with eng := { s.eng with cond := .idle } } else s

/-- R141: the run start conditions. -/
def State.mayRun (s : State) : Bool :=
  (s.eng.cond == .idle || s.eng.cond == .paused) && !s.lbq.queue.isEmpty && s.lbq.gate && !s.eng.headOpen
    && !s.hdu.thermal.hold && !s.msu.absent && s.fmu.motion.isNone

/-- R141: the engine enters RUNNING at the first instant at which they all hold. -/
def State.startRun (s : State) : State :=
  if s.mayRun then ({ s with eng := { s.eng with cond := .running } } : State).beginRun else s

/-! ### Holds -/

/-- HOLD, HOLD RELEASED and HEAD CRITICAL carry the temperature (Table 9-4). -/
def State.tempEvent (s : State) (code : EventCode) : Event := ⟨code, 0, noLabel, BitVec.ofInt 16 s.hdu.temp⟩

/-- R143: RUNNING passes to HOLDING with a soft stop, which also ends an opening retract and an edge find. -/
def State.enterHold (s : State) : State :=
  let s := if s.stopIgnored .soft then s
    else if s.stopsAtOnce .soft then s.cutShort.toStopped
    else ({ s with msu := { s.msu with find := none } } : State).beginStop .soft .hold
  ({ s with eng := { s.eng with cond := .holding } } : State).post (s.tempEvent .hold)

/-- R143: HOLDING passes to RUNNING; the run resumes, or resumes when the soft stop has ended. -/
def State.releaseHold (s : State) : State :=
  let s := ({ s with eng := { s.eng with cond := .running } } : State).post (s.tempEvent .holdReleased)
  if s.fmu.mode = .stopping then s else s.beginRun

/-! ### Recovery -/

/-- R148: the disposition is applied to the interrupted copy at entry into RECOVERING. -/
def State.enterRecovery (s : State) (discard : Bool) : State :=
  let number := s.interruptedLabel
  let applied := match s.eng.interrupted with | none => 0 | some _ => if discard then 2 else 1
  let t := match s.eng.interrupted with
    | some c => if discard then s.discardInterrupted c.slot else s
    | none => s
  { t with eng := { t.eng with
      cond := .recovering, causes := 0, primary := none, interrupted := none, settle := none
      applied := applied, recLabel := number } }

/-- R148: the recovery succeeds: RUNNING or IDLE, then HOLDING or PAUSED where their conditions hold, then RECOVERED. -/
def State.recovered (s : State) : State :=
  let s := s.toStopped
  let s :=
    if s.lbq.queue.isEmpty then { s with eng := { s.eng with cond := .idle } }
    else
      let s := ({ s with eng := { s.eng with cond := .running } } : State).beginRun
      if s.hdu.thermal.hold && !s.hdu.thermal.crit then s.enterHold else s.reviewRun
  let s := s.post ⟨.recovered, BitVec.ofNat 8 s.eng.applied, s.eng.recLabel, low16 s.fmu.pos⟩
  s.endMotion .ok

/-- R148: the recovery's edge find, in mode FREE MOVE; in CONTINUOUS mode R133 supplies the top with no motion. -/
def State.recoveryFind (s : State) : State :=
  if s.nvs.profile.mode = .continuous then (s.registerAt (s.fmu.pos + 1)).recovered
  else
    let s := s.beginFind 1
    if s.findReached then s.takeFind.recovered else { s with fmu := { s.fmu with mode := .freeMove } }

/-- R148: the edge find begins when the halt's stop has ended. -/
def State.beginRecoveryFind (s : State) : State :=
  if s.fmu.mode = .stopping then s else s.recoveryFind

/-- R148: a broken RESUME, the motor at rest: the engine halts with REGISTRATION LOST as its only cause, no event of
that name is posted, and the command completes ABORTED. -/
def State.breakRecovery (s : State) : State :=
  (({ s with fmu := { s.fmu with motion := none } } : State).toStopped.halt [.registrationLost]).finish (refusal .aborted)

/-! ### The end of a stop, and a Break -/

/-- R120: the last step of the stop has been taken, and the orderer is told. -/
def State.stopEnded (s : State) : State :=
  match s.fmu.why with
  | none => s.toStopped
  | some .hold => if s.eng.cond = .running then s.toStopped.beginRun else s.toStopped
  | some .halt => if s.eng.cond = .recovering then s.toStopped.recoveryFind else s.toStopped
  | some .mediaOut => s.failFreeMove .mediaOut
  | some .breakRequest => if s.eng.cond = .recovering then s.breakRecovery else s.abortFreeMove
  | some .searchFailed => s.failSearch

/-- R13, R121, R148: a Break of an attached motion command orders a soft stop. -/
def State.breakMotion (s : State) : State :=
  if s.eng.cond = .recovering then
    if s.fmu.mode = .stopping then { s with fmu := { s.fmu with why := some .breakRequest } }
    else if s.stopsAtOnce .soft then s.breakRecovery
    else ({ s with msu := { s.msu with find := none } } : State).beginStop .soft .breakRequest
  else if s.stopIgnored .soft then s
  else if s.stopsAtOnce .soft then s.abortFreeMove
  else ({ s with msu := { s.msu with find := none } } : State).beginStop .soft .breakRequest

end Sys2Proof.Machine
end

