-- ==== Sys2Proof/Machine/Crc.lean ====
section
/-! DEFINITION. The CRC-16 of payload trailers and stored records (R27). -/

namespace Sys2Proof.Machine

/-- One bit of R27: compare, shift, combine. -/
def crcBit (c : Half) (incoming : Bool) : Half :=
  if c.msb != incoming then (c <<< 1) ^^^ 0x1021 else c <<< 1

/-- One byte, most significant bit first. -/
def crcByte (c : Half) (b : Byte) : Half :=
  [7, 6, 5, 4, 3, 2, 1, 0].foldl (fun c i => crcBit c (b.getLsbD i)) c

/-- R27: from 0x0000, no final inversion. -/
def crc16 (bytes : List Byte) : Half := bytes.foldl crcByte 0

end Sys2Proof.Machine
end

