-- ==== Sys2Proof/Machine/Store.lean ====
section
/-! DEFINITION. The two records and their stored copies (Chapter 10): the byte form of Tables 10-1 and 10-2, what is well
formed and what agrees (R154), valid and selected copies (R158), writes (R160), and the load at power-up (R163). -/

namespace Sys2Proof.Machine

/-! ### The byte form -/

/-- Low byte first. -/
def twoBytes (n : Nat) : List Byte := lowHigh (BitVec.ofNat 16 n)

/-- Table 10-1: the profile as it crosses the port and is stored. -/
def Profile.bytes (p : Profile) : List Byte :=
  [match p.mode with | .gap => 0 | .mark => 1 | .continuous => 2, BitVec.ofNat 8 p.marker, BitVec.ofNat 8 p.empty]
    ++ twoBytes p.pitch ++ twoBytes p.gap ++ twoBytes p.speed
    ++ [BitVec.ofNat 8 p.accel, BitVec.ofNat 8 p.darkness, BitVec.ofNat 8 p.hot, BitVec.ofNat 8 p.tolerance,
        BitVec.ofNat 8 (bit p.afterBatch), BitVec.ofNat 8 (bit p.autoRecover + 2 * bit p.discard),
        BitVec.ofInt 8 p.adjust]

/-- Table 10-1: the profile that a well-formed block holds. -/
def Profile.ofBytes (b : List Byte) : Profile where
  mode := match num8 b 0 with | 0 => .gap | 1 => .mark | _ => .continuous
  marker := num8 b 1
  empty := num8 b 2
  pitch := num16 b 3
  gap := num16 b 5
  speed := num16 b 7
  accel := num8 b 9
  darkness := num8 b 10
  hot := num8 b 11
  tolerance := num8 b 12
  afterBatch := (byteAt b 13).getLsbD 0
  autoRecover := (byteAt b 14).getLsbD 0
  discard := (byteAt b 14).getLsbD 1
  adjust := int8 b 15

/-- Table 10-2. -/
def Mechanism.bytes (m : Mechanism) : List Byte :=
  [BitVec.ofNat 8 m.sensorOffset, BitVec.ofNat 8 m.tearOffset] ++ twoBytes m.startSpeed
    ++ [BitVec.ofNat 8 m.faultDecel] ++ twoBytes m.powerLimit
    ++ [BitVec.ofNat 8 m.critical, BitVec.ofNat 8 m.outLength, BitVec.ofNat 8 m.powerSlot]

/-- Table 10-2: the mechanism record that a well-formed block holds. -/
def Mechanism.ofBytes (b : List Byte) : Mechanism where
  sensorOffset := num8 b 0
  tearOffset := num8 b 1
  startSpeed := num16 b 2
  faultDecel := num8 b 4
  powerLimit := num16 b 5
  critical := num8 b 7
  outLength := num8 b 8
  powerSlot := num8 b 9

/-! ### Well formed, and agreeing -/

/-- A number is not in a range. -/
def outside (n low high : Nat) : Bool := decide (n < low ∨ high < n)

/-- R154, Table 10-1: the ranges in offset order, then the inner constraints; each with the offset blamed. -/
def profileChecks (b : List Byte) : List (Bool × Nat) :=
  [(outside (num8 b 0) 0 2, 0), (outside (num8 b 1) 1 254, 1), (outside (num8 b 2) 2 255, 2),
   (outside (num16 b 3) 16 4096, 3), (outside (num16 b 5) 2 512, 5), (outside (num16 b 7) 50 1600, 7),
   (outside (num8 b 9) 1 64, 9), (outside (num8 b 10) 0 30, 10), (outside (num8 b 11) 40 70, 11),
   (outside (num8 b 12) 2 64, 12), (outside (num8 b 13) 0 1, 13), (outside (num8 b 14) 0 3, 14),
   (decide (int8 b 15 < -64 ∨ 63 < int8 b 15), 15),
   (decide (num8 b 2 ≤ num8 b 1), 2), (decide (num16 b 3 ≤ num16 b 5), 5), (decide (num16 b 5 / 2 < num8 b 12), 12)]

/-- R154, Table 10-2: the ranges in offset order. -/
def mechanismChecks (b : List Byte) : List (Bool × Nat) :=
  [(outside (num8 b 0) 16 255, 0), (outside (num8 b 1) 0 255, 1), (outside (num16 b 2) 100 400, 2),
   (outside (num8 b 4) 8 255, 4), (outside (num16 b 5) 208 832, 5), (outside (num8 b 7) 60 90, 7),
   (outside (num8 b 8) 16 255, 8), (outside (num8 b 9) 0 3, 9)]

/-- R154: the outer constraints, a profile blamed. -/
def profileAgreement (p : Profile) (m : Mechanism) : List (Bool × Nat) :=
  [(decide (m.sensorOffset / 2 < p.tolerance), 12), (decide (m.critical < p.hot + 5), 11)]

/-- R154: the outer constraints, a mechanism record blamed. -/
def mechanismAgreement (p : Profile) (m : Mechanism) : List (Bool × Nat) :=
  [(decide (m.sensorOffset / 2 < p.tolerance), 0), (decide (m.critical < p.hot + 5), 7)]

/-- No check fails. -/
def passes (l : List (Bool × Nat)) : Bool := l.all fun c => !c.1

/-- R28, R154: a field's refusal is INVALID PARAMETER, detail 12 + its offset. -/
def fieldRefusals (l : List (Bool × Nat)) : List (Bool × Ending) := l.map fun c => (c.1, badParameter (12 + c.2))

/-- R154: the record's bytes are well formed, record 0 being the mechanism record. -/
def recordWellFormed (record : Nat) (b : List Byte) : Bool :=
  passes (if record = 0 then mechanismChecks b else profileChecks b)

/-! ### Stored copies -/

/-- Bytes of a record (Tables 10-1, 10-2). -/
def recordLength (record : Nat) : Nat := if record = 0 then 10 else 16

/-- R158: sequence number, record, CRC over both. DESIGN CHOICE (log 45): the CRC stands low byte first, as the
sequence number does; R158 names a byte order for the sequence number alone. -/
def copyBytes (seq : Half) (record : List Byte) : List Byte :=
  lowHigh seq ++ record ++ lowHigh (crc16 (lowHigh seq ++ record))

/-- R158: the sequence number of a copy's bytes. -/
def copySeq (b : List Byte) : Half := half b 0
/-- R158: the record in a copy's bytes. -/
def copyRecord (record : Nat) (b : List Byte) : List Byte := (b.drop 2).take (recordLength record)

/-- R158: the CRC-16 in a copy's bytes is that of the sequence number and record before it. -/
def crcMatches (record : Nat) (b : List Byte) : Bool :=
  half b (recordLength record + 2) == crc16 (b.take (recordLength record + 2))

/-- R158: the CRC matches and the record is well formed. It is judged from the bytes alone, and afresh at each read. -/
def StoredCopy.valid (record : Nat) (c : StoredCopy) : Bool :=
  crcMatches record c.bytes && recordWellFormed record (copyRecord record c.bytes)

/-- R158: b is newer than a. -/
def newer (a b : Half) : Bool := decide (1 ≤ (b - a).toNat ∧ (b - a).toNat ≤ 32767)

/-- R158: which copy is selected: `some true` for B, `some false` for A. -/
def StoredRecord.selected (record : Nat) (r : StoredRecord) : Option Bool :=
  match r.a.valid record, r.b.valid record with
  | true, true => some (newer (copySeq r.a.bytes) (copySeq r.b.bytes))
  | true, false => some false
  | false, true => some true
  | false, false => none

def StoredRecord.copy (r : StoredRecord) (copyB : Bool) : StoredCopy := if copyB then r.b else r.a
def StoredRecord.setCopy (r : StoredRecord) (copyB : Bool) (c : StoredCopy) : StoredRecord :=
  if copyB then { r with b := c } else { r with a := c }

def Nvs.record (n : Nvs) (record : Nat) : StoredRecord := n.store.getD record ⟨⟨[]⟩, ⟨[]⟩⟩
def Nvs.setRecord (n : Nvs) (record : Nat) (r : StoredRecord) : Nvs := { n with store := n.store.set record r }

/-- R158: the bytes of a record's selected copy. -/
def Nvs.load (n : Nvs) (record : Nat) : Option (List Byte) :=
  ((n.record record).selected record).map fun b => ((n.record record).copy b).bytes

/-- R158: bytes that have decayed since they were last read. -/
def StoredCopy.decayed (c : StoredCopy) (d : Decay) : StoredCopy :=
  ⟨c.bytes.set d.index (byteAt c.bytes d.index ^^^ d.bits)⟩

def Nvs.decayed (n : Nvs) (l : List Decay) : Nvs :=
  l.foldl (fun n d =>
    let r := n.record d.record
    n.setRecord d.record (r.setCopy d.copyB ((r.copy d.copyB).decayed d))) n

/-- R159: the byte that VERIFY PROFILES returns for a record. -/
def Nvs.verdict (n : Nvs) (record : Nat) : Byte :=
  let r := n.record record
  let a := r.a.valid record
  let b := r.b.valid record
  byteOfBits [a, b, a && b && copyRecord record r.a.bytes == copyRecord record r.b.bytes]

/-- R160 step 1: the target and the bytes of a write of a record's new value. -/
def Nvs.planWrite (n : Nvs) (record : Nat) (value : List Byte) : RecordWrite :=
  let r := n.record record
  match r.selected record with
  | some b => ⟨record, !b, copyBytes (copySeq (r.copy b).bytes + 1) value⟩
  | none => ⟨record, false, copyBytes 1 value⟩

/-- R160 step 2: what the store returns for the bytes written. -/
def readBack (bytes differs : List Byte) : List Byte :=
  bytes.mapIdx fun i b => b ^^^ byteAt differs i

/-- R160 step 2: the target holds what the store returns. -/
def Nvs.writeCopy (n : Nvs) (w : RecordWrite) (bytes : List Byte) : Nvs :=
  n.setRecord w.record ((n.record w.record).setCopy w.copyB ⟨bytes⟩)

/-- R158: bytes of a copy of a record. -/
def copyLength (record : Nat) : Nat := recordLength record + 4

/-- R160: what the store returns for a copy left torn: these bytes, as many as a copy has (0xFF where none is given).
Their CRC does not match, so a last byte that would make it match is taken inverted (log 19). -/
def tornBytes (record : Nat) (left : List Byte) : List Byte :=
  let b := (left ++ List.replicate (copyLength record) 0xFF).take (copyLength record)
  if crcMatches record b then
    b.set (copyLength record - 1) (~~~ byteAt b (copyLength record - 1))
  else b

/-- R32, R160: a reset stops the attempt in hand and leaves the target torn. -/
def State.tearWrite (s : State) (left : List Byte) : State :=
  match s.csq.stage with
  | .writing w => { s with nvs := s.nvs.writeCopy w (tornBytes w.record left) }
  | _ => s

/-! ### Power-up -/

/-- R163 step 3: a default profile that does not agree is adjusted. -/
def adjustedDefault (m : Mechanism) : Profile :=
  { Profile.default with
    hot := min Profile.default.hot (m.critical - 5)
    tolerance := min Profile.default.tolerance (m.sensorOffset / 2) }

/-- NVM DEFAULTED (R163). -/
def defaulted (record : Nat) : Event := ⟨.nvmDefaulted, 0, noLabel, BitVec.ofNat 16 record⟩

/-- R163: the working records, and the events to be posted. -/
def Nvs.powerUp (n : Nvs) : Nvs × List Event :=
  let m := match n.load 0 with
    | some b => (Mechanism.ofBytes (copyRecord 0 b), [])
    | none => (Mechanism.default, [defaulted 0])
  let record := m.1.powerSlot + 1
  let p := match n.load record with
    | some b =>
      let p := Profile.ofBytes (copyRecord record b)
      if passes (profileAgreement p m.1) then (p, []) else (adjustedDefault m.1, [defaulted record])
    | none => (adjustedDefault m.1, [defaulted record])
  ({ n with profile := p.1, mech := m.1 }, m.2 ++ p.2)

end Sys2Proof.Machine
end

