-- ==== Sys2Proof/Machine/Validate.lean ====
section
/-! DEFINITION. Validation (R22 to R26): the parameter ranges of each command, the fault gate, the preconditions that
several commands share, and the two forms in which a command is carried out: without a payload (R29) and with one (R26,
R28). -/

namespace Sys2Proof.Machine

/-! ### Step 4: parameter ranges, command by command, in byte order (R25) -/

/-- R50. -/
def defineGlyphRanges (b : List Byte) : List (Bool × Ending) :=
  [(decide (63 < num8 b 2), badParameter 2), (num8 b 3 == 0, badParameter 3), (num8 b 4 == 0, badParameter 4)]

/-- R53, R57. -/
def glyphIdRange (b : List Byte) : List (Bool × Ending) := [(decide (63 < num8 b 2), badParameter 2)]

/-- R64 step 4. -/
def State.openLabelRanges (s : State) (b : List Byte) : List (Bool × Ending) :=
  [(outside (num16 b 4) 8 4096, badParameter 4),
   (s.nvs.profile.mode != .continuous && decide (s.nvs.profile.pitch - s.nvs.profile.gap < num16 b 4), badParameter 4),
   (num8 b 6 == 0, badParameter 6)]

/-- R25: PLACEMENT OUTSIDE LABEL; the label field is set when a label is open. -/
def State.outsideLabel (s : State) (index : Nat) : Ending :=
  .error .placementOutsideLabel (s.lbq.openLabel.map (·.number)) (.detail (BitVec.ofNat 32 index))

/-- R65: the origin, its x in the bytes from `ix` on and its y in those from `ix + 2` on. -/
def State.originRanges (s : State) (b : List Byte) (ix : Nat) : List (Bool × Ending) :=
  [(decide (831 < num16 b ix), s.outsideLabel ix),
   (s.lbq.openLabel.any fun l => decide (l.length ≤ num16 b (ix + 2)), s.outsideLabel (ix + 2))]

/-- R67. -/
def State.placeGlyphRanges (s : State) (b : List Byte) : List (Bool × Ending) :=
  glyphIdRange b ++ s.originRanges b 3 ++ [(decide (15 < num8 b 7), badParameter 7)]

/-- R68. -/
def State.placeTextRanges (s : State) (b : List Byte) : List (Bool × Ending) :=
  s.originRanges b 2 ++
    [(decide (15 < num8 b 6), badParameter 6), (decide (int8 b 8 < -8 ∨ 31 < int8 b 8), badParameter 8),
     (outside (num8 b 9) 1 64, badParameter 9)]

/-- R69, R70. -/
def State.placeAreaRanges (s : State) (b : List Byte) : List (Bool × Ending) :=
  s.originRanges b 2 ++
    [(outside (num16 b 6) 1 832, badParameter 6), (outside (num16 b 8) 1 4096, badParameter 8),
     (decide (15 < num8 b 10), badParameter 10)]

/-- R80. -/
def runGateRange (b : List Byte) : List (Bool × Ending) := [(decide (1 < num8 b 2), badParameter 2)]

/-- R161, R162. -/
def slotRange (b : List Byte) : List (Bool × Ending) := [(decide (3 < num8 b 2), badParameter 2)]

/-- R122. -/
def feedRanges (b : List Byte) : List (Bool × Ending) :=
  [(decide (int16 b 2 < -1024), badParameter 2),
   (num16 b 4 != 0 && outside (num16 b 4) 50 1600, badParameter 4)]

/-- R135. -/
def advanceRange (b : List Byte) : List (Bool × Ending) := [(outside (num8 b 2) 1 16, badParameter 2)]

/-- R136. -/
def State.calibrateRange (s : State) : List (Bool × Ending) :=
  [(s.nvs.profile.mode == .continuous, badParameter 0)]

/-- R25: step 4 by the code in byte 0; a command without ranges has no check here. -/
def State.ranges (s : State) (b : List Byte) : List (Bool × Ending) :=
  match (byteAt b 0).toNat with
  | 0x24 | 0x25 => slotRange b
  | 0x31 => defineGlyphRanges b
  | 0x32 | 0x34 => glyphIdRange b
  | 0x41 => s.openLabelRanges b
  | 0x42 => s.placeGlyphRanges b
  | 0x43 => s.placeTextRanges b
  | 0x44 | 0x45 => s.placeAreaRanges b
  | 0x49 => runGateRange b
  | 0x51 => feedRanges b
  | 0x52 => advanceRange b
  | 0x53 => s.calibrateRange
  | _ => []

/-! ### Steps 1 to 4 -/

/-- R22, R24: steps 1 and 2. -/
def blockChecks (b : List Byte) : List (Bool × Ending) :=
  [(checkSum b != 0, refusalDetail .checkByteError (checkSum b).toNat),
   (!commandCodes.contains (byteAt b 0), refusal .invalidCommand),
   (detachBit b && !motionCodes.contains (byteAt b 0), badParameter 1)]

/-- R24: step 3. -/
def State.faultGate (s : State) (code : Byte) : Bool × Ending :=
  (s.eng.cond == .faulted && !faultGateCodes.contains code, refusal .engineFault)

/-- R23: steps 3 and 4. -/
def State.gateAndRanges (s : State) (b : List Byte) : List (Bool × Ending) :=
  s.faultGate (byteAt b 0) :: s.ranges b

/-- R7, R23: the block reaches the sequencer. Steps 1 to 4 that fail end the command at once; otherwise the command's
own act is still to come (log 7). -/
def State.handOver (s : State) (block : List Byte) : State :=
  let s := { s with
    hpu := { s.hpu with phase := .execute, byteTimer := none, cmd := [] }
    csq := { s.csq with block := block, payload := [], stage := .validate } }
  match firstOf (blockChecks block) with
  | some e => s.complete false e
  | none =>
    match firstOf (s.gateAndRanges block) with
    | some e => s.finish e
    | none => s

/-! ### Preconditions that several commands share -/

/-- R155: the three ENGINE BUSY preconditions. -/
def State.busyChecks (s : State) : List (Bool × Ending) :=
  [(s.eng.cond != .idle, refusal .engineBusy), (s.fmu.motion.isSome, refusal .engineBusy),
   (!s.lbq.queue.isEmpty || s.lbq.openSlot.isSome, refusal .engineBusy)]

/-- R65 step 5, items 1 and 2. -/
def State.placementChecks (s : State) : List (Bool × Ending) :=
  [(s.lbq.openSlot.isNone, refusal .noOpenLabel),
   (s.lbq.openLabel.any fun l => decide (Config.maxPlacements ≤ l.placements.length), badParameter 0)]

/-- R65 item 3, R68: the first id that is not DEFINED. -/
def State.definedCheck (s : State) (ids : List Nat) : List (Bool × Ending) :=
  match ids.find? fun id => decide ((s.gst.entry id).state ≠ .defined) with
  | some id => [(true, refusalGlyph .glyphUndefined id)]
  | none => []

/-- R47, R63: the resource checks of a placement, GLYPH LIMIT first. -/
def State.placementResources (s : State) (p : Placement) : List (Bool × Ending) :=
  [((s.gst.overLimit p.uses).isSome, refusalGlyph .glyphLimit ((s.gst.overLimit p.uses).getD 0)),
   (decide (s.lbq.poolFree < p.cost / 8),
    .error .placementPoolFull (s.lbq.openLabel.map (·.number)) (.detail (BitVec.ofNat 32 p.cost)))]

/-- R66, R71: the commit of a placement, with the NOTICE it brings. -/
def State.commitPlacement (s : State) (p : Placement) : State × Ending :=
  (s.storePlacement p,
   if s.lbq.openLabel.any fun l => p.clipped s.gst l.length then .notice 1 else .ok)

/-! ### Carrying a command out -/

/-- The block of this command is in hand at this stage of its EXECUTE. -/
def State.inHand (s : State) (code : Byte) (stage : Stage) : Bool :=
  s.hpu.phase == .execute && s.csq.stage == stage && s.csq.block.head? == some code

/-- R23, R29: the checks still to be made, the safe point, and the commit, as one act. -/
def State.act (s : State) (checks : List (Bool × Ending)) (commit : State → State) : State :=
  match firstOf checks with
  | some e => s.finish e
  | none => if s.hpu.breakPending then s.abort else commit s

/-- R29: a command without a payload. `checks` are its preconditions and resource checks. -/
def State.plain (s : State) (code : Byte) (checks : List (Bool × Ending)) (commit : State → State) : State :=
  if s.inHand code .validate then s.act (s.gateAndRanges s.csq.block ++ checks) commit else s

/-- R28: the payload before its trailer. -/
def Csq.body (c : Csq) : List Byte := c.payload.take (c.payload.length - 2)

/-- R28 step 1: the trailer as received. -/
def Csq.trailer (c : Csq) : Half := half (c.payload.drop (c.payload.length - 2)) 0

/-- R28 step 1: PAYLOAD CHECK ERROR, the computed CRC in bits 15–0 and the trailer in bits 31–16. -/
def Csq.crcCheck (c : Csq) : Bool × Ending :=
  (crc16 c.body != c.trailer, .error .payloadCheckError none (.detail (c.trailer ++ crc16 c.body)))

/-- R26, R28: a command with a payload. In its first EXECUTE it orders DATA OUT, of `length` bytes with the trailer;
in its second it checks the CRC, then `again` (the fields, the preconditions at this instant and the resources). -/
def State.withPayload (s : State) (code : Byte) (checks : List (Bool × Ending)) (length : Nat)
    (again : List (Bool × Ending)) (commit : State → State) : State :=
  if s.inHand code .validate then
    s.act (s.gateAndRanges s.csq.block ++ checks) fun s => s.enterDataOut length
  else if s.inHand code .finish then s.act (s.csq.crcCheck :: again) commit
  else s

end Sys2Proof.Machine
end

