-- ==== Sys2Proof/Machine/Motion.lean ====
section
/-! DEFINITION. The six motion commands (R122, R123, R135, R136, R147) with their wait (R36), the progress of a
compaction (R54 to R56), and what follows in the same atomic step from any change of state (R86, R116, R141, R142). -/

namespace Sys2Proof.Machine

/-! ### Preconditions -/

/-- R121, Table 2-7: ENGINE HALTED, with the first persisting cause, or the primary when none persists. -/
def State.haltedRefusal (s : State) : Ending :=
  match s.firstPersisting.orElse fun _ => s.eng.primary with
  | some c => refusalDetail .engineHalted c.sense.byte.toNat
  | none => refusalDetail .engineHalted 0

/-- Table 7-5. -/
def State.motionChecks (s : State) : List (Bool × Ending) :=
  [(s.eng.cond.live, refusal .engineBusy), (s.eng.cond == .halted, s.haltedRefusal),
   (s.eng.headOpen, refusal .headOpen)]

/-- R135, R136: the precondition of the searches. -/
def State.searchChecks (s : State) : List (Bool × Ending) :=
  s.motionChecks ++ [(s.msu.absent, refusal .mediaOut)]

/-- R147: the preconditions of RESUME that refuse it. -/
def State.resumeChecks (s : State) : List (Bool × Ending) :=
  [(s.eng.cond.live, refusal .engineBusy), (s.eng.cond == .halted && !s.haltClear, s.haltedRefusal)]

/-! ### Commits -/

/-- R33, R34: the move is accepted. A detached command completes now, an attached one when the motion has ended. -/
def State.accept (s : State) (code : Byte) : State :=
  let detached := detachBit s.csq.block
  let s := { s with fmu := { s.fmu with motion := some ⟨code, if detached then .detached else .attached⟩ } }
  if detached then s.finish .ok else { s with csq := { s.csq with stage := .moving } }

/-- R123: "the present state becomes AT PRINT LINE". -/
def State.atPrintLine (s : State) : State := { s with fmu := { s.fmu with present := .atPrintLine } }

/-- R122: the commit of FEED. -/
def State.commitFeed (s : State) : State :=
  let distance := int16 s.csq.block 2
  if distance = 0 then s.finish .ok
  else
    let t := s.atPrintLine.unregister
    let t := if distance < 0 then t.emptyEdges else t
    (t.beginMove (.feed (decide (distance < 0)) (num16 s.csq.block 4)) (some (shift s.fmu.pos distance))).accept 0x51

/-- R135: the travel of an ADVANCE TO EDGE in CONTINUOUS mode. -/
def State.advanceTravel (s : State) (n : Nat) : Nat :=
  n * (match s.msu.lastLen with
    | some l => l + s.nvs.profile.gap
    | none => s.nvs.profile.pitch)

/-- R134, R135: the commit of ADVANCE TO EDGE. -/
def State.commitAdvance (s : State) : State :=
  let n := num8 s.csq.block 2
  let t := s.atPrintLine.unregister
  if s.nvs.profile.mode = .continuous then
    (t.beginMove .advance (some (shift s.fmu.pos (s.advanceTravel n)))).accept 0x52
  else
    let t := t.beginFind n
    if t.findReached then t.takeFind.toStopped.finish .ok
    else ({ t with fmu := { t.fmu with mode := .freeMove } } : State).accept 0x52

/-- R136: the commit of CALIBRATE MEDIA. -/
def State.commitCalibrate (s : State) : State :=
  let t := s.atPrintLine.unregister.emptyEdges
  (({ t with msu := { t.msu with calib := some Calib.start } } : State).beginMove .calibrate none).accept 0x53

/-- R123: the commit of PRESENT. -/
def State.commitPresent (s : State) : State :=
  let tear := s.nvs.mech.tearOffset
  if s.fmu.present = .presented then s.finish .ok
  else if tear = 0 then ({ s with fmu := { s.fmu with present := .presented, offset := 0 } } : State).finish .ok
  else
    let t := s.beginMove .present (some (shift s.fmu.pos tear))
    ({ t with fmu := { t.fmu with present := .presenting, offset := tear } } : State).accept 0x54

/-- R123: the commit of RETRACT. -/
def State.commitRetract (s : State) : State :=
  if s.fmu.present = .atPrintLine then s.finish .ok
  else if s.fmu.offset = 0 then s.atPrintLine.finish .ok
  else
    let t := s.beginMove .retract (some (shift s.fmu.pos (-(s.fmu.offset : Int))))
    ({ t with fmu := { t.fmu with present := .retracting } } : State).accept 0x55

/-- R147: the disposition, overridden by modifier bit 1 when modifier bit 0 is set. -/
def State.disposition (s : State) : Bool :=
  if modifierBit s.csq.block 0 then modifierBit s.csq.block 1 else s.nvs.profile.discard

/-- R147, R148: the commit of RESUME. -/
def State.commitResume (s : State) : State :=
  if s.eng.cond = .halted then ((s.enterRecovery s.disposition).accept 0x56).beginRecoveryFind
  else s.finish .ok

/-! ### Step 5 and the wait of R36 -/

/-- The preconditions of the motion command in hand. -/
def State.motionChecksFor (s : State) : List (Bool × Ending) :=
  match (byteAt s.csq.block 0).toNat with
  | 0x52 | 0x53 => s.searchChecks
  | 0x56 => s.resumeChecks
  | _ => s.motionChecks

/-- The commit of the motion command in hand. -/
def State.commitMotion (s : State) : State :=
  match (byteAt s.csq.block 0).toNat with
  | 0x51 => s.commitFeed
  | 0x52 => s.commitAdvance
  | 0x53 => s.commitCalibrate
  | 0x54 => s.commitPresent
  | 0x55 => s.commitRetract
  | _ => s.commitResume

/-- R26, R29: step 5 of the motion command in hand, its safe point and its commit. DESIGN CHOICE (log 54): the safe point
of R29 and R13 comes before the commit of every motion command that passes step 5, also of a RESUME in IDLE or PAUSED
(R147: it succeeds with no action) and of a FEED of distance 0 (R122): a Break pending there ends it with ABORTED. -/
def State.motionStep5 (s : State) : State := s.act s.motionChecksFor State.commitMotion

/-- R36: the wait ends because no free motion is in progress. -/
def State.endWait (s : State) : State :=
  if s.csq.stage = .waiting ∧ s.fmu.motion = none then
    ({ s with csq := { s.csq with stage := .validate, waitTimer := none } } : State).motionStep5
  else s

/-! ### Compaction -/

/-- R54 to R56: between two moves. The store is compact, or a Break ends the command, or the next move begins when no
band is being rendered (R31). -/
def State.compactOn (s : State) : State :=
  if s.csq.stage = .compacting ∧ s.gst.moving = none then
    match s.gst.nextMove with
    | none => s.finish .ok
    | some (cursor, id) =>
      if s.hpu.breakPending then s.abort
      else if s.ring.composing.isNone then
        { s with gst := { s.gst with cursor := some cursor, moving := some id } }
      else s
  else s

/-! ### What follows in the same step -/

/-- The decisions that a change of state brings with it in its own atomic step, in the order of R36 and R141: a waiting
motion command, the compaction in hand, the composer's claim (R86), the run's rest (R116, R142), a run that starts
(R141), the settle of a released motor (R125) and the idle-sample timer (R126). DESIGN CHOICE (log 50): the compaction
comes before the run, so in a step that both makes the store compact and ends a run with an automatic present the
completion byte of COMPACT GLYPHS shows MOTION clear. -/
def State.conclude (s : State) : State :=
  s.endWait.compactOn.claim.reviewRun.leavePause.startRun.reviewRun.energise.idleSampling

/-- R23, R36: a motion command: steps 3 and 4, then the wait behind a free motion, or step 5. A refusal has no effect; a
commit brings with it what follows. A Break pending at its first act ends it at the safe point (log 54). -/
def State.motion (s : State) (code : Byte) : State :=
  if s.inHand code .validate then
    match firstOf (s.gateAndRanges s.csq.block) with
    | some e => s.finish e
    | none =>
      if s.fmu.motion.isSome then
        if s.hpu.breakPending then s.abort
        else { s with csq := { s.csq with stage := .waiting, waitTimer := some Config.motionWait } }
      else s.act s.motionChecksFor fun s => s.commitMotion.conclude
  else s

/-- The commit of a command that completes at its commit point: its effect, what follows from it in the same step, and
then entry into COMPLETION, whose byte shows all of it (R29, R31, R37). -/
def State.completeAfter (effect : State → State × Ending) (s : State) : State :=
  let r := effect s
  r.1.conclude.finish r.2

end Sys2Proof.Machine
end

