-- ==== Sys2Proof/Machine/EngineSteps.lean ====
section
/-! DEFINITION. The steps of the running engine: the forward line step in the six parts of R111, the backward step (R113),
the render of a band (R87), the run start (R141), the temperature sample (R106, R143), the head-switch change (R140), the
idle sample (R126), auto-recover (R149) and the motor's release (R125). -/

namespace Sys2Proof.Machine

/-! ### A line step, parts 1 and 2 -/

/-- R83, R98, R133, R74: the step passes this label line. -/
def State.passLine (s : State) (l : LabelLine) : State :=
  let band := s.ring.band s.ring.head
  let bytes := s.ram.readBlock (ringOffset s.ring.head (l.line - band.first)) Config.lineBytes
  let length := (s.lbq.label l.copy.slot).elim 0 (·.length)
  let s := { s with ring := s.ring.passLine l.line }.strobeLine l.line bytes (band.dots.getD (l.line - band.first) 0)
  let s := if l.line = 0 then (s.beginCopy l.copy).prepareTop s.fmu.pos length else s.countLine
  if l.line + 1 = length then s.copyDone l.copy.slot else s

/-- R119: a step of the run beyond its horizon. -/
def State.overrunStep (s : State) (h : Horizon) : Bool := s.underHorizon && h.count == 0

/-- R111 parts 1 and 2: the motor step and the line passed. -/
def State.lineParts12 (s : State) : State :=
  let h := s.horizon
  let line := if s.underHorizon then s.nextLine h else none
  let v := s.forwardSpeed h
  let s := (if s.overrunStep h then s.unregister else s).stepForward v
  match line with
  | some l => s.passLine l
  | none => s.strobeNothing

/-! ### Part 4 -/

/-- R134: the search in hand was ordered by the Engine Supervisor. -/
def State.engineSearch (s : State) : Bool := s.eng.cond == .running || s.eng.cond == .recovering

/-- R134: an edge find of the engine's own fails. -/
def State.loseRegistration (s : State) : State :=
  ({ s with msu := { s.msu with find := none } } : State).unregister.post
    ⟨.registrationLost, 0, noLabel, low16 s.fmu.pos⟩

/-- What the registration decisions of a step give (R111 part 4): the state, the registration-lost request, and how the
movement in hand stands. -/
structure Decided where
  state : State
  lost : Bool
  move : MoveEnd

/-- R111 part 4: the window decision, and the search or calibration in hand. An edge find that succeeds has taken its
edges and its top here (R134 step 5), before the stop for a fault of part 5; one of the engine's own that fails has lost
registration. -/
def State.decide4 (s : State) (under : Bool) (level : Byte) (change : Option ClassChange) : Decided :=
  let w := if under then s.decideWindow else (s, false)
  let r := w.1.searchStep level change
  if r.2 = .searchFailed ∧ r.1.engineSearch then ⟨r.1.loseRegistration, true, .goesOn⟩
  else if r.2 = .found then ⟨r.1.takeFind, w.2, .found⟩
  else ⟨r.1, w.2, r.2⟩

/-! ### Part 5 -/

/-- R144: the causes of parts 3 and 4. -/
def stepCauses (absent lost : Bool) : List Cause :=
  (if absent then [Cause.mediaOut] else []) ++ (if lost then [Cause.registrationLost] else [])

/-- R111 part 5: the halt, or the fault stop that media out orders in a free move. -/
def State.stopForFault (s : State) (absent lost : Bool) : State :=
  if s.eng.cond.live && !(stepCauses absent lost).isEmpty then s.halt (stepCauses absent lost)
  else if absent then s.mediaGone
  else s

/-! ### Part 6 -/

/-- R121: a free move has reached its end. -/
def State.endFreeMove (s : State) : State := s.toStopped.endMotion .ok

/-- R122, R123, R135: a forward free move at its target. -/
def State.targetReached (s : State) : State :=
  match s.fmu.move with
  | .advance => (s.registerAt (s.fmu.pos + 1)).endFreeMove
  | .present => ({ s with fmu := { s.fmu with present := .presented } } : State).endFreeMove
  | .none | .feed _ _ | .retract | .find | .calibrate | .run => s.endFreeMove

/-- R134: a search on the host's order that reached its limit is brought to rest as a soft stop would. -/
def State.searchFails (s : State) : State :=
  if s.fmu.speed ≤ s.startSpeed then s.failSearch
  else ({ s with msu := { s.msu with find := none } } : State).beginStop .soft .searchFailed

/-- R136, R137: a calibration fails; the motor, at S, is at rest at once. -/
def State.calibrationEnds (s : State) (e : Ending) : State := s.cutShort.toStopped.endMotion e

/-- R112, R134, R137: the end of a step of a free move. What an edge find that succeeded has found was taken in part 4. -/
def State.endOfFreeStep (s : State) (m : MoveEnd) : State :=
  match m with
  | .found => if s.eng.cond = .recovering then s.recovered else s.endFreeMove
  | .searchFailed => s.searchFails
  | .calibrated => s.takeCalibration.endFreeMove
  | .calibrationFailed e => s.calibrationEnds e
  | .goesOn =>
    if s.fmu.move ≠ .find ∧ s.fmu.move ≠ .calibrate ∧ s.fmu.target = some s.fmu.pos then s.targetReached else s

/-- R117: RASTER UNDERRUN, once for each printing of a copy. -/
def State.reportUnderrun (s : State) : State :=
  match s.horizon.beyond with
  | .notHeld c line =>
    if s.fmu.rest = .starved ∧ s.fmu.underrun ≠ some c then
      ({ s with fmu := { s.fmu with underrun := some c } } : State).post
        ⟨.rasterUnderrun, BitVec.ofNat 8 c.copy, (s.lbq.label c.slot).elim noLabel (·.number), BitVec.ofNat 16 line⟩
    else s
  | .gateClosed | .nothingLeft | .topUnknown => s

/-- R116, R117, R134: the end of a step of a print run. -/
def State.endOfRunStep (s : State) (m : MoveEnd) : State :=
  if s.fmu.move = .run then s.restReason.reportUnderrun
  else if m = .found then { s with fmu := { s.fmu with move := .run } }
  else s

/-- R111 part 6: the end of the step. -/
def State.endOfStep (s : State) (m : MoveEnd) : State :=
  match s.fmu.mode with
  | .stopped => s
  | .stopping => if s.fmu.speed ≤ s.startSpeed then s.stopEnded else s
  | .freeMove => s.endOfFreeStep m
  | .printRun => s.endOfRunStep m

/-- R111: a forward step, all six parts. DESIGN CHOICE (log 53): a QUEUE IDLE of part 2 (R75) comes before the events of
the later parts. -/
def State.lineStep (s : State) (level : Byte) : State :=
  let under := s.underHorizon
  let p := s.lineParts12.stepSample level
  let d := p.state.decide4 under level p.change
  ((d.state.stopForFault p.absentNow d.lost).endOfStep d.move).conclude

/-- LINE_STEP (R111): acts when the motor has a forward step to take and no sample due by count comes first (R106). -/
def execLineStep (level : Byte) (elapsed : Nat) (s : State) : Host.Outcome State Fault Refusal :=
  .next (s.served fun s =>
    if s.forwardDue && !s.sampleDue then (s.advanceClock elapsed).lineStep level else s)

/-! ### A backward step -/

/-- R122, R123, R141: a backward move at its target. -/
def State.backAtTarget (s : State) : State :=
  match s.fmu.move with
  | .retract =>
    let s := s.atPrintLine
    if s.fmu.mode = .printRun then
      ({ s with fmu := { s.fmu with target := none, speed := 0 } } : State).runOn
    else s.endFreeMove
  | .none | .feed _ _ | .advance | .present | .find | .calibrate | .run => s.endFreeMove

/-- R110, R113: a backward step. -/
def State.backStep (s : State) : State :=
  let s := s.stepBackward.strobeNothing
  (if s.fmu.target = some s.fmu.pos then s.backAtTarget else s).conclude

/-- BACKWARD_STEP (R113): acts when the motor has a backward step to take. DESIGN CHOICE (log 52): also while a sample due
by count has not been taken; R106 puts that sample before any further line step, and a backward step is none. -/
def execBackwardStep (elapsed : Nat) (s : State) : Host.Outcome State Fault Refusal :=
  .next (s.served fun s => if s.backwardDue then (s.advanceClock elapsed).backStep else s)

/-! ### The other steps of the engine -/

/-- BAND_RENDER (R87): acts while a band is COMPOSING and no glyph move is in hand (R31). -/
def execBandRender (s : State) : Host.Outcome State Fault Refusal :=
  .next (s.served fun s =>
    if s.ring.composing.isSome && s.gst.moving.isNone then s.renderBand.conclude else s)

/-- RUN_START (R141): acts when the run start conditions all hold. -/
def execRunStart (s : State) : Host.Outcome State Fault Refusal :=
  .next (s.served fun s => if s.mayRun then s.startRun.conclude else s)

/-- R143: what the Engine Supervisor makes of a sample; `before` says whether the critical request was set before it. -/
def State.readRequests (s : State) (before : Bool) : State :=
  let t := s.hdu.thermal
  if t.crit && !before then
    let s := s.post (s.tempEvent .headCritical)
    if s.eng.cond.live then s.halt [.headCritical]
    else if s.eng.cond = .halted then s.addCause .headCritical
    else s
  else if s.eng.cond = .running ∧ t.hold = true ∧ t.crit = false then s.enterHold
  else if s.eng.cond = .holding ∧ t.hold = false then s.releaseHold
  else s

/-- TEMPERATURE_SAMPLE (R106 to R108, R143). -/
def execTemperatureSample (degrees : Int) (s : State) : Host.Outcome State Fault Refusal :=
  .next (s.served fun s => ((s.sampleHead degrees).readRequests s.hdu.thermal.crit).conclude)

/-- R149: at a closing, the settle timer starts where auto-recover applies and the halt is clear. -/
def State.startSettle (s : State) : State :=
  if s.eng.cond = .halted ∧ s.nvs.profile.autoRecover = true
      ∧ (s.eng.primary = some .headOpen ∨ s.eng.primary = some .mediaOut) ∧ s.haltClear = true then
    { s with eng := { s.eng with settle := some Config.settleTime } }
  else s

/-- R140: the head state changes. -/
def State.headChanges (s : State) : State :=
  let opening := !s.eng.headOpen
  let s := ({ s with eng := { s.eng with headOpen := opening } } : State).post
    ⟨if opening then .headOpened else .headClosed, 0, noLabel, low16 s.fmu.pos⟩
  if opening then s.headOpens else s.startSettle

/-- HEAD_STATE_CHANGE (R140). -/
def execHeadStateChange (s : State) : Host.Outcome State Fault Refusal :=
  .next (s.served fun s => s.headChanges.conclude)

/-- R126, R128, R144: an idle sample and what the Engine Supervisor makes of it. -/
def State.idleStep (s : State) (level : Byte) : State :=
  let r := s.idleSample level
  if r.2 then r.1.mediaGone else r.1

/-- IDLE_SAMPLE (R126): acts while the idle-sample timer runs. -/
def execIdleSample (level : Byte) (s : State) : Host.Outcome State Fault Refusal :=
  .next (s.served fun s => if s.msu.idleTimer.isSome then (s.idleStep level).conclude else s)

/-- AUTO_RECOVER (R149): acts while the settle timer runs, which it does in HALTED only. -/
def execAutoRecover (s : State) : Host.Outcome State Fault Refusal :=
  .next (s.served fun s =>
    if s.eng.settle.isSome && s.eng.cond == .halted then
      ((s.enterRecovery s.nvs.profile.discard).beginRecoveryFind).conclude
    else s)

/-- R125: the windings are released. -/
def State.releaseMotor (s : State) : State :=
  { s with fmu := { s.fmu with energised := false, idleTimer := none } }

/-- MOTOR_RELEASE (R125): acts while the motor's idle timer runs and the motor is at rest. -/
def execMotorRelease (s : State) : Host.Outcome State Fault Refusal :=
  .next (s.served fun s =>
    if s.fmu.energised && s.fmu.idleTimer.isSome && s.fmu.speed == 0 && !s.fmu.settling then s.releaseMotor else s)

end Sys2Proof.Machine
end

