-- ==== Sys2Proof/Machine/GlyphCommands.lean ====
section
/-! DEFINITION. The commands of the glyph store (Chapter 3): DEFINE GLYPH (R50 to R52), DELETE GLYPH (R53), COMPACT GLYPHS
and its moves (R54 to R56), and READ GLYPH ENTRY (R57). -/

namespace Sys2Proof.Machine

/-- The glyph id in byte 2. -/
def glyphId (b : List Byte) : Nat := num8 b 2

/-- R50: the bytes of the bitmap that the block announces. -/
def glyphBytes (b : List Byte) : Nat := bitmapBytes (num8 b 3) (num8 b 4)

/-- R50: the precondition on the state of the id. -/
def State.defineChecks (s : State) (b : List Byte) : List (Bool × Ending) :=
  let e := s.gst.entry (glyphId b)
  [(e.state == .doomed || (e.state == .defined && decide (0 < e.count)), refusalGlyph .glyphInUse (glyphId b))]

/-- R45: the resource check of a definition. -/
def State.roomChecks (s : State) (bytes : Nat) : List (Bool × Ending) :=
  let g := granules bytes
  [(decide (totalFree s.gst.free < g), refusalDetail .glyphMemoryFull (8 * g)),
   (decide (longestFree s.gst.free < g), refusalDetail .glyphMemoryFragmented (8 * g))]

/-- R51, R52: the commit of DEFINE GLYPH. -/
def State.commitDefine (s : State) : State × Ending :=
  let b := s.csq.block
  (s.defineGlyph (glyphId b) (num8 b 3) (num8 b 4) s.csq.body, .ok)

/-- DEFINE_GLYPH (R50). -/
def execDefineGlyph (s : State) : Host.Outcome State Fault Refusal :=
  .next (s.served fun s =>
    let b := s.csq.block
    s.withPayload 0x31 (s.defineChecks b) (glyphBytes b + 2) (s.defineChecks b ++ s.roomChecks (glyphBytes b))
      (State.completeAfter State.commitDefine))

/-- R53: the precondition of a deletion. -/
def State.deleteChecks (s : State) (b : List Byte) : List (Bool × Ending) :=
  [((s.gst.entry (glyphId b)).state == .empty, refusalGlyph .glyphUndefined (glyphId b))]

/-- R53: the commit of DELETE GLYPH. -/
def State.commitDelete (s : State) : State × Ending :=
  let id := glyphId s.csq.block
  let e := s.gst.entry id
  match e.state with
  | .defined =>
    if e.count = 0 then ({ s with gst := s.gst.release id }, .ok)
    else ({ s with gst := s.gst.setEntry id { e with state := .doomed } }, .notice (BitVec.ofNat 32 (3 + 256 * id)))
  | .empty | .doomed => (s, .ok)

/-- DELETE_GLYPH (R53). -/
def execDeleteGlyph (s : State) : Host.Outcome State Fault Refusal :=
  .next (s.served fun s => s.plain 0x32 (s.deleteChecks s.csq.block) (State.completeAfter State.commitDelete))

/-- COMPACT_GLYPHS (R54): the work begins, and ends at once when the store is compact. -/
def execCompactGlyphs (s : State) : Host.Outcome State Fault Refusal :=
  .next (s.served fun s => s.plain 0x33 [] fun s =>
    ({ s with csq := { s.csq with stage := .compacting } } : State).conclude)

/-- R31, R54, R56: the move in hand ends; with none in hand one begins and ends, unless the store is compact. -/
def State.moveEnds (s : State) : State :=
  if s.csq.stage = .compacting then
    match s.gst.cursor, s.gst.moving with
    | some cursor, some id => (s.moveGlyph cursor id).conclude
    | _, _ =>
      match s.gst.nextMove with
      | some (cursor, id) => if s.hpu.breakPending then s.conclude else (s.moveGlyph cursor id).conclude
      | none => s.conclude
  else s

/-- GLYPH_MOVE (R54). -/
def execGlyphMove (s : State) : Host.Outcome State Fault Refusal := .next (s.served State.moveEnds)

/-- Table 3-4: the eight bytes. -/
def State.entryBytes (s : State) (id : Nat) : List Byte :=
  let e := s.gst.entry id
  [BitVec.ofNat 8 id, BitVec.ofNat 8 e.state.code, BitVec.ofNat 8 e.width, BitVec.ofNat 8 e.height]
    ++ lowHigh (BitVec.ofNat 16 e.base) ++ lowHigh (BitVec.ofNat 16 e.count)

/-- READ_GLYPH_ENTRY (R57). -/
def execReadGlyphEntry (s : State) : Host.Outcome State Fault Refusal :=
  .next (s.served fun s => s.plain 0x34 [] fun s => s.enterDataIn (s.entryBytes (glyphId s.csq.block)))

end Sys2Proof.Machine
end

