-- ==== Sys2Proof/Machine/HostPort.lean ====
section
/-! DEFINITION. The rows of the host port (Chapter 1): Select, Break, the Notify Mask, Data Port accesses and DACK cycles,
the byte timeout, and the Event Port (R153). -/

namespace Sys2Proof.Machine

/-! ### Shared operations -/

/-- R7: the next block byte; the twelfth hands the block over. -/
def State.takeCommandByte (s : State) (b : Byte) : State :=
  let s := { s with hpu := { s.hpu with
    cmd := s.hpu.cmd ++ [b], counter := s.hpu.counter + 1, latch := b, byteTimer := some Config.byteTimeout } }
  if s.hpu.counter = 12 then s.handOver s.hpu.cmd else s

/-- R9: the next payload byte; the last returns the HPU to EXECUTE, where the command's second act is still to come. -/
def State.takePayloadByte (s : State) (b : Byte) : State :=
  let s := { s with
    hpu := { s.hpu with counter := s.hpu.counter + 1, latch := b, drq := false }
    csq := { s.csq with payload := s.csq.payload ++ [b] } }
  if s.hpu.counter = s.hpu.length then
    { s with
      hpu := { s.hpu with phase := .execute, byteTimer := none }
      csq := { s.csq with stage := .finish } }
  else s.raiseReq

/-- R9: the latched result byte; after the last the command completes with success. -/
def State.giveResultByte (s : State) : State :=
  let s := { s with hpu := { s.hpu with
    bus := s.hpu.latch, counter := s.hpu.counter + 1, drq := false } }
  if s.hpu.counter = s.hpu.length then s.finish .ok
  else
    ({ s with hpu := { s.hpu with latch := s.hpu.result.headD 0, result := s.hpu.result.tail } } : State).raiseReq

/-- R10: the completion byte is read and the HPU enters FREE. -/
def State.giveCompletionByte (s : State) : State :=
  { s with hpu := { s.hpu with
    bus := s.hpu.completion, cirq := false, misuse := false, phase := .free } }

/-- R15: a refused write; the byte is discarded. -/
def State.refuseWrite (s : State) : State := s.refuseAccess 2

/-- R15: a refused read returns 0xFF. -/
def State.refuseRead (s : State) : State :=
  ({ s with hpu := { s.hpu with bus := 0xFF } } : State).refuseAccess 3

/-- R1, R7, R9, R15: a Data Port write as the phase allows. -/
def State.dataWrite (s : State) (b : Byte) : State :=
  match s.hpu.phase with
  | .command => s.takeCommandByte b
  | .dataOut => s.takePayloadByte b
  | .free | .execute | .dataIn | .completion => s.refuseWrite

/-- R1, R9, R10, R15: a Data Port read as the phase allows. -/
def State.dataRead (s : State) : State :=
  match s.hpu.phase with
  | .dataIn => s.giveResultByte
  | .completion => s.giveCompletionByte
  | .free | .command | .execute | .dataOut => s.refuseRead

/-- A Data Port access by its direction; out of service a read returns 0xFF and a write is ignored (R20). -/
def State.dataAccess (s : State) : Access → State
  | .read => s.servedRead State.dataRead
  | .write b => s.served (State.dataWrite · b)

/-- R17: a DACK cycle. -/
def State.dack (s : State) (a : Access) : State :=
  match s.hpu.phase, a with
  | .dataOut, .write b => s.takePayloadByte b
  | .dataIn, .read => s.giveResultByte
  | _, .write _ => s.refuseWrite
  | _, .read => s.refuseRead

/-- R12, R14: a command ends at once in COMMAND, DATA OUT or DATA IN. -/
def State.endEarly (s : State) (e : Ending) : State :=
  ({ s with hpu := { s.hpu with cmd := [], drq := false } } : State).finish e

/-- R13, R56, R160, R167: what a Break does in EXECUTE, at the command's next safe point. DESIGN CHOICE (log 48): the
instant between RAM TEST's commit and its first byte test is taken as a safe point like those between two byte tests, so
a Break there ends the command with no byte tested. -/
def State.breakExecute (s : State) : State :=
  if s.hpu.breakPending then s
  else
    let s := { s with hpu := { s.hpu with breakPending := true } }
    match s.csq.stage with
    | .waiting | .ramTesting _ => s.abort
    | .compacting => if s.gst.moving.isNone then s.abort else s
    | .moving => s.breakMotion
    | .idle | .validate | .finish | .writing _ => s

/-- R12, R13: a Break. -/
def State.breakNow (s : State) : State :=
  match s.hpu.phase with
  | .free | .completion => s
  | .command | .dataOut | .dataIn => s.endEarly (refusal .aborted)
  | .execute => s.breakExecute.conclude

/-- R152: the OVERFLOW record takes the freed slot. -/
def Eng.reportOverflow (e : Eng) : Eng :=
  if 0 < e.overflow then
    { e with events := e.events ++ [⟨.overflow, 0, noLabel, BitVec.ofNat 16 e.overflow⟩], overflow := 0 }
  else e

/-- R152, R153: a read of the Event Port. -/
def State.readEvent (s : State) : State :=
  match s.eng.events with
  | [] => { s with hpu := { s.hpu with bus := 0x00 } }
  | e :: rest =>
    let s := { s with hpu := { s.hpu with bus := byteAt e.bytes s.eng.cursor } }
    if 5 ≤ s.eng.cursor then
      { s with eng := ({ s.eng with events := rest, cursor := 0 } : Eng).reportOverflow }
    else { s with eng := { s.eng with cursor := s.eng.cursor + 1 } }

/-- R6, R15: a Select. -/
def State.selectNow (s : State) : State :=
  match s.hpu.phase with
  | .free =>
    { s with hpu := { s.hpu with
      phase := .command, counter := 0, cmd := [], misuse := false, byteTimer := some Config.byteTimeout } }
  | .command | .execute | .dataOut | .dataIn | .completion => s.refuseAccess 1

/-- R4: a write of the Notify Mask. -/
def State.writeMask (s : State) (value : Byte) : State :=
  { s with hpu := { s.hpu with
    mask := value.setWidth 3, drq := s.hpu.drq && value.getLsbD 0, cirq := s.hpu.cirq && value.getLsbD 1 } }

/-- R14: the byte timeout expires. -/
def State.timeoutNow (s : State) : State :=
  if s.hpu.byteTimer.isSome then s.endEarly (refusalDetail .portTimeout s.hpu.phase.code) else s

/-! ### The rows -/

/-- SELECT (R6). -/
def execSelect (s : State) : Host.Outcome State Fault Refusal := .next (s.served State.selectNow)

/-- BREAK (R12, R13). -/
def execBreak (s : State) : Host.Outcome State Fault Refusal := .next (s.served State.breakNow)

/-- NOTIFY_MASK_WRITE (R4). -/
def execNotifyMaskWrite (value : Byte) (s : State) : Host.Outcome State Fault Refusal :=
  .next (s.served (State.writeMask · value))

/-- COMMAND_BYTE (R7): a Data Port write; in another phase than COMMAND it is served as that phase allows (R1). -/
def execCommandByte (value : Byte) (s : State) : Host.Outcome State Fault Refusal :=
  .next (s.dataAccess (.write value))

/-- PAYLOAD_BYTE (R9): a Data Port write; in another phase than DATA OUT it is served as that phase allows (R1). -/
def execPayloadByte (value : Byte) (s : State) : Host.Outcome State Fault Refusal :=
  .next (s.dataAccess (.write value))

/-- RESULT_BYTE_READ (R9): a Data Port read; in another phase than DATA IN it is served as that phase allows (R1). -/
def execResultByteRead (s : State) : Host.Outcome State Fault Refusal := .next (s.dataAccess .read)

/-- COMPLETION_BYTE_READ (R10): a Data Port read; in another phase than COMPLETION it is served as that phase allows. -/
def execCompletionByteRead (s : State) : Host.Outcome State Fault Refusal := .next (s.dataAccess .read)

/-- DACK_CYCLE (R17). -/
def execDackCycle (access : Access) (s : State) : Host.Outcome State Fault Refusal :=
  .next (match access with
    | .read => s.servedRead (State.dack · .read)
    | .write b => s.served (State.dack · (.write b)))

/-- BYTE_TIMEOUT (R14): acts while the timeout runs. -/
def execByteTimeout (s : State) : Host.Outcome State Fault Refusal := .next (s.served State.timeoutNow)

/-- EVENT_PORT_READ (R153). -/
def execEventPortRead (s : State) : Host.Outcome State Fault Refusal := .next (s.servedRead State.readEvent)

/-- REFUSED_DATA_PORT_ACCESS (R15): a Data Port access that the phase does not allow; one that it allows is served. -/
def execRefusedDataPortAccess (access : Access) (s : State) : Host.Outcome State Fault Refusal :=
  .next (s.dataAccess access)

end Sys2Proof.Machine
end

