-- ==== Sys2Proof/Machine/LabelCommands.lean ====
section
/-! DEFINITION. The commands of the label queue (Chapter 4): opening (R64), placing (R65 to R71), closing (R72),
discarding (R73), cancelling (R76 to R79) and the run gate (R80). -/

namespace Sys2Proof.Machine

/-- R64 step 5. -/
def State.openChecks (s : State) : List (Bool × Ending) :=
  [(s.lbq.openLabel.isSome, .error .labelAlreadyOpen (s.lbq.openLabel.map (·.number)) .nothing),
   (s.lbq.freeSlot.isNone, refusal .queueFull)]

/-- R64: the record of a label just opened. -/
def freshLabel (b : List Byte) : Label := ⟨half b 2, num16 b 4, num8 b 6, 0, .opened, false, [], 0⟩

/-- R64: the commit of OPEN LABEL. -/
def State.commitOpen (s : State) : State × Ending :=
  match s.lbq.freeSlot with
  | some slot => ({ s with lbq := s.lbq.setLabel slot (some (freshLabel s.csq.block)) }, .ok)
  | none => (s, .ok)

/-- OPEN_LABEL (R64). -/
def execOpenLabel (s : State) : Host.Outcome State Fault Refusal :=
  .next (s.served fun s => s.plain 0x41 s.openChecks (State.completeAfter State.commitOpen))

/-- R67: the placement that a PLACE GLYPH block asks for. -/
def glyphPlacement (b : List Byte) : Placement :=
  .glyph (num8 b 2) (num16 b 3) (num16 b 5) (num8 b 7) (transformOf (byteAt b 8))

/-- PLACE_GLYPH (R67). -/
def execPlaceGlyph (s : State) : Host.Outcome State Fault Refusal :=
  .next (s.served fun s =>
    let p := glyphPlacement s.csq.block
    s.plain 0x42 (s.placementChecks ++ s.definedCheck p.uses ++ s.placementResources p)
      (State.completeAfter fun s => s.commitPlacement p))

/-- R68: the placement that a PLACE TEXT block and its glyph list ask for. -/
def textPlacement (b ids : List Byte) : Placement :=
  .text (num16 b 2) (num16 b 4) (num8 b 6) (transformOf (byteAt b 7)) (int8 b 8) (ids.map (·.toNat))

/-- R68: each id of the list as a payload field. -/
def idFields (ids : List Byte) : List (Bool × Ending) :=
  ids.zipIdx.map fun b => (decide (63 < b.1.toNat), badParameter (12 + b.2))

/-- PLACE_TEXT (R68). -/
def execPlaceText (s : State) : Host.Outcome State Fault Refusal :=
  .next (s.served fun s =>
    let p := textPlacement s.csq.block s.csq.body
    s.withPayload 0x43 s.placementChecks (num8 s.csq.block 9 + 2)
      (idFields s.csq.body ++ s.placementChecks ++ s.definedCheck p.uses ++ s.placementResources p)
      (State.completeAfter fun s => s.commitPlacement p))

/-- R69: the placement that a PLACE RULE block asks for. -/
def rulePlacement (b : List Byte) : Placement :=
  .rule (num16 b 2) (num16 b 4) (num16 b 6) (num16 b 8) (num8 b 10)

/-- PLACE_RULE (R69). -/
def execPlaceRule (s : State) : Host.Outcome State Fault Refusal :=
  .next (s.served fun s =>
    let p := rulePlacement s.csq.block
    s.plain 0x44 (s.placementChecks ++ s.placementResources p) (State.completeAfter fun s => s.commitPlacement p))

/-- R70: the placement that a PLACE IMAGE block and its bitmap ask for. -/
def imagePlacement (b bitmap : List Byte) : Placement :=
  .image (num16 b 2) (num16 b 4) (num16 b 6) (num16 b 8) (num8 b 10) bitmap

/-- PLACE_IMAGE (R70). -/
def execPlaceImage (s : State) : Host.Outcome State Fault Refusal :=
  .next (s.served fun s =>
    let b := s.csq.block
    let p := imagePlacement b s.csq.body
    s.withPayload 0x45 s.placementChecks (bitmapBytes (num16 b 6) (num16 b 8) + 2)
      (s.placementChecks ++ s.placementResources p) (State.completeAfter fun s => s.commitPlacement p))

/-- R72, R73: the one precondition. -/
def State.openNeeded (s : State) : List (Bool × Ending) := [(s.lbq.openSlot.isNone, refusal .noOpenLabel)]

/-- R72, R85: the commit of CLOSE LABEL. -/
def State.commitClose (s : State) : State × Ending :=
  match s.lbq.openSlot, s.lbq.openLabel with
  | some slot, some l =>
    let state := if s.lbq.queue.isEmpty then LabelState.active else LabelState.queued
    ({ s with
      lbq := { s.lbq.setLabel slot (some { l with state := state, done := 0 }) with queue := s.lbq.queue ++ [slot] }
      ring := { s.ring with seat := some (s.ring.seat.getD ⟨slot, 1, 0⟩) } }, .ok)
  | _, _ => (s, .ok)

/-- CLOSE_LABEL (R72). -/
def execCloseLabel (s : State) : Host.Outcome State Fault Refusal :=
  .next (s.served fun s => s.plain 0x46 s.openNeeded (State.completeAfter State.commitClose))

/-- R73: the commit of DISCARD LABEL. -/
def State.commitDiscard (s : State) : State × Ending :=
  match s.lbq.openSlot with
  | some slot => (s.removeLabel slot none, .ok)
  | none => (s, .ok)

/-- DISCARD_LABEL (R73). -/
def execDiscardLabel (s : State) : Host.Outcome State Fault Refusal :=
  .next (s.served fun s => s.plain 0x47 s.openNeeded (State.completeAfter State.commitDiscard))

/-- R76: the targets that a CANCEL LABELS block asks for. -/
def State.blockTargets (s : State) : List Nat :=
  s.lbq.targets (modifierBit s.csq.block 0) (half s.csq.block 2)

/-- R76: the effect of CANCEL LABELS; with no target there is none. -/
def State.commitCancel (s : State) : State × Ending :=
  (if s.blockTargets.isEmpty then s else s.cancelTargets (immediateBit s.csq.block) s.blockTargets, .ok)

/-- R76: the commit of CANCEL LABELS; with bit 0 clear and no label found it is refused there, with nothing changed. -/
def State.cancelNow (s : State) : State :=
  if s.blockTargets.isEmpty && !modifierBit s.csq.block 0 then
    s.finish (.error .labelNotFound (some (half s.csq.block 2)) .nothing)
  else s.completeAfter State.commitCancel

/-- CANCEL_LABELS (R76). -/
def execCancelLabels (s : State) : Host.Outcome State Fault Refusal :=
  .next (s.served fun s => s.plain 0x48 [] State.cancelNow)

/-- SET_RUN_GATE (R80). -/
def execSetRunGate (s : State) : Host.Outcome State Fault Refusal :=
  .next (s.served fun s => s.plain 0x49 []
    (State.completeAfter fun s => ({ s with lbq := { s.lbq with gate := num8 s.csq.block 2 == 1 } }, .ok)))

end Sys2Proof.Machine
end

