-- ==== Sys2Proof/Machine/MotionCommands.lean ====
section
/-! DEFINITION. The rows of the six motion commands (R121 to R123, R135, R136, R147) and of their wait timer (R36). -/

namespace Sys2Proof.Machine

/-- FEED (R122). -/
def execFeed (s : State) : Host.Outcome State Fault Refusal := .next (s.served (State.motion · 0x51))

/-- ADVANCE_TO_EDGE (R135). -/
def execAdvanceToEdge (s : State) : Host.Outcome State Fault Refusal := .next (s.served (State.motion · 0x52))

/-- CALIBRATE_MEDIA (R136). -/
def execCalibrateMedia (s : State) : Host.Outcome State Fault Refusal := .next (s.served (State.motion · 0x53))

/-- PRESENT (R123). -/
def execPresent (s : State) : Host.Outcome State Fault Refusal := .next (s.served (State.motion · 0x54))

/-- RETRACT (R123). -/
def execRetract (s : State) : Host.Outcome State Fault Refusal := .next (s.served (State.motion · 0x55))

/-- RESUME (R147). -/
def execResume (s : State) : Host.Outcome State Fault Refusal := .next (s.served (State.motion · 0x56))

/-- R36: the wait timer expires; the detail is the earlier motion's command code (Table 2-7). -/
def State.waitExpires (s : State) : State :=
  if s.csq.waitTimer.isSome then
    s.finish (refusalDetail .motionTimeout (s.fmu.motion.elim 0 (·.code.toNat)))
  else s

/-- MOTION_WAIT_TIMEOUT (R36): acts while the wait timer runs. -/
def execMotionWaitTimeout (s : State) : Host.Outcome State Fault Refusal := .next (s.served State.waitExpires)

end Sys2Proof.Machine
end

