-- ==== Sys2Proof/Machine/ProfileCommands.lean ====
section
/-! DEFINITION. The commands of Chapter 10: the working profile and mechanism record (R155 to R157), the stored profiles
(R159, R161, R162), and the write of one record copy (R160). -/

namespace Sys2Proof.Machine

/-- R155, R162: a profile is put in force. -/
def State.useProfile (s : State) (p : Profile) : State :=
  ({ s with nvs := { s.nvs with profile := p } } : State).emptyEdges.unregister

/-- R157: a mechanism record is put in force. -/
def State.useMechanism (s : State) (m : Mechanism) : State :=
  let t := { s with nvs := { s.nvs with mech := m }, msu := { s.msu with emptyRun := 0 } }
  if m.sensorOffset = s.nvs.mech.sensorOffset then t else t.emptyEdges.unregister

/-- R160: the write of a record's new value begins with its first attempt. -/
def State.beginWrite (s : State) (record : Nat) (value : List Byte) : State :=
  { s with csq := { s.csq with stage := .writing (s.nvs.planWrite record value), attempts := 1 } }

/-- The strap as sampled at this instant (R2, R157). -/
def State.sampleStrap (s : State) (strap : Bool) : State := { s with strap := strap }

/-- The store returns what has become of its bytes (R158). -/
def State.readStore (s : State) (decay : List Decay) : State := { s with nvs := s.nvs.decayed decay }

/-- R157, R161: refused while the strap is fitted. -/
def State.strapCheck (s : State) (record : Nat) : Bool × Ending := (s.strap, refusalDetail .nvmProtected record)

/-- R155: steps 2 and 3 of R28, for SET MEDIA PARAMETERS. -/
def State.mediaChecks (s : State) : List (Bool × Ending) :=
  let b := s.csq.body
  fieldRefusals (profileChecks b ++ profileAgreement (Profile.ofBytes b) s.nvs.mech) ++ s.busyChecks

/-- R157: steps 2 and 3 of R28, for SET MECHANISM PARAMETERS. -/
def State.mechanismPayloadChecks (s : State) : List (Bool × Ending) :=
  let b := s.csq.body
  fieldRefusals (mechanismChecks b ++ mechanismAgreement s.nvs.profile (Mechanism.ofBytes b)) ++ s.busyChecks
    ++ [s.strapCheck 0]

/-- R162: the profile that LOAD PROFILE finds in a record, or its refusal. -/
def State.loadChecks (s : State) (record : Nat) : List (Bool × Ending) :=
  match s.nvs.load record with
  | none => [(true, refusalDetail .profileInvalid record)]
  | some b => fieldRefusals (profileAgreement (Profile.ofBytes (copyRecord record b)) s.nvs.mech)

/-- R162: the commit of LOAD PROFILE. -/
def State.loadProfile (s : State) (record : Nat) : State :=
  match s.nvs.load record with
  | none => s
  | some b => s.useProfile (Profile.ofBytes (copyRecord record b))

/-- R156: the eighteen bytes. -/
def State.mediaBytes (s : State) : List Byte := s.nvs.profile.bytes ++ lowHigh (crc16 s.nvs.profile.bytes)

/-- The record that a slot's profile is kept in (section 10.1). -/
def slotRecord (b : List Byte) : Nat := num8 b 2 + 1

/-- R38, R160: how a write that matched ends. -/
def State.writeEnding (s : State) (w : RecordWrite) : Ending :=
  if s.csq.attempts ≤ 1 then .ok
  else .notice (BitVec.ofNat 32 (2 + 256 * w.record + 65536 * s.csq.attempts))

/-- R160: an attempt and its read-back end. -/
def State.attemptEnds (s : State) (differs : List Byte) : State :=
  match s.csq.stage with
  | .writing w =>
    let back := readBack w.bytes differs
    let t := { s with nvs := s.nvs.writeCopy w back }
    if back = w.bytes then t.finish (s.writeEnding w)
    else if s.hpu.breakPending then t.abort
    else if 3 ≤ s.csq.attempts then t.finish (refusalDetail .nvmWriteFailed w.record)
    else { t with csq := { t.csq with attempts := t.csq.attempts + 1 } }
  | _ => s

/-- SET_MEDIA_PARAMETERS (R155). -/
def execSetMediaParameters (s : State) : Host.Outcome State Fault Refusal :=
  .next (s.served fun s => s.withPayload 0x21 s.busyChecks 18 s.mediaChecks
    (State.completeAfter fun s => (s.useProfile (Profile.ofBytes s.csq.body), .ok)))

/-- READ_MEDIA_PARAMETERS (R156). -/
def execReadMediaParameters (s : State) : Host.Outcome State Fault Refusal :=
  .next (s.served fun s => s.plain 0x22 [] fun s => s.enterDataIn s.mediaBytes)

/-- R157: the commit of SET MECHANISM PARAMETERS, which begins its record write. -/
def State.commitMechanism (s : State) : State :=
  ((s.useMechanism (Mechanism.ofBytes s.csq.body)).beginWrite 0 s.csq.body).conclude

/-- R157: SET MECHANISM PARAMETERS with the strap sampled and the store read. -/
def State.setMechanism (s : State) (strap : Bool) (decay : List Decay) : State :=
  if s.inHand 0x23 .validate || s.inHand 0x23 .finish then
    let s := (s.sampleStrap strap).readStore decay
    s.withPayload 0x23 (s.busyChecks ++ [s.strapCheck 0]) 12 s.mechanismPayloadChecks State.commitMechanism
  else s

/-- SET_MECHANISM_PARAMETERS (R157). -/
def execSetMechanismParameters (strap : Bool) (decay : List Decay) (s : State) : Host.Outcome State Fault Refusal :=
  .next (s.served fun s => s.setMechanism strap decay)

/-- R161: STORE PROFILE with the strap sampled and the store read. -/
def State.storeProfile (s : State) (strap : Bool) (decay : List Decay) : State :=
  if s.inHand 0x24 .validate then
    let s := (s.sampleStrap strap).readStore decay
    let record := slotRecord s.csq.block
    s.plain 0x24 [s.strapCheck record] fun s => s.beginWrite record s.nvs.profile.bytes
  else s

/-- STORE_PROFILE (R161). -/
def execStoreProfile (strap : Bool) (decay : List Decay) (s : State) : Host.Outcome State Fault Refusal :=
  .next (s.served fun s => s.storeProfile strap decay)

/-- R162: LOAD PROFILE with the store read. -/
def State.loadSlot (s : State) (decay : List Decay) : State :=
  if s.inHand 0x25 .validate then
    let s := s.readStore decay
    let record := slotRecord s.csq.block
    s.plain 0x25 (s.busyChecks ++ s.loadChecks record)
      (State.completeAfter fun s => (s.loadProfile record, .ok))
  else s

/-- LOAD_PROFILE (R162). -/
def execLoadProfile (decay : List Decay) (s : State) : Host.Outcome State Fault Refusal :=
  .next (s.served fun s => s.loadSlot decay)

/-- R159: VERIFY PROFILES with the store read. -/
def State.verifyStore (s : State) (decay : List Decay) : State :=
  if s.inHand 0x26 .validate then
    (s.readStore decay).plain 0x26 [] fun s => s.enterDataIn ((List.range 5).map s.nvs.verdict)
  else s

/-- VERIFY_PROFILES (R159). -/
def execVerifyProfiles (decay : List Decay) (s : State) : Host.Outcome State Fault Refusal :=
  .next (s.served fun s => s.verifyStore decay)

/-- RECORD_COPY_WRITE (R160). -/
def execRecordCopyWrite (differs : List Byte) (s : State) : Host.Outcome State Fault Refusal :=
  .next (s.served fun s => s.attemptEnds differs)

end Sys2Proof.Machine
end

