-- ==== Sys2Proof/Machine/Resets.lean ====
section
/-! DEFINITION. The three resets (Table 11-1, R19, R32, R58, R163 to R165), the destructive RAM test of the power-up
sequence (R165), and the time in which the port is out of service (R20). -/

namespace Sys2Proof.Machine

/-- R42: the sense record after a reset of this kind. -/
def resetSense (kind : Nat) : Sense := ⟨.resetOccurred, 0, none, .detail (BitVec.ofNat 32 kind)⟩

/-- Table 11-1: what all three resets leave alike: the port, the sequencer, the label queue, the head drive, the motor,
the media sense unit and the supervisor before its inputs are read. The glyph store, the ring, the non-volatile store,
memory and the condition are each reset's own. -/
def State.clearBlocks (s : State) (sense : Sense) : State :=
  { s with
    hpu := State.reset.hpu
    csq := { State.reset.csq with sense := sense }
    lbq := State.reset.lbq
    hdu := State.reset.hdu
    fmu := State.reset.fmu
    msu := State.reset.msu
    eng := { State.reset.eng with cond := s.eng.cond, events := [] } }

/-- R126, R106, R140, R164: the inputs as a reset reads them, without an event. -/
def State.readInputs (s : State) (i : Inputs) : State :=
  let s := (s.resetSample i.level).sampleHead i.degrees
  { s with eng := { s.eng with headOpen := i.headOpen } }

/-- Events in order. -/
def State.postAll (s : State) (l : List Event) : State := l.foldl State.post s

/-- R164: RESET, the records of the reset's kind, HEAD OPENED and HEAD CRITICAL. -/
def State.reportReset (s : State) (kind : Byte) (own : List Event) : State :=
  s.postAll ([⟨.reset, kind, noLabel, 0⟩] ++ own
    ++ (if s.eng.headOpen then [⟨.headOpened, 0, noLabel, 0⟩] else [])
    ++ (if s.hdu.thermal.crit then [s.tempEvent .headCritical] else []))

/-- R32: a glyph move in hand is finished. -/
def State.finishMove (s : State) : State :=
  match s.gst.cursor, s.gst.moving with
  | some cursor, some id => s.moveGlyph cursor id
  | _, _ => s

/-- R32, R164: what a reset deals with first: a record copy being written is left torn, and the render of a band and a
glyph move in hand are finished. -/
def State.dealFirst (s : State) (torn : List Byte) : State := (s.tearWrite torn).renderBand.finishMove

/-- R58: GLYPH RELEASED at a port reset. -/
def releasedAtReset (id : Nat) : Event := ⟨.glyphReleased, 0, noLabel, BitVec.ofNat 16 id⟩

/-- R139: a port reset leaves FAULTED as it is. -/
def Condition.afterPortReset : Condition → Condition
  | .faulted => .faulted
  | .idle | .running | .holding | .paused | .halted | .recovering => .idle

/-- R19, R58, R164, Table 11-1: a port reset. -/
def State.portReset (s : State) (i : Inputs) : State :=
  let s := s.dealFirst i.torn
  let t := s.clearBlocks (resetSense 3)
  let t := { t with
    gst := s.gst.portReset
    ring := { s.ring.flush with seat := none }
    eng := { t.eng with cond := s.eng.cond.afterPortReset } }
  (t.readInputs i).reportReset 3 (s.gst.doomedIds.map releasedAtReset)

/-! ### The destructive RAM test of the power-up sequence -/

/-- R165 step 1: what pass `pass` writes at an offset: 0x55, 0xAA, the low eight bits of the offset, 0x00. -/
def passPattern : Nat → Nat → Byte
  | 0, _ => 0x55
  | 1, _ => 0xAA
  | 2, offset => BitVec.ofNat 8 offset
  | _, _ => 0x00

/-- What a byte reads back as in a pass (log 9). -/
def passReadBack (l : List Misread) (pass offset : Nat) : Byte :=
  passPattern pass offset ^^^ ((l.find? fun m => m.pass == pass && m.offset == offset).elim 0 (·.bits))

/-- R165 step 1: the read-back of a byte differs from what the pass wrote. -/
def passFailsAt (l : List Misread) (pass offset : Nat) : Bool := passReadBack l pass offset != passPattern pass offset

/-- R165 step 1: the first offset, in increasing order, at which a pass fails. Only a byte that the list names can; that
this is the first of all the offsets is `passFailure_eq`. -/
def passFailure (l : List Misread) (pass : Nat) : Option Nat :=
  ((l.filter fun m => decide (m.offset < Config.ramBytes) && passFailsAt l pass m.offset).map (·.offset)).min?

/-- How the RAM test of R165 ends. -/
inductive RamOutcome where
  /-- Every byte read back as written in every pass. -/
  | passed
  /-- The test stopped in this pass, at this offset. -/
  | failed (pass offset : Nat)
deriving DecidableEq, Repr

/-- R165 step 1: the passes one after another, until a byte fails. -/
def testPasses (l : List Misread) : List Nat → RamOutcome
  | [] => .passed
  | pass :: rest =>
    match passFailure l pass with
    | some offset => .failed pass offset
    | none => testPasses l rest

/-- R165 step 1: four passes over offsets 0 to 51,199. -/
def ramOutcome (l : List Misread) : RamOutcome := testPasses l [0, 1, 2, 3]

/-- R165: what the memories hold after the test: 0x00 everywhere, or, after a failure, in each byte what the pass that
failed wrote, as it reads back (log 9). -/
def memoryAfterTest (l : List Misread) : RamOutcome → Memory
  | .passed => ⟨[]⟩
  | .failed pass _ => (⟨[]⟩ : Memory).writeBlock 0 ((List.range Config.ramBytes).map (passReadBack l pass))

/-- R163, R165: the working records after the RAM test, with the events they bring. -/
def Nvs.afterTest (n : Nvs) : RamOutcome → Nvs × List Event
  | .passed => n.powerUp
  | .failed _ _ => ({ n with profile := .default, mech := .default }, [])

/-- R42, R165: the sense record after the power-up sequence. -/
def senseAfterTest (kind : Nat) : RamOutcome → Sense
  | .passed => resetSense kind
  | .failed _ offset => ⟨.ramFault, 0, none, .detail (BitVec.ofNat 32 offset)⟩

/-- R165 step 4. -/
def conditionAfterTest : RamOutcome → Condition
  | .passed => .idle
  | .failed _ _ => .faulted

/-! ### The resets -/

/-- R163 to R165, Table 11-1: a power-on reset (kind 1) or pin reset (kind 2) with its power-up sequence. Of what a reset
deals with first (R164), the copy being written alone is still there afterwards. -/
def State.powerUp (s : State) (kind : Nat) (p : PowerUp) : State :=
  let outcome := ramOutcome p.misreads
  let nvs := ((s.tearWrite p.inputs.torn).nvs.decayed p.decay).afterTest outcome
  let t := s.clearBlocks (senseAfterTest kind outcome)
  let t := { t with
    gst := State.reset.gst
    ring := State.reset.ring
    nvs := nvs.1
    ram := memoryAfterTest p.misreads outcome
    strap := p.strap
    eng := { t.eng with cond := conditionAfterTest outcome } }
  (t.readInputs p.inputs).reportReset (BitVec.ofNat 8 kind) nvs.2

/-- What is left of the work in hand while the part is out of service: of a record copy write the write that has stopped,
for the reset that ends the sequence to tear its copy (R160, log 19), and of all other work nothing. -/
def Stage.stopped : Stage → Stage
  | .writing w => .writing w
  | .idle | .validate | .finish | .waiting | .moving | .compacting | .ramTesting _ => .idle

/-- R20, R32, R164: the port is out of service, the reset input being held or the power-up sequence in progress. A band
render and a glyph move in hand finish, the motor comes to a dead stop, and everything else in hand stops where it
stands. The rest waits for the end of the sequence, which sets it whole (log 39). -/
def State.outOfService (s : State) (service : Service) : State :=
  let t := s.renderBand.finishMove.toStopped
  let stage := s.csq.stage.stopped
  { t with
    hpu := { State.reset.hpu with service := service, phase := if stage = .idle then .free else .execute }
    csq := { State.reset.csq with sense := s.csq.sense, stage := stage }
    gst := { t.gst with cursor := none, moving := none }
    fmu := { t.fmu with motion := none }
    msu := { t.msu with find := none, calib := none } }

/-- R20, R165: the power-up sequence of this kind, ended or still in progress (log 16). -/
def State.powerUpNow (s : State) (kind : Nat) (p : PowerUp) : State :=
  if p.ends then s.powerUp kind p else s.outOfService .starting

/-- PORT_RESET (R19); out of service it is ignored (R20). -/
def execPortReset (_value : Byte) (inputs : Inputs) (s : State) : Host.Outcome State Fault Refusal :=
  .next (s.served (State.portReset · inputs))

/-- PIN_RESET (R165). -/
def execPinReset (found : PowerUp) (s : State) : Host.Outcome State Fault Refusal := .next (s.powerUpNow 2 found)

/-- POWER_ON_RESET (R165). -/
def execPowerOnReset (found : PowerUp) (s : State) : Host.Outcome State Fault Refusal := .next (s.powerUpNow 1 found)

/-- RESET_INPUT_HELD (R20). -/
def execResetInputHeld (s : State) : Host.Outcome State Fault Refusal := .next (s.outOfService .held)

end Sys2Proof.Machine
end

