-- ==== Sys2Proof/Machine/SelfTest.lean ====
section
/-! DEFINITION. RAM TEST and the test of one byte (R166, R167). -/

namespace Sys2Proof.Machine

/-- R166 step 5: IDLE or FAULTED, and no free motion. -/
def State.ramTestChecks (s : State) : List (Bool × Ending) :=
  [(s.eng.cond != .idle && s.eng.cond != .faulted, refusal .engineBusy), (s.fmu.motion.isSome, refusal .engineBusy)]

/-- RAM_TEST (R166): the work begins at offset 0. -/
def execRamTest (s : State) : Host.Outcome State Fault Refusal :=
  .next (s.served fun s => s.plain 0x61 s.ramTestChecks fun s => { s with csq := { s.csq with stage := .ramTesting 0 } })

/-- R166 steps 2 to 5: the patterns, in the order in which they are written and read back. -/
def ramPatterns : List Byte :=
  [0x00, 0x01, 0x02, 0x04, 0x08, 0x10, 0x20, 0x40, 0x80, 0xFF, 0xFE, 0xFD, 0xFB, 0xF7, 0xEF, 0xDF, 0xBF, 0x7F]

/-- R166, R167: each pattern is written and read back with these bits changed, until one does not read back as written. -/
def patternsReadBack : List Byte → List Byte → Bool
  | [], _ => true
  | pattern :: rest, differs => pattern ^^^ differs.headD 0 == pattern && patternsReadBack rest differs.tail

/-- R166, R167: every pattern read back, and the saved contents stand in the byte again. -/
def State.bytePasses (s : State) (offset : Nat) : State :=
  if offset + 1 = Config.ramBytes then s.finish .ok
  else if s.hpu.breakPending then s.abort
  else { s with csq := { s.csq with stage := .ramTesting (offset + 1) } }

/-- R167: a pattern did not read back; after the write-back the byte holds its saved contents, or differs from them. -/
def State.byteFails (s : State) (offset : Nat) (left : Byte) : State :=
  ({ s with ram := s.ram.writeBlock offset [s.ram.read offset ^^^ left] } : State).finish
    (refusalDetail .ramFault offset)

/-- R166, R167: the test of the next byte. -/
def State.testByte (s : State) (offset : Nat) (answer : ByteTest) : State :=
  if patternsReadBack ramPatterns answer.differs then s.bytePasses offset else s.byteFails offset answer.left

/-- RAM_BYTE_TEST (R166, R167): acts while a RAM TEST is at work. -/
def execRamByteTest (answer : ByteTest) (s : State) : Host.Outcome State Fault Refusal :=
  match s.csq.stage with
  | .ramTesting offset =>
    if s.running && decide (Config.ramBytes ≤ offset) then .fault (.noSuchOffset offset)
    else .next (s.served (State.testByte · offset answer))
  | _ => .next s

end Sys2Proof.Machine
end

