-- ==== Sys2Proof/Machine/SenseCommands.lean ====
section
/-! DEFINITION. The commands that report (codes 0x11 to 0x14): TEST READY (R150), REQUEST SENSE (R41), READ ENGINE STATE
(R151) and SENSOR READ (R138). -/

namespace Sys2Proof.Machine

/-- HEAD CRITICAL carries the last temperature sample (Table 2-7). -/
def State.criticalRefusal (s : State) : Ending := .error .headCritical none (.detail s.tempDetail)

/-- R150: the primary cause of a halt as TEST READY answers it. -/
def State.primaryRefusal (s : State) : Ending :=
  match s.eng.primary with
  | some .headCritical => s.criticalRefusal
  | some .registrationLost => .error .registrationLost none (.position s.eng.haltPos)
  | some .mediaOut => refusal .mediaOut
  | some .headOpen | none => refusal .headOpen

/-- R150: the first matching row; the row for FAULTED is the fault gate's. -/
def State.readiness (s : State) : Ending :=
  (firstOf
    [(s.eng.cond == .halted, s.primaryRefusal),
     (s.eng.headOpen, refusal .headOpen),
     (s.fmu.motion.isSome, refusal .stillMoving),
     (s.msu.absent, refusal .mediaOut),
     (s.hdu.thermal.crit, s.criticalRefusal),
     (s.msu.reg.state == .unknown, .notice 4)]).getD .ok

/-- A number of bytes as two bytes, low byte first. -/
def wordBytes (n : Nat) : List Byte := lowHigh (BitVec.ofNat 16 n)

/-- R151, byte 3. -/
def State.stateFlags (s : State) : Byte :=
  byteOfBits [s.lbq.openSlot.isSome, s.fmu.present == .presented, s.fmu.motion.isSome, s.lbq.gate, s.eng.headOpen,
    s.msu.absent, s.hdu.thermal.hold]

/-- R151: the sixteen bytes. -/
def State.engineState (s : State) : List Byte :=
  [BitVec.ofNat 8 s.eng.cond.code,
   if s.eng.cond = .halted then s.eng.causes.setWidth 8 else 0,
   BitVec.ofNat 8 s.msu.reg.state.code, s.stateFlags,
   BitVec.ofNat 8 s.lbq.queue.length, BitVec.ofInt 8 s.hdu.temp]
    ++ wordBytes (8 * s.lbq.poolFree) ++ wordBytes (8 * totalFree s.gst.free) ++ wordBytes (8 * longestFree s.gst.free)
    ++ fourBytes s.fmu.pos

/-- R138: the four bytes. -/
def State.sensorBytes (s : State) : List Byte :=
  [s.msu.raw, BitVec.ofNat 8 s.msu.cls.code, BitVec.ofNat 8 (bit s.eng.headOpen), BitVec.ofInt 8 s.hdu.temp]

/-- TEST_READY (R150). -/
def execTestReady (s : State) : Host.Outcome State Fault Refusal :=
  .next (s.served fun s => s.plain 0x11 [] fun s => s.finish s.readiness)

/-- REQUEST_SENSE (R41). -/
def execRequestSense (s : State) : Host.Outcome State Fault Refusal :=
  .next (s.served fun s => s.plain 0x12 [] fun s => s.enterDataIn s.csq.sense.bytes)

/-- READ_ENGINE_STATE (R151). -/
def execReadEngineState (s : State) : Host.Outcome State Fault Refusal :=
  .next (s.served fun s => s.plain 0x13 [] fun s => s.enterDataIn s.engineState)

/-- SENSOR_READ (R138). -/
def execSensorRead (s : State) : Host.Outcome State Fault Refusal :=
  .next (s.served fun s => s.plain 0x14 [] fun s => s.enterDataIn s.sensorBytes)

end Sys2Proof.Machine
end

