-- ==== Sys2Proof/Machine/Dispatch.lean ====
section
/-! DEFINITION. The meaning of each row of spec/opcode_table.json: one direct call of its own definition per constructor. -/

namespace Sys2Proof.Machine

def exec (i : Instr) (s : State) : Host.Outcome State Fault Refusal :=
  match i with
  | .select => Sys2Proof.Machine.execSelect s
  | .breakRequest => Sys2Proof.Machine.execBreak s
  | .notifyMaskWrite value => Sys2Proof.Machine.execNotifyMaskWrite value s
  | .portReset value inputs => Sys2Proof.Machine.execPortReset value inputs s
  | .pinReset found => Sys2Proof.Machine.execPinReset found s
  | .powerOnReset found => Sys2Proof.Machine.execPowerOnReset found s
  | .commandByte value => Sys2Proof.Machine.execCommandByte value s
  | .payloadByte value => Sys2Proof.Machine.execPayloadByte value s
  | .resultByteRead => Sys2Proof.Machine.execResultByteRead s
  | .completionByteRead => Sys2Proof.Machine.execCompletionByteRead s
  | .dackCycle access => Sys2Proof.Machine.execDackCycle access s
  | .byteTimeout => Sys2Proof.Machine.execByteTimeout s
  | .eventPortRead => Sys2Proof.Machine.execEventPortRead s
  | .testReady => Sys2Proof.Machine.execTestReady s
  | .requestSense => Sys2Proof.Machine.execRequestSense s
  | .readEngineState => Sys2Proof.Machine.execReadEngineState s
  | .sensorRead => Sys2Proof.Machine.execSensorRead s
  | .setMediaParameters => Sys2Proof.Machine.execSetMediaParameters s
  | .readMediaParameters => Sys2Proof.Machine.execReadMediaParameters s
  | .setMechanismParameters strap decay => Sys2Proof.Machine.execSetMechanismParameters strap decay s
  | .storeProfile strap decay => Sys2Proof.Machine.execStoreProfile strap decay s
  | .loadProfile decay => Sys2Proof.Machine.execLoadProfile decay s
  | .verifyProfiles decay => Sys2Proof.Machine.execVerifyProfiles decay s
  | .recordCopyWrite differs => Sys2Proof.Machine.execRecordCopyWrite differs s
  | .defineGlyph => Sys2Proof.Machine.execDefineGlyph s
  | .deleteGlyph => Sys2Proof.Machine.execDeleteGlyph s
  | .compactGlyphs => Sys2Proof.Machine.execCompactGlyphs s
  | .glyphMove => Sys2Proof.Machine.execGlyphMove s
  | .readGlyphEntry => Sys2Proof.Machine.execReadGlyphEntry s
  | .openLabel => Sys2Proof.Machine.execOpenLabel s
  | .placeGlyph => Sys2Proof.Machine.execPlaceGlyph s
  | .placeText => Sys2Proof.Machine.execPlaceText s
  | .placeRule => Sys2Proof.Machine.execPlaceRule s
  | .placeImage => Sys2Proof.Machine.execPlaceImage s
  | .closeLabel => Sys2Proof.Machine.execCloseLabel s
  | .discardLabel => Sys2Proof.Machine.execDiscardLabel s
  | .cancelLabels => Sys2Proof.Machine.execCancelLabels s
  | .setRunGate => Sys2Proof.Machine.execSetRunGate s
  | .feed => Sys2Proof.Machine.execFeed s
  | .advanceToEdge => Sys2Proof.Machine.execAdvanceToEdge s
  | .calibrateMedia => Sys2Proof.Machine.execCalibrateMedia s
  | .present => Sys2Proof.Machine.execPresent s
  | .retract => Sys2Proof.Machine.execRetract s
  | .resume => Sys2Proof.Machine.execResume s
  | .ramTest => Sys2Proof.Machine.execRamTest s
  | .ramByteTest answer => Sys2Proof.Machine.execRamByteTest answer s
  | .motionWaitTimeout => Sys2Proof.Machine.execMotionWaitTimeout s
  | .bandRender => Sys2Proof.Machine.execBandRender s
  | .lineStep level elapsed => Sys2Proof.Machine.execLineStep level elapsed s
  | .backwardStep elapsed => Sys2Proof.Machine.execBackwardStep elapsed s
  | .runStart => Sys2Proof.Machine.execRunStart s
  | .temperatureSample degrees => Sys2Proof.Machine.execTemperatureSample degrees s
  | .headStateChange => Sys2Proof.Machine.execHeadStateChange s
  | .idleSample level => Sys2Proof.Machine.execIdleSample level s
  | .autoRecover => Sys2Proof.Machine.execAutoRecover s
  | .motorRelease => Sys2Proof.Machine.execMotorRelease s
  | .refusedDataPortAccess access => Sys2Proof.Machine.execRefusedDataPortAccess access s
  | .resetInputHeld => Sys2Proof.Machine.execResetInputHeld s

end Sys2Proof.Machine
end

