-- ==== Sys2Proof/Machine/Step.lean ====
section
/-! DEFINITION. One step: the row at the front of the queue is carried out on the machine with the queue's rest. An empty
queue leaves the block idle (log 1). -/

namespace Sys2Proof.Machine

/-- The machine with this row first in its queue. -/
def State.enqueueFront (s : State) (i : Instr) : State := { s with pending := i :: s.pending }

/-- The machine with this queue. -/
def State.withPending (s : State) (l : List Instr) : State := { s with pending := l }

/-- R31: the next row in the single order. -/
def step (s : State) : Host.Outcome State Fault Refusal :=
  match s.pending with
  | [] => .next s
  | i :: rest => exec i (s.withPending rest)

/-- The machine with the row that a word spells put first in its queue; unchanged where the word spells none, which is
every word (log 6). -/
def State.withFetchWord (s : State) (nbits w : Nat) : State :=
  match decodeTableWord nbits w with
  | some i => s.enqueueFront i
  | none => s

end Sys2Proof.Machine
end

