-- ==== Sys2Proof/Safety.lean ====
section
/-! DEFINITION. The terms in which claims speak: when a row may do its own work, how a command leaves the port, what a
step leaves alone, and the invariants that every step keeps. -/

namespace Sys2Proof.Machine

/-! ### When a row may do its work -/

/-- R20: the port is in service, so rows are acted on. -/
abbrev State.InService (s : State) : Prop := s.hpu.service = .inService

/-- The block of this command has been handed over in its first EXECUTE and its act is due (R7, R23). -/
abbrev State.Ready (s : State) (code : Byte) : Prop :=
  s.InService ∧ s.hpu.phase = .execute ∧ s.csq.stage = .validate ∧ s.csq.block.head? = some code

/-- The payload of this command is complete and its second act is due (R9, R28). -/
abbrev State.ReadyAgain (s : State) (code : Byte) : Prop :=
  s.InService ∧ s.hpu.phase = .execute ∧ s.csq.stage = .finish ∧ s.csq.block.head? = some code

/-- R24, R13: the fault gate lets every command pass and no Break is pending. -/
abbrev State.Clear (s : State) : Prop := s.eng.cond ≠ .faulted ∧ s.hpu.breakPending = false

/-- R28 step 1: the trailer received is the CRC-16 of the bytes before it. -/
abbrev State.CrcGood (s : State) : Prop := crc16 s.csq.body = s.csq.trailer

/-- Table 7-5: no precondition of a motion command fails. -/
abbrev State.MayMove (s : State) : Prop :=
  (s.eng.cond = .idle ∨ s.eng.cond = .paused) ∧ s.eng.headOpen = false ∧ s.fmu.motion = none

/-- R155: none of the three ENGINE BUSY preconditions fails. -/
abbrev State.AtLeisure (s : State) : Prop :=
  s.eng.cond = .idle ∧ s.fmu.motion = none ∧ s.lbq.queue = [] ∧ s.lbq.openSlot = none

/-! ### How a command leaves EXECUTE -/

/-- R10, R11, R18, R37, R39: entry into COMPLETION. The sequence counter has moved on, the completion byte shows the
engine as it stands now, CIRQ has followed its enable, the byte timeout is stopped, no Break is pending, and the sense
record is this one. -/
def State.EntersCompletion (s t : State) (e : Ending) (sense : Sense) : Prop :=
  t.hpu = { s.hpu with
    phase := .completion
    seq := s.hpu.seq + 1
    completion := completionByte e (s.hpu.seq + 1) t.fmu.motion.isSome (!t.eng.events.isEmpty)
      (t.eng.cond == .halted)
    cirq := s.hpu.cirq || s.hpu.completionEnable
    result := [], byteTimer := none, breakPending := false } ∧
  t.csq = ⟨[], [], .idle, sense, none, 0⟩

/-- The command in hand has ended so, and the sense record describes it (R39). -/
def State.EndsWith (s t : State) (e : Ending) : Prop := s.EntersCompletion t e (e.sense (byteAt s.csq.block 0))

/-- R8: DATA IN has been entered with these bytes, the first of them in the latch. -/
def State.HandsOver (s t : State) (bytes : List Byte) : Prop :=
  t.hpu = { s.hpu with
    phase := .dataIn, counter := 0, length := bytes.length, latch := bytes.headD 0, result := bytes.tail
    byteTimer := some 1000, drq := s.hpu.mask.getLsbD 0 } ∧
  t.csq = { s.csq with stage := .idle }

/-- R8: DATA OUT has been entered with this length, for a payload still to come. -/
def State.AsksFor (s t : State) (length : Nat) : Prop :=
  t.hpu = { s.hpu with
    phase := .dataOut, counter := 0, length := length, byteTimer := some 1000, drq := s.hpu.mask.getLsbD 0 } ∧
  t.csq = { s.csq with payload := [] }

/-! ### What a step leaves alone -/

/-- Nothing outside the port and the sequencer has changed: no register of the engine, no event, no byte of memory. -/
def State.SameEngine (s t : State) : Prop :=
  t.gst = s.gst ∧ t.lbq = s.lbq ∧ t.ring = s.ring ∧ t.hdu = s.hdu ∧ t.fmu = s.fmu ∧ t.msu = s.msu ∧ t.eng = s.eng ∧
  t.nvs = s.nvs ∧ t.ram = s.ram ∧ t.strap = s.strap ∧ t.pending = s.pending

/-- Of the supervisor only the condition has changed, if anything, and only among IDLE, RUNNING and PAUSED (R141, R142). -/
def Eng.OnlyCond (a b : Eng) : Prop :=
  b = { a with cond := b.cond } ∧
  (b.cond = a.cond ∨
    a.cond ∈ [Condition.idle, .running, .paused] ∧ b.cond ∈ [Condition.idle, .running, .paused])

/-- R125, R126: of the motor and the sensor nothing has changed but this. A released motor that has a step to take is
energised and settles first, as any free move has; and the idle-sample timer runs while the motor is at rest. -/
def State.MotorRests (u t : State) : Prop :=
  ((t.fmu = u.fmu ∧ (u.fmu.mode = .freeMove → u.fmu.energised = true)) ∨
    (u.fmu.energised = false ∧ t.fmu = { u.fmu with energised := true, settling := true, idleTimer := some 2000 })) ∧
  t.msu = { u.msu with idleTimer := if u.fmu.speed = 0 then some (u.msu.idleTimer.getD 50) else none }

/-- R142: where no run is on and none may start, a PAUSED engine whose print queue is empty is IDLE, and otherwise the
condition has not changed. -/
def State.CondRests (u t : State) : Prop :=
  t.eng.cond = if u.eng.cond = .paused ∧ u.lbq.queue = [] then .idle else u.eng.cond

/-- What may follow from a change of state in its own step: a claim (R86), the run's rest or start (R116, R141, R142), an
automatic present (R124), the energising of the motor (R125) and the idle-sample timer (R126). The ring differs by the
claim alone. Beyond it, the motor, registration and the engine condition, nothing has changed, and P has not; where no
run is on and none may start, the motor, the sensor and the condition are as `MotorRests` and `CondRests` say. -/
def State.OnlyFollows (u t : State) : Prop :=
  t.gst = u.gst ∧ t.lbq = u.lbq ∧ t.hdu = u.hdu ∧ t.nvs = u.nvs ∧ t.ram = u.ram ∧ t.strap = u.strap ∧
  t.pending = u.pending ∧ t.fmu.pos = u.fmu.pos ∧ u.eng.OnlyCond t.eng ∧ t.ring = u.claim.ring ∧
  (u.inRun = false → u.mayRun = false → u.MotorRests t ∧ u.CondRests t)

/-- The command in hand has ended so, with nothing changed, and then followed what may follow in the same step. -/
def State.EndsAndFollows (s t : State) (e : Ending) : Prop :=
  ∃ u, s.EndsWith u e ∧ s.SameEngine u ∧ t.hpu = u.hpu ∧ t.csq = u.csq ∧ u.OnlyFollows t

/-- What may follow where no run is on and none may start: a claim, and what `MotorRests` and `CondRests` say of the motor,
the sensor and the condition. -/
def State.OnlyRests (u t : State) : Prop := u.OnlyFollows t ∧ u.MotorRests t ∧ u.CondRests t

/-! ### Stops, halts and the ends of motion -/

/-- R112, R120: the motor has come to STOPPED where it stands. -/
def Fmu.atRest (f : Fmu) : Fmu :=
  { f with
    mode := .stopped, speed := 0, target := none, stop := none, why := none, move := .none, rest := .none
    settling := false }

/-- R123, R131: a present or retract is cut short. -/
abbrev State.presentCut (s : State) : Prop := s.fmu.present = .presenting ∨ s.fmu.present = .retracting

/-- R120, R121, R123: the movement in hand is cut short and the motor is at rest: the search or calibration is over, and a
present or retract leaves AT PRINT LINE with registration UNKNOWN. -/
def State.movementCut (s : State) : State :=
  { s with
    fmu := { s.fmu.atRest with present := if s.presentCut then .atPrintLine else s.fmu.present }
    msu := { s.msu with
      find := none, calib := none, reg := if s.presentCut then ⟨.unknown, none, false, 0⟩ else s.msu.reg } }

/-- R121: a free move ended by the head or by media out: STOPPED, AT PRINT LINE, registration UNKNOWN. -/
def State.freeMoveFailed (s : State) : State :=
  { s with
    fmu := { s.fmu.atRest with present := .atPrintLine }
    msu := { s.msu with find := none, calib := none, reg := ⟨.unknown, none, false, 0⟩ } }

/-- R33 to R35: the free motion, if one is in progress, is over: an attached command ends so, a detached one is reported
by MOVE DONE or MOVE FAILED, and the engine's own is not. A REQUEST SENSE is never such a command. -/
def State.MotionOver (u v : State) (e : Ending) : Prop :=
  let still : State := { u with fmu := { u.fmu with motion := none } }
  match u.fmu.motion with
  | none | some ⟨_, .engine⟩ => v = still
  | some ⟨code, .detached⟩ => v = still.post (match e with
    | .error c _ _ => ⟨.moveFailed, code, 0xFFFF, c.byte.setWidth 16⟩
    | .ok | .notice _ => ⟨.moveDone, code, 0xFFFF, 0⟩)
  | some ⟨_, .attached⟩ => u.csq.block.head? ≠ some 0x12 → still.EndsWith v e ∧ still.SameEngine v

/-- The same, and then what may follow in the same step. -/
def State.MotionEnds (u t : State) (e : Ending) : Prop :=
  ∃ v, u.MotionOver v e ∧ t.hpu = v.hpu ∧ t.csq = v.csq ∧ v.OnlyFollows t

/-- R145: the engine as a halt for these causes leaves it, but for a free motion in progress (R148). The stop is dead when
HEAD OPEN is among the causes, and otherwise a fault stop, which takes no step at S or below; the printing copy is the
interrupted copy and LABEL SPOILED is posted for it; the ring is flushed (R95) and the cursor is at the start of the
remaining print order (R97); registration is UNKNOWN; and HALTED is posted. -/
def State.asHalted (s : State) (causes : BitVec 4) (primary : Cause) : State :=
  let still := causes.getLsbD 0 = true ∨ s.fmu.backward = true ∨ s.fmu.speed ≤ s.nvs.mech.startSpeed ∨
    s.fmu.mode = .stopped
  let stop : Fmu :=
    if still then s.fmu.atRest
    else if s.fmu.stop = some .fault ∨ s.fmu.stop = some .dead then { s.fmu with why := some .halt }
    else { s.fmu with mode := .stopping, stop := some .fault, why := some .halt }
  let number : Half := s.lbq.printing.elim 0xFFFF fun p => (s.lbq.label p.slot).elim 0xFFFF (·.number)
  let u : State := { s with
    lbq := { s.lbq with printing := none }
    ring := ⟨List.replicate 16 .blank, s.ring.tail, s.ring.tail,
      s.lbq.queue.head?.bind fun i => (s.lbq.label i).map fun l => ⟨i, l.done + 1, 0⟩⟩
    fmu := { stop with underrun := none, present := if s.presentCut then .atPrintLine else s.fmu.present }
    msu := { s.msu with find := none, calib := none, reg := ⟨.unknown, none, false, 0⟩ }
    eng := { s.eng with
      cond := .halted, causes := causes, primary := some primary, haltPos := s.fmu.pos
      interrupted := s.lbq.printing.map fun p => ⟨p.slot, p.copy⟩, settle := none } }
  let v := match s.lbq.printing with
    | none => u
    | some p => u.post ⟨.labelSpoiled, BitVec.ofNat 8 p.copy, number, BitVec.ofNat 16 p.passed⟩
  v.post ⟨.halted, causes.setWidth 8, number, primary.sense.byte.setWidth 16⟩

/-! ### Invariants -/

/-- R5 to R10, R23, R30: a command is at work only in EXECUTE, or waits in DATA OUT for its payload; no block is in hand
before the twelfth byte or after the command's end; and the byte timeout runs only while bytes cross the port. -/
def State.PortWf (s : State) : Prop :=
  (s.csq.stage ≠ .idle → s.hpu.phase = .execute ∨ (s.hpu.phase = .dataOut ∧ s.csq.stage = .validate)) ∧
  (s.hpu.phase ∈ [Phase.free, .command, .completion] → s.csq.block = []) ∧
  (s.hpu.byteTimer ≠ none → s.hpu.phase ∈ [Phase.command, .dataOut, .dataIn])

/-- R152, R153: at most 16 records; the overflow count stops at 65,535; the read cursor is 0 to 5. -/
def Eng.QueueWf (e : Eng) : Prop := e.events.length ≤ 16 ∧ e.overflow ≤ 65535 ∧ e.cursor ≤ 5

/-- Section 3.1: the granules of a glyph's extent. -/
abbrev Glyph.granules (e : Glyph) : Nat := (e.size + 7) / 8

/-- R44: the free list holds its extents in order, none of length 0 and no two adjacent. -/
def FreeListWf (l : List Extent) : Prop :=
  (∀ e ∈ l, 0 < e.length) ∧ l.Pairwise fun a b => a.first + a.length < b.first

/-- R43, R44: the extents of glyphs and the free extents lie apart, within the 2,048 granules. -/
def Gst.ExtentsApart (g : Gst) : Prop :=
  (∀ id < 64, (g.entry id).state ≠ .empty →
    (g.entry id).base + (g.entry id).granules ≤ 2048 ∧
    (∀ e ∈ g.free, e.first + e.length ≤ (g.entry id).base ∨ (g.entry id).base + (g.entry id).granules ≤ e.first) ∧
    ∀ other < 64, other ≠ id → (g.entry other).state ≠ .empty →
      (g.entry other).base + (g.entry other).granules ≤ (g.entry id).base ∨
      (g.entry id).base + (g.entry id).granules ≤ (g.entry other).base) ∧
  ∀ e ∈ g.free, e.first + e.length ≤ 2048

/-- R54: a move in hand leads down, through free granules only. -/
def Gst.MoveWf (g : Gst) : Prop :=
  match g.cursor, g.moving with
  | none, none => True
  | some cursor, some id =>
    id < 64 ∧ (g.entry id).state ≠ .empty ∧ cursor < (g.entry id).base ∧
      ∀ granule, cursor ≤ granule → granule < (g.entry id).base →
        ∃ e ∈ g.free, e.first ≤ granule ∧ granule < e.first + e.length
  | _, _ => False

/-- R44, R46: the free list is merged and in order, extents lie apart, no glyph is without a byte, and a move in hand leads
into free granules. -/
def Gst.Wf (g : Gst) : Prop :=
  g.entries.length = 64 ∧ FreeListWf g.free ∧ g.ExtentsApart ∧
  (∀ id < 64, (g.entry id).state ≠ .empty → 0 < (g.entry id).size) ∧ g.MoveWf

/-- R28, R30, R31, R36: a move is in hand only while COMPACT GLYPHS is at work, a DEFINE GLYPH has its payload counted and
has more than a trailer to come, the wait timer runs only for a command that waits, and an attached motion, and a stop that a
Break has ordered, are those of a command at work on its motion. -/
def State.WorkWf (s : State) : Prop :=
  (s.gst.moving ≠ none → s.csq.stage = .compacting) ∧
  (s.csq.block.head? = some 0x31 →
    (s.csq.stage = .finish → 2 < s.csq.payload.length) ∧
    (s.hpu.phase = .dataOut → s.csq.payload.length = s.hpu.counter ∧ 2 < s.hpu.length)) ∧
  (s.csq.waitTimer ≠ none → s.csq.stage = .waiting) ∧
  (∀ code, s.fmu.motion = some ⟨code, .attached⟩ → s.csq.stage = .moving) ∧
  (s.fmu.why = some .breakRequest → s.csq.stage = .moving)

/-- The glyph store is in order, and so is the work that the port and the sequencer have in hand on it. -/
def State.GlyphsWf (s : State) : Prop := s.gst.Wf ∧ s.WorkWf ∧ s.PortWf

/-- R63: every granule of the placement pool is free or used by exactly one label. -/
def Lbq.usedGranules (q : Lbq) : Nat := (q.slots.map fun l => l.elim 0 (·.granules)).sum

def Lbq.PoolBalanced (q : Lbq) : Prop := q.poolFree + q.usedGranules = 1024

/-- R154: every field of the profile is in its range and its inner constraints hold. -/
def Profile.WellFormed (p : Profile) : Prop :=
  (1 ≤ p.marker ∧ p.marker ≤ 254) ∧ (2 ≤ p.empty ∧ p.empty ≤ 255) ∧ (16 ≤ p.pitch ∧ p.pitch ≤ 4096) ∧
  (2 ≤ p.gap ∧ p.gap ≤ 512) ∧ (50 ≤ p.speed ∧ p.speed ≤ 1600) ∧ (1 ≤ p.accel ∧ p.accel ≤ 64) ∧ p.darkness ≤ 30 ∧
  (40 ≤ p.hot ∧ p.hot ≤ 70) ∧ (2 ≤ p.tolerance ∧ p.tolerance ≤ 64) ∧ (-64 ≤ p.adjust ∧ p.adjust ≤ 63) ∧
  p.marker < p.empty ∧ p.gap < p.pitch ∧ p.tolerance ≤ p.gap / 2

/-- R154: every field of the mechanism record is in its range. -/
def Mechanism.WellFormed (m : Mechanism) : Prop :=
  (16 ≤ m.sensorOffset ∧ m.sensorOffset ≤ 255) ∧ m.tearOffset ≤ 255 ∧ (100 ≤ m.startSpeed ∧ m.startSpeed ≤ 400) ∧
  (8 ≤ m.faultDecel ∧ m.faultDecel ≤ 255) ∧ (208 ≤ m.powerLimit ∧ m.powerLimit ≤ 832) ∧
  (60 ≤ m.critical ∧ m.critical ≤ 90) ∧ (16 ≤ m.outLength ∧ m.outLength ≤ 255) ∧ m.powerSlot ≤ 3

/-- R154: the two outer constraints. -/
def Agrees (p : Profile) (m : Mechanism) : Prop := p.tolerance ≤ m.sensorOffset / 2 ∧ p.hot + 5 ≤ m.critical

/-- A calibration in hand is a free move that goes on or is being stopped by a Break (R121, R136), outside any run, halt
or recovery; and what it will put into the profile is in range (R136, R137): from MEASURE on a threshold below the
empty threshold, and in FINISH a pitch and gap with room for the least tolerance. -/
def State.CalibrationSound (s : State) : Prop :=
  ∀ c, s.msu.calib = some c →
    s.fmu.motion.isSome = true ∧ s.fmu.move = .calibrate ∧
    (s.fmu.mode = .freeMove ∨ (s.fmu.mode = .stopping ∧ s.fmu.why = some .breakRequest)) ∧
    s.eng.cond.live = false ∧ s.eng.cond ≠ .halted ∧
    (c.phase ≠ .survey → 1 ≤ c.threshold ∧ c.threshold < s.nvs.profile.empty) ∧
    (c.phase = .finishing → (16 ≤ c.pitch ∧ c.pitch ≤ 4096) ∧ (4 ≤ c.gap ∧ c.gap ≤ 512) ∧ c.gap < c.pitch)

/-- R154: the records in force are well formed and agree, and a calibration in hand will leave them so. -/
def State.RecordsWf (s : State) : Prop :=
  s.nvs.profile.WellFormed ∧ s.nvs.mech.WellFormed ∧ Agrees s.nvs.profile s.nvs.mech ∧ s.CalibrationSound

end Sys2Proof.Machine
end

