-- ==== Sys2Proof/Certificates/Slice0/Obligations.lean ====
section
/-! DEFINITION. What is stated of the machine, rule by rule: the port, the sequencer, the stores, the label queue, the
raster ring, the head, the motor, the sensor, the supervisor and the resets. -/

open Sys2Proof Sys2Proof.Machine

/-! ### The queue of rows -/

/-- R31: a step carries out the row at the front of the queue, on the machine with the queue's rest; with no row waiting
the block idles (the model's choice, log 1). -/
def Obligations.StepRunsTheFrontRow : Prop :=
  (∀ (s : State) (i : Instr) (rest : List Instr), s.pending = i :: rest → step s = exec i (s.withPending rest)) ∧
  (∀ (s : State) (i : Instr), step (s.enqueueFront i) = exec i s) ∧
  (∀ s : State, s.pending = [] → step s = .next s)

/-! ### The host port -/

/-- R6, whole. In FREE a Select opens COMMAND; in any other phase it changes nothing but the misuse latch with its
event; out of service it changes nothing. -/
def Obligations.SelectOpensTheCommandPhase : Prop :=
  (∀ s : State, s.InService → s.hpu.phase = .free →
    ∃ t, exec .select s = .next t ∧
      t = { s with hpu := { s.hpu with
        phase := .command, counter := 0, cmd := [], misuse := false, byteTimer := some 1000 } } ∧
      t.hpu.busy = true ∧ t.hpu.req = true ∧ t.hpu.ctl = true ∧ t.hpu.dir = false) ∧
  (∀ s : State, s.InService → s.hpu.phase ≠ .free → s.hpu.misuse = true → exec .select s = .next s) ∧
  (∀ s : State, s.InService → s.hpu.phase ≠ .free → s.hpu.misuse = false →
    exec .select s = .next (({ s with hpu := { s.hpu with misuse := true } } : State).post
      ⟨.portMisuse, 1, 0xFFFF, BitVec.ofNat 16 s.hpu.phase.code⟩)) ∧
  (∀ s : State, ¬ s.InService → exec .select s = .next s)

/-- R4, with R18 for the output: what a write of the Notify Mask sets and clears, and the interrupt request afterwards.
-/
def Obligations.NotifyMaskWriteSetsTheEnables : Prop :=
  ∀ (s : State) (value : Byte),
    (s.InService → ∃ t, exec (.notifyMaskWrite value) s = .next t ∧
      t = { s with hpu := { s.hpu with
        mask := value.setWidth 3, drq := s.hpu.drq && value.getLsbD 0, cirq := s.hpu.cirq && value.getLsbD 1 } } ∧
      irq t = ((s.hpu.cirq && value.getLsbD 1) || (!s.eng.events.isEmpty && value.getLsbD 2))) ∧
    (¬ s.InService → exec (.notifyMaskWrite value) s = .next s)

/-- R7, R23 to R25: a command byte short of the twelfth is stored and counted; the twelfth hands the block over, and
steps 1 to 4 of validation decide in their order whether the command ends at once. The model's own choices stand here
too: that the data latch takes command bytes (log 36), that the rows of the Data Port serve an access alike, as the
phase allows (log 14), and that steps 1 to 4 are made as the twelfth byte arrives, a block that passes them staying in
EXECUTE with its act, a later row, due (log 7). -/
def Obligations.CommandBytesAreValidatedInOrder : Prop :=
  (∀ (s : State) (b : Byte), s.InService → s.hpu.phase = .command → s.hpu.counter < 11 →
    ∀ row ∈ [Instr.commandByte b, .payloadByte b, .refusedDataPortAccess (.write b)],
      exec row s = .next { s with hpu := { s.hpu with
        cmd := s.hpu.cmd ++ [b], counter := s.hpu.counter + 1, latch := b, byteTimer := some 1000 } }) ∧
  (∀ (s : State) (b : Byte), s.InService → s.hpu.phase = .command → s.hpu.counter = 11 →
    ∃ t, exec (.commandByte b) s = .next t ∧ s.SameEngine t ∧
      let block := s.hpu.cmd ++ [b]
      let taken : State := { s with
        hpu := { s.hpu with phase := .execute, cmd := [], counter := 12, latch := b, byteTimer := none }
        csq := { s.csq with block := block, payload := [], stage := .validate } }
      let code := byteAt block 0
      if checkSum block ≠ 0 then
        taken.EndsWith t (.error .checkByteError none (.detail (BitVec.ofNat 32 (checkSum block).toNat)))
      else if code ∉ commandCodes then taken.EndsWith t (.error .invalidCommand none .nothing)
      else if detachBit block = true ∧ code ∉ motionCodes then
        taken.EndsWith t (.error .invalidParameter none (.detail 1))
      else if s.eng.cond = .faulted ∧ code ∉ faultGateCodes then
        taken.EndsWith t (.error .engineFault none .nothing)
      else match firstOf (s.ranges block) with
        | some e => taken.EndsWith t e
        | none => t = taken)

/-- R9, R5, R16, R17: a payload byte, by a Data Port write or a DACK write cycle, is passed on, latched and counted, and
DRQ sets again when another is wanted and DMA is enabled; after the last the HPU is in EXECUTE again. That the rows of
the Data Port serve an access alike is the model's choice (log 14). -/
def Obligations.PayloadBytesAreTaken : Prop :=
  ∀ (s : State) (b : Byte), s.InService → s.hpu.phase = .dataOut →
    ∀ row ∈ [Instr.payloadByte b, .commandByte b, .refusedDataPortAccess (.write b), .dackCycle (.write b)],
      exec row s = .next
        (if s.hpu.counter + 1 = s.hpu.length then
          { s with
            hpu := { s.hpu with
              phase := .execute, counter := s.hpu.counter + 1, latch := b, drq := false, byteTimer := none }
            csq := { s.csq with payload := s.csq.payload ++ [b], stage := .finish } }
        else
          { s with
            hpu := { s.hpu with
              counter := s.hpu.counter + 1, latch := b, drq := s.hpu.mask.getLsbD 0, byteTimer := some 1000 }
            csq := { s.csq with payload := s.csq.payload ++ [b] } })

/-- R9, R37, R41: a result byte, by a Data Port read or a DACK read cycle, is returned and the next one latched; after
the last the command completes with success, and a REQUEST SENSE leaves the sense record. That the rows of the Data Port
serve an access alike is the model's choice (log 14). -/
def Obligations.ResultBytesAreGiven : Prop :=
  ∀ s : State, s.InService → s.hpu.phase = .dataIn →
    ∀ row ∈ [Instr.resultByteRead, .completionByteRead, .refusedDataPortAccess .read, .dackCycle .read],
      ∃ t, exec row s = .next t ∧ s.SameEngine t ∧
        if s.hpu.counter + 1 = s.hpu.length then
          ({ s with hpu := { s.hpu with
              bus := s.hpu.latch, counter := s.hpu.counter + 1, drq := false } } : State).EntersCompletion t .ok
            (if s.csq.block.head? = some 0x12 then s.csq.sense else ⟨.noSense, byteAt s.csq.block 0, none, .nothing⟩)
        else
          t = { s with hpu := { s.hpu with
            bus := s.hpu.latch, counter := s.hpu.counter + 1, latch := s.hpu.result.headD 0
            result := s.hpu.result.tail, drq := s.hpu.mask.getLsbD 0, byteTimer := some 1000 } }

/-- R10: a read of the Data Port in COMPLETION returns the completion byte and ends the command. That the rows of the
Data Port serve an access alike is the model's choice (log 14). -/
def Obligations.CompletionByteReadFreesThePort : Prop :=
  ∀ s : State, s.InService → s.hpu.phase = .completion →
    ∀ row ∈ [Instr.completionByteRead, .resultByteRead, .refusedDataPortAccess .read],
      ∃ t, exec row s = .next t ∧
        t = { s with hpu := { s.hpu with
          bus := s.hpu.completion, cirq := false, misuse := false, phase := .free } } ∧
        t.hpu.busy = false ∧ t.hpu.req = false ∧ t.hpu.ctl = false ∧ t.hpu.dir = false

/-- R15, R17: a Data Port access or DACK cycle that the phase does not allow is discarded, or returns 0xFF; the first
one with the misuse latch clear sets it and posts PORT MISUSE with the kind and the phase. That the rows of the Data
Port serve an access alike is the model's choice (log 14). -/
def Obligations.RefusedAccessIsAMisuse : Prop :=
  (∀ (s : State) (b : Byte), s.InService →
    (∀ row ∈ [Instr.refusedDataPortAccess (.write b), .commandByte b, .payloadByte b],
      s.hpu.phase ∉ [Phase.command, .dataOut] → exec row s = .next (s.refuseAccess 2)) ∧
    (s.hpu.phase ≠ .dataOut → exec (.dackCycle (.write b)) s = .next (s.refuseAccess 2)) ∧
    (∀ row ∈ [Instr.refusedDataPortAccess .read, .resultByteRead, .completionByteRead],
      s.hpu.phase ∉ [Phase.dataIn, .completion] →
        exec row s = .next (({ s with hpu := { s.hpu with bus := 0xFF } } : State).refuseAccess 3)) ∧
    (s.hpu.phase ≠ .dataIn →
      exec (.dackCycle .read) s = .next (({ s with hpu := { s.hpu with bus := 0xFF } } : State).refuseAccess 3))) ∧
  (∀ (s : State) (kind : Byte),
    (s.hpu.misuse = true → s.refuseAccess kind = s) ∧
    (s.hpu.misuse = false → s.refuseAccess kind =
      ({ s with hpu := { s.hpu with misuse := true } } : State).post
        ⟨.portMisuse, kind, 0xFFFF, BitVec.ofNat 16 s.hpu.phase.code⟩))

/-- R12, R14: a Break is ignored in FREE and COMPLETION; in COMMAND, DATA OUT and DATA IN it ends the command at once
with ABORTED, and the byte timeout ends it with PORT TIMEOUT; only a REQUEST SENSE keeps the sense record. In COMMAND no
block is in hand, which PortAndSequencerAgree keeps, so the failing command code is 0x00. When the timeout does not run,
its expiry does not come (the model's choice, log 11). -/
def Obligations.TransfersEndEarly : Prop :=
  ((∀ s : State, s.InService → s.hpu.phase = .free ∨ s.hpu.phase = .completion →
    exec .breakRequest s = .next s) ∧
  (∀ s : State, s.InService → s.hpu.phase = .command ∨ s.hpu.phase = .dataOut ∨ s.hpu.phase = .dataIn →
    (s.hpu.phase = .command → s.csq.block = []) →
    ∃ t, exec .breakRequest s = .next t ∧ s.SameEngine t ∧
      ({ s with hpu := { s.hpu with cmd := [], drq := false } } : State).EntersCompletion t
        (.error .aborted none .nothing)
        (if s.csq.block.head? = some 0x12 then s.csq.sense
         else ⟨.aborted, if s.hpu.phase = .command then 0x00 else byteAt s.csq.block 0, none, .nothing⟩))) ∧
  ((∀ s : State, s.InService → s.hpu.byteTimer ≠ none → (s.hpu.phase = .command → s.csq.block = []) →
    ∃ t, exec .byteTimeout s = .next t ∧ s.SameEngine t ∧
      ({ s with hpu := { s.hpu with cmd := [], drq := false } } : State).EntersCompletion t
        (.error .portTimeout none (.detail (BitVec.ofNat 32 s.hpu.phase.code)))
        (if s.csq.block.head? = some 0x12 then s.csq.sense
         else ⟨.portTimeout, if s.hpu.phase = .command then 0x00 else byteAt s.csq.block 0, none,
           .detail (BitVec.ofNat 32 s.hpu.phase.code)⟩)) ∧
  (∀ s : State, s.hpu.byteTimer = none → exec .byteTimeout s = .next s))

/-- R13, R54, R120, R121, R148: a Break in EXECUTE sets the Break-pending flag, or ends a waiting command, a RAM TEST or
a compaction between two moves at once; with the flag set, or during a glyph move, it does nothing more. Of an attached
move: at S or below, or going backward, the motor is STOPPED at once and the command ends with ABORTED; above S a soft
stop begins. Of an attached RESUME in RECOVERING: a halt's stop still in progress goes on for the Break, above S a soft
stop begins, and at S or below the engine halts again with REGISTRATION LOST as its only cause, of which no event is
posted but HALTED, and the command ends with ABORTED; so does the step that ends such a soft stop. That a RAM TEST whose
first byte has not been tested ends so too (log 48), and that a halt's stop becomes the Break's (log 25), is the model's
choice. -/
def Obligations.BreakInExecuteActsAtASafePoint : Prop :=
  ((∀ s : State, s.InService → s.hpu.phase = .execute → s.hpu.breakPending = false →
    (s.csq.stage = .validate ∨ s.csq.stage = .finish ∨ ∃ w, s.csq.stage = .writing w) →
    ∃ t, exec .breakRequest s = .next t ∧ t.hpu = { s.hpu with breakPending := true } ∧ t.csq = s.csq ∧
      s.OnlyFollows t) ∧
  (∀ s : State, s.InService → s.hpu.phase = .execute → s.hpu.breakPending = false →
    (s.csq.stage = .waiting ∨ (∃ n, s.csq.stage = .ramTesting n) ∨
      (s.csq.stage = .compacting ∧ s.gst.moving = none)) → s.csq.block.head? ≠ some 0x12 →
    ∃ t, exec .breakRequest s = .next t ∧ s.EndsAndFollows t (.error .aborted none .nothing)) ∧
  (∀ s : State, s.InService → s.hpu.phase = .execute → s.hpu.breakPending = true →
    s.csq.stage ≠ .waiting → s.csq.stage ≠ .compacting →
    ∃ t, exec .breakRequest s = .next t ∧ t.hpu = s.hpu ∧ t.csq = s.csq ∧ s.OnlyFollows t) ∧
  (∀ s : State, s.InService → s.hpu.phase = .execute → s.csq.stage = .compacting → s.gst.moving ≠ none →
    ∃ t, exec .breakRequest s = .next t ∧ t.hpu = { s.hpu with breakPending := true } ∧ t.csq = s.csq ∧
      s.OnlyFollows t)) ∧
  (∀ (s : State) (code : Byte), s.InService → s.hpu.phase = .execute → s.hpu.breakPending = false →
    s.csq.stage = .moving → s.csq.block.head? = some code → code ≠ 0x12 → s.fmu.motion = some ⟨code, .attached⟩ →
    s.eng.cond = .idle ∨ s.eng.cond = .paused → s.fmu.stop = none → s.fmu.mode = .freeMove →
    ∃ t, exec .breakRequest s = .next t ∧
      let cut := s.fmu.present = .presenting ∨ s.fmu.present = .retracting
      let stopped : State := { s with
        fmu := { s.fmu with
          mode := .stopped, speed := 0, target := none, stop := none, why := none, move := .none, rest := .none
          settling := false, motion := none, present := if cut then .atPrintLine else s.fmu.present }
        msu := { s.msu with
          find := none, calib := none, reg := if cut then ⟨.unknown, none, false, 0⟩ else s.msu.reg } }
      if s.fmu.backward = true ∨ s.fmu.speed ≤ s.nvs.mech.startSpeed then
        stopped.EndsAndFollows t (.error .aborted none .nothing) ∧ (stopped.mayRun = false → stopped.MotorRests t)
      else
        ({ s with
          fmu := { s.fmu with mode := .stopping, stop := some .soft, why := some .breakRequest }
          msu := { s.msu with find := none } } : State).OnlyRests t ∧
        t.hpu = { s.hpu with breakPending := true } ∧ t.csq = s.csq) ∧
  (∀ s : State, s.InService → s.hpu.phase = .execute → s.hpu.breakPending = false →
    s.csq.stage = .moving → s.csq.block.head? = some 0x56 → s.fmu.motion = some ⟨0x56, .attached⟩ →
    s.eng.cond = .recovering → s.lbq.printing = none →
    ∃ t, exec .breakRequest s = .next t ∧
      let pends := t.hpu = { s.hpu with breakPending := true } ∧ t.csq = s.csq
      let lost : State := ({ s with
        fmu := { s.fmu with
          mode := .stopped, speed := 0, target := none, stop := none, why := none, move := .none, rest := .none
          settling := false, motion := none, underrun := none
          present := if s.fmu.present = .presenting ∨ s.fmu.present = .retracting then .atPrintLine
            else s.fmu.present }
        msu := { s.msu with find := none, calib := none, reg := ⟨.unknown, none, false, 0⟩ }
        ring := (({ s with ring := s.ring.flush } : State).reseat).ring
        eng := { s.eng with
          cond := .halted, causes := 8, primary := some .registrationLost, haltPos := s.fmu.pos
          interrupted := none, settle := none } } : State).post ⟨.halted, 8, 0xFFFF, 0x21⟩
      (s.fmu.mode = .stopping → pends ∧
        ({ s with fmu := { s.fmu with why := some .breakRequest } } : State).OnlyRests t) ∧
      (s.fmu.mode = .freeMove → s.fmu.backward = false → s.nvs.mech.startSpeed < s.fmu.speed → pends ∧
        ({ s with
          fmu := { s.fmu with mode := .stopping, stop := some .soft, why := some .breakRequest }
          msu := { s.msu with find := none } } : State).OnlyRests t) ∧
      (s.fmu.mode = .freeMove → s.fmu.backward = true ∨ s.fmu.speed ≤ s.nvs.mech.startSpeed →
        lost.EndsAndFollows t (.error .aborted none .nothing))) ∧
  (∀ (w : State) (m : MoveEnd), w.fmu.mode = .stopping → w.fmu.speed ≤ w.nvs.mech.startSpeed →
    w.fmu.why = some .breakRequest → w.eng.cond = .recovering → w.csq.block.head? ≠ some 0x12 →
    let halted := ({ w with fmu := { w.fmu.atRest with motion := none } } : State).asHalted 8 .registrationLost
    halted.EndsWith (w.endOfStep m) (.error .aborted none .nothing) ∧ halted.SameEngine (w.endOfStep m))

/-- R152, R153: a posted record joins the tail; with 16 held it is dropped and counted. A read of the Event Port returns
the byte the cursor names; the sixth removes the record, and with losses counted the OVERFLOW record takes its place at
the tail; an empty queue returns 0x00. -/
def Obligations.EventQueueKeepsItsOrder : Prop :=
  (∀ (s : State) (e : Event),
    (s.eng.events.length < 16 → s.post e = { s with eng := { s.eng with events := s.eng.events ++ [e] } }) ∧
    (16 ≤ s.eng.events.length →
      s.post e = { s with eng := { s.eng with overflow := min 65535 (s.eng.overflow + 1) } })) ∧
  ((∀ s : State, s.InService → s.eng.events = [] →
    exec .eventPortRead s = .next { s with hpu := { s.hpu with bus := 0x00 } }) ∧
  (∀ (s : State) (e : Event) (rest : List Event), s.InService → s.eng.events = e :: rest → s.eng.cursor < 5 →
    exec .eventPortRead s = .next { s with
      hpu := { s.hpu with bus := byteAt e.bytes s.eng.cursor }
      eng := { s.eng with cursor := s.eng.cursor + 1 } }) ∧
  (∀ (s : State) (e : Event) (rest : List Event), s.InService → s.eng.events = e :: rest → s.eng.cursor = 5 →
    exec .eventPortRead s = .next { s with
      hpu := { s.hpu with bus := byteAt e.bytes 5 }
      eng := if s.eng.overflow = 0 then { s.eng with events := rest, cursor := 0 }
        else { s.eng with
          events := rest ++ [⟨.overflow, 0, 0xFFFF, BitVec.ofNat 16 s.eng.overflow⟩], cursor := 0, overflow := 0 } }) ∧
  (∀ e : Event, e.bytes = [e.code.byte, e.attr, e.label.setWidth 8, (e.label >>> 8).setWidth 8,
    e.detail.setWidth 8, (e.detail >>> 8).setWidth 8]))

/-- R20, R3: while the reset input is held, and while the power-up sequence is in progress, every row but the resets is
ignored: a read returns 0xFF and nothing else changes. Port Status reads 0xFF while the input is held, 0x08 during the
sequence, and in service the bits of Table 1-2; the Identity Port answers from the release on. That the rows of the
engine are ignored out of service too is the model's choice (log 39). -/
def Obligations.HeldResetIgnoresEveryAccess : Prop :=
  (∀ (s : State) (i : Instr), ¬ s.InService →
    (∀ found, i ≠ .pinReset found) → (∀ found, i ≠ .powerOnReset found) → i ≠ .resetInputHeld →
    ∃ t, exec i s = .next t ∧
      t = if i = .resultByteRead ∨ i = .completionByteRead ∨ i = .eventPortRead ∨ i = .dackCycle .read ∨
            i = .refusedDataPortAccess .read
        then { s with hpu := { s.hpu with bus := 0xFF } } else s) ∧
  (∀ (s : State) (strap : Bool),
    (s.hpu.service = .held → portStatus s = 0xFF ∧ identityPort s strap = 0xFF) ∧
    (s.hpu.service = .starting → portStatus s = 0x08) ∧
    (s.hpu.service ≠ .held → identityPort s strap = if strap then 0x63 else 0x62) ∧
    (s.InService →
      let flag (b : Bool) (i : Nat) : Byte := if b then BitVec.ofNat 8 (2 ^ i) else 0
      portStatus s = flag (s.hpu.phase != .free && s.hpu.phase != .execute) 0 |||
        flag (s.hpu.phase == .dataIn || s.hpu.phase == .completion) 1 |||
        flag (s.hpu.phase == .command || s.hpu.phase == .completion) 2 ||| flag (s.hpu.phase != .free) 3 |||
        flag s.hpu.drq 4 ||| flag s.hpu.cirq 5 ||| flag (s.eng.events != []) 6 |||
        flag (s.eng.cond == .halted || s.eng.cond == .faulted) 7))

/-! ### Reports -/

/-- R13, R23, R26, R28, R29: a command that fails, in its first act or its second, has no effect: its block and payload
are discarded, and every block of the engine is as it was, but for the strap as sampled and the stored bytes as they
were read. So it is with a command that reaches the safe point before its commit with a Break pending: it ends with
ABORTED, and no data phase follows; one that fails before that point ends with its own failure, as it would without the
Break. TEST READY and CANCEL LABELS find their own outcome at the commit, behind the safe point. That the strap and what
has become of the stored bytes are operands, and that a RESUME or FEED with nothing to do has a safe point too, is the
model's choice (logs 18, 21, 54). -/
def Obligations.FailedCommandsHaveNoEffect : Prop :=
  ∀ (s : State) (strap : Bool) (decay : List Decay) (row : Instr) (code : Byte) (u : State),
    let read : State := { s with nvs := s.nvs.decayed decay }
    let rows : List (Instr × Byte × State) :=
      [(.testReady, 0x11, s), (.requestSense, 0x12, s), (.readEngineState, 0x13, s), (.sensorRead, 0x14, s),
       (.setMediaParameters, 0x21, s), (.readMediaParameters, 0x22, s),
       (.setMechanismParameters strap decay, 0x23, { read with strap := strap }),
       (.storeProfile strap decay, 0x24, { read with strap := strap }), (.loadProfile decay, 0x25, read),
       (.verifyProfiles decay, 0x26, read), (.defineGlyph, 0x31, s), (.deleteGlyph, 0x32, s), (.compactGlyphs, 0x33, s),
       (.readGlyphEntry, 0x34, s), (.openLabel, 0x41, s), (.placeGlyph, 0x42, s), (.placeText, 0x43, s),
       (.placeRule, 0x44, s), (.placeImage, 0x45, s), (.closeLabel, 0x46, s), (.discardLabel, 0x47, s),
       (.cancelLabels, 0x48, s), (.setRunGate, 0x49, s), (.feed, 0x51, s), (.advanceToEdge, 0x52, s),
       (.calibrateMedia, 0x53, s), (.present, 0x54, s), (.retract, 0x55, s), (.resume, 0x56, s), (.ramTest, 0x61, s)]
    (row, code, u) ∈ rows →
    let failed (t : State) : Prop := t.hpu.phase = .completion ∧ t.hpu.completion.getLsbD 0 = true
    let decides := row = .testReady ∨ row = .cancelLabels
    (∀ t, s.Ready code ∨ s.ReadyAgain code → exec row s = .next t → failed t →
      u.SameEngine t ∧ t.csq.block = [] ∧ t.csq.payload = []) ∧
    (s.Ready code ∨ (s.ReadyAgain code ∧ code ∈ [0x21, 0x23, 0x31, 0x43, 0x45]) → s.hpu.breakPending = true →
      let calm : State := { s with hpu := { s.hpu with breakPending := false } }
      ∃ t, exec row s = .next t ∧ u.SameEngine t ∧
        (∀ v, exec row calm = .next v → failed v → s.eng.cond = .faulted ∨ ¬ decides → t = v) ∧
        ((∀ v, exec row calm = .next v → ¬ failed v) ∨ (s.eng.cond ≠ .faulted ∧ decides) →
          s.EntersCompletion t (.error .aborted none .nothing)
            (if code = 0x12 then s.csq.sense else ⟨.aborted, code, none, .nothing⟩)))

/-- R150, whole: TEST READY changes no state, and the first matching row decides its outcome. -/
def Obligations.TestReadyReportsTheFirstHindrance : Prop :=
  ∀ s : State, s.Ready 0x11 → s.hpu.breakPending = false → (s.eng.cond = .halted → s.eng.primary ≠ none) →
    ∃ t, exec .testReady s = .next t ∧ s.SameEngine t ∧ s.EndsWith t
      (let critical : Ending := .error .headCritical none (.detail (BitVec.ofInt 32 s.hdu.temp))
       if s.eng.cond = .faulted then .error .engineFault none .nothing
       else if s.eng.cond = .halted then
         (match s.eng.primary with
          | some .headCritical => critical
          | some .registrationLost => .error .registrationLost none (.position s.eng.haltPos)
          | some .mediaOut => .error .mediaOut none .nothing
          | _ => .error .headOpen none .nothing)
       else if s.eng.headOpen then .error .headOpen none .nothing
       else if s.fmu.motion ≠ none then .error .stillMoving none .nothing
       else if s.msu.absent then .error .mediaOut none .nothing
       else if s.hdu.thermal = .critical then critical
       else if s.msu.reg.state = .unknown then .notice 4
       else .ok)

/-- R41, with the layout of Table 2-6: REQUEST SENSE hands over the ten bytes of the record as it stands, in every
engine condition, and changes nothing. -/
def Obligations.RequestSenseReturnsTheRecord : Prop :=
  ∀ s : State, s.Ready 0x12 → s.hpu.breakPending = false →
    ∃ t, exec .requestSense s = .next t ∧ s.SameEngine t ∧
      let r := s.csq.sense
      let flag (b : Bool) (i : Nat) : Byte := if b then BitVec.ofNat 8 (2 ^ i) else 0
      let isPosition := match r.info with | .position _ => true | _ => false
      let isGlyph := match r.info with | .glyph _ => true | _ => false
      let isDetail := match r.info with | .detail _ => true | _ => false
      let last : Pos := match r.info with
        | .nothing => 0 | .position p => p | .glyph id => BitVec.ofNat 32 id | .detail d => d
      s.HandsOver t
        [r.code.byte, r.code.byte / 16,
         flag r.label.isSome 0 ||| flag isPosition 1 ||| flag isGlyph 2 ||| flag isDetail 3, r.failing,
         (r.label.getD 0).setWidth 8, (r.label.getD 0 >>> 8).setWidth 8,
         last.setWidth 8, (last >>> 8).setWidth 8, (last >>> 16).setWidth 8, (last >>> 24).setWidth 8]

/-- R151, whole: the sixteen bytes of READ ENGINE STATE, in every engine condition and during a free motion. -/
def Obligations.ReadEngineStateReturnsSixteenBytes : Prop :=
  ∀ s : State, s.Ready 0x13 → s.hpu.breakPending = false →
    ∃ t, exec .readEngineState s = .next t ∧ s.SameEngine t ∧
      let flag (b : Bool) (i : Nat) : Byte := if b then BitVec.ofNat 8 (2 ^ i) else 0
      let low (n : Nat) : Byte := BitVec.ofNat 8 n
      let high (n : Nat) : Byte := BitVec.ofNat 8 (n / 256)
      let pool := 8 * s.lbq.poolFree
      let free := 8 * totalFree s.gst.free
      let longest := 8 * longestFree s.gst.free
      s.HandsOver t
        [match s.eng.cond with
           | .faulted => 0 | .idle => 1 | .running => 2 | .holding => 3 | .paused => 4 | .halted => 5
           | .recovering => 6,
         if s.eng.cond = .halted then s.eng.causes.setWidth 8 else 0,
         match s.msu.reg.state with | .unknown => 0 | .registered => 1 | .flywheel => 2,
         flag s.lbq.openSlot.isSome 0 ||| flag (s.fmu.present == .presented) 1 ||| flag s.fmu.motion.isSome 2 |||
           flag s.lbq.gate 3 ||| flag s.eng.headOpen 4 ||| flag s.msu.absent 5 ||| flag (s.hdu.thermal != .normal) 6,
         low s.lbq.queue.length, BitVec.ofInt 8 s.hdu.temp, low pool, high pool, low free, high free, low longest,
         high longest, s.fmu.pos.setWidth 8, (s.fmu.pos >>> 8).setWidth 8, (s.fmu.pos >>> 16).setWidth 8,
         (s.fmu.pos >>> 24).setWidth 8]

/-- R57, R138, R156, R159: the other commands that return data hand over what they read and change no other state; the
store returns what has become of its bytes. READ GLYPH ENTRY is refused for an id above 63. That what has become of them
is an operand is the model's choice (log 18). -/
def Obligations.ReadingCommandsHandOverTheirBytes : Prop :=
  (∀ s : State, s.Ready 0x14 → s.Clear →
    ∃ t, exec .sensorRead s = .next t ∧ s.SameEngine t ∧ s.HandsOver t
      [s.msu.raw, match s.msu.cls with | .media => 0 | .marker => 1 | .empty => 2, if s.eng.headOpen then 1 else 0,
       BitVec.ofInt 8 s.hdu.temp]) ∧
  (∀ s : State, s.Ready 0x22 → s.Clear →
    ∃ t, exec .readMediaParameters s = .next t ∧ s.SameEngine t ∧
      let b := s.nvs.profile.bytes
      s.HandsOver t (b ++ [(crc16 b).setWidth 8, (crc16 b >>> 8).setWidth 8])) ∧
  (∀ s : State, s.Ready 0x34 → s.Clear → num8 s.csq.block 2 ≤ 63 →
    ∃ t, exec .readGlyphEntry s = .next t ∧ s.SameEngine t ∧
      let id := num8 s.csq.block 2
      let e := s.gst.entry id
      s.HandsOver t [BitVec.ofNat 8 id, match e.state with | .empty => 0 | .defined => 1 | .doomed => 2,
        BitVec.ofNat 8 e.width, BitVec.ofNat 8 e.height, BitVec.ofNat 8 e.base, BitVec.ofNat 8 (e.base / 256),
        BitVec.ofNat 8 e.count, BitVec.ofNat 8 (e.count / 256)]) ∧
  (∀ (s : State) (decay : List Decay), s.Ready 0x26 → s.hpu.breakPending = false →
    ∃ t, exec (.verifyProfiles decay) s = .next t ∧
      let n := s.nvs.decayed decay
      ({ s with nvs := n } : State).SameEngine t ∧
      s.HandsOver t ((List.range 5).map fun record =>
        let a := (n.record record).a
        let b := (n.record record).b
        byteOfBits [a.valid record, b.valid record,
          a.valid record && b.valid record && copyRecord record a.bytes == copyRecord record b.bytes])) ∧
  (∀ s : State, s.Ready 0x34 → s.Clear → 63 < num8 s.csq.block 2 →
    ∃ t, exec .readGlyphEntry s = .next t ∧ s.SameEngine t ∧ s.EndsWith t (.error .invalidParameter none (.detail 2)))

/-! ### Payloads -/

/-- R8, R25, R26, R50, R65, R68, R70, R155, R157: a command with a payload, its ranges and preconditions met, asks for
its bytes and the trailer's two, and changes nothing else. In its first act SET MEDIA PARAMETERS or SET MECHANISM
PARAMETERS is refused with ENGINE BUSY unless the engine is IDLE with no free motion and no label queued or open, and
the latter then while the strap is fitted; DEFINE GLYPH is refused for its ranges in byte order, and then for a DOOMED
id and one that labels use; PLACE TEXT and PLACE IMAGE are refused for the first of their ranges in byte order that does
not hold, then with no label open, then with the list full. That the strap and what has become of the stored bytes are
operands is the model's choice (logs 18, 21). -/
def Obligations.PayloadCommandsAskForTheirBytes : Prop :=
  (∀ s : State, s.Ready 0x21 → s.Clear → s.AtLeisure →
    ∃ t, exec .setMediaParameters s = .next t ∧ s.SameEngine t ∧ s.AsksFor t 18) ∧
  (∀ (s : State) (decay : List Decay), s.Ready 0x23 → s.Clear → s.AtLeisure →
    ∃ t, exec (.setMechanismParameters false decay) s = .next t ∧ s.AsksFor t 12 ∧
      ({ s with strap := false, nvs := s.nvs.decayed decay } : State).SameEngine t) ∧
  (∀ s : State, s.Ready 0x31 → s.Clear →
    let b := s.csq.block
    num8 b 2 ≤ 63 → 1 ≤ num8 b 3 → 1 ≤ num8 b 4 →
    (s.gst.entry (num8 b 2)).state ≠ .doomed →
    ((s.gst.entry (num8 b 2)).state = .defined → (s.gst.entry (num8 b 2)).count = 0) →
    ∃ t, exec .defineGlyph s = .next t ∧ s.SameEngine t ∧
      s.AsksFor t ((num8 b 3 + 7) / 8 * num8 b 4 + 2)) ∧
  (∀ (s : State) (slot : Nat) (l : Label), s.Ready 0x43 → s.Clear →
    s.lbq.openSlot = some slot → s.lbq.label slot = some l → l.placements.length < 255 →
    let b := s.csq.block
    num16 b 2 ≤ 831 → num16 b 4 < l.length → num8 b 6 ≤ 15 → -8 ≤ int8 b 8 → int8 b 8 ≤ 31 → 1 ≤ num8 b 9 →
    num8 b 9 ≤ 64 →
    ∃ t, exec .placeText s = .next t ∧ s.SameEngine t ∧ s.AsksFor t (num8 b 9 + 2)) ∧
  (∀ (s : State) (slot : Nat) (l : Label), s.Ready 0x45 → s.Clear →
    s.lbq.openSlot = some slot → s.lbq.label slot = some l → l.placements.length < 255 →
    let b := s.csq.block
    num16 b 2 ≤ 831 → num16 b 4 < l.length → 1 ≤ num16 b 6 → num16 b 6 ≤ 832 → 1 ≤ num16 b 8 → num16 b 8 ≤ 4096 →
    num8 b 10 ≤ 15 →
    ∃ t, exec .placeImage s = .next t ∧ s.SameEngine t ∧ s.AsksFor t ((num16 b 6 + 7) / 8 * num16 b 8 + 2)) ∧
  (∀ (s : State) (strap : Bool) (decay : List Decay),
    let u : State := { s with strap := strap, nvs := s.nvs.decayed decay }
    (s.Ready 0x21 → s.Clear → ¬ s.AtLeisure → ∃ t, exec .setMediaParameters s = .next t ∧ s.SameEngine t ∧
      s.EndsWith t (.error .engineBusy none .nothing)) ∧
    (s.Ready 0x23 → s.Clear → ¬ s.AtLeisure → ∃ t, exec (.setMechanismParameters strap decay) s = .next t ∧
      u.SameEngine t ∧ s.EndsWith t (.error .engineBusy none .nothing)) ∧
    (s.Ready 0x23 → s.Clear → s.AtLeisure → strap = true → ∃ t,
      exec (.setMechanismParameters strap decay) s = .next t ∧ u.SameEngine t ∧
      s.EndsWith t (.error .nvmProtected none (.detail 0)))) ∧
  (∀ s : State, s.Ready 0x31 → s.Clear →
    let b := s.csq.block
    let e := s.gst.entry (num8 b 2)
    let bad (i : Nat) : Ending := .error .invalidParameter none (.detail (BitVec.ofNat 32 i))
    let ends (e : Ending) : Prop := ∃ t, exec .defineGlyph s = .next t ∧ s.SameEngine t ∧ s.EndsWith t e
    (63 < num8 b 2 → ends (bad 2)) ∧
    (num8 b 2 ≤ 63 → num8 b 3 = 0 → ends (bad 3)) ∧
    (num8 b 2 ≤ 63 → 1 ≤ num8 b 3 → num8 b 4 = 0 → ends (bad 4)) ∧
    (num8 b 2 ≤ 63 → 1 ≤ num8 b 3 → 1 ≤ num8 b 4 → e.state = .doomed ∨ (e.state = .defined ∧ 0 < e.count) →
      ends (.error .glyphInUse none (.glyph (num8 b 2))))) ∧
  (∀ (s : State) (row : Instr) (code : Byte), (row, code) ∈ [(Instr.placeText, (0x43 : Byte)), (.placeImage, 0x45)] →
    s.Ready code → s.Clear →
    let b := s.csq.block
    let bad (i : Nat) : Ending := .error .invalidParameter none (.detail (BitVec.ofNat 32 i))
    let outside (i : Nat) : Ending :=
      .error .placementOutsideLabel (s.lbq.openLabel.map (·.number)) (.detail (BitVec.ofNat 32 i))
    let origin : List (Bool × Ending) := [(decide (num16 b 2 ≤ 831), outside 2),
      (s.lbq.openLabel.all fun l => decide (num16 b 4 < l.length), outside 4)]
    let text : List (Bool × Ending) := [(decide (num8 b 6 ≤ 15), bad 6),
      (decide (-8 ≤ int8 b 8 ∧ int8 b 8 ≤ 31), bad 8), (decide (1 ≤ num8 b 9 ∧ num8 b 9 ≤ 64), bad 9)]
    let image : List (Bool × Ending) := [(decide (1 ≤ num16 b 6 ∧ num16 b 6 ≤ 832), bad 6),
      (decide (1 ≤ num16 b 8 ∧ num16 b 8 ≤ 4096), bad 8), (decide (num8 b 10 ≤ 15), bad 10)]
    let label : List (Bool × Ending) := [(s.lbq.openSlot.isSome, .error .noOpenLabel none .nothing),
      (s.lbq.openLabel.all fun l => decide (l.placements.length < 255), bad 0)]
    ∀ before e after, origin ++ (if code = 0x43 then text else image) ++ label = before ++ (false, e) :: after →
      (∀ f ∈ before, f.1 = true) → ∃ t, exec row s = .next t ∧ s.SameEngine t ∧ s.EndsWith t e)

/-- R27, R28: the CRC-16 as a register that takes the bits of each byte from the most significant on; an empty sequence
gives 0x0000, and bytes followed by their own CRC, high byte first, give 0. A trailer that is not the CRC-16 of the
bytes before it refuses the command, with both values as its detail, and nothing changes but the strap as sampled and the
stored bytes as they were read (operands by the model's choice, logs 18 and 21). -/
def Obligations.TrailersAreTheCrcOfThePayload : Prop :=
  (crc16 [] = 0 ∧
  (∀ (l : List Byte) (b : Byte), crc16 (l ++ [b]) =
    [7, 6, 5, 4, 3, 2, 1, 0].foldl (fun (c : Half) i =>
      if c.msb = b.getLsbD i then c <<< 1 else (c <<< 1) ^^^ 0x1021) (crc16 l)) ∧
  (∀ l : List Byte, crc16 (l ++ [(crc16 l >>> 8).setWidth 8, (crc16 l).setWidth 8]) = 0)) ∧
  (∀ (s : State) (strap : Bool) (decay : List Decay) (row : Instr) (code : Byte) (u : State),
    let rows : List (Instr × Byte × State) := [(.setMediaParameters, 0x21, s),
      (.setMechanismParameters strap decay, 0x23, { s with strap := strap, nvs := s.nvs.decayed decay }),
      (.defineGlyph, 0x31, s), (.placeText, 0x43, s), (.placeImage, 0x45, s)]
    (row, code, u) ∈ rows → s.ReadyAgain code → crc16 s.csq.body ≠ s.csq.trailer →
    ∃ t, exec row s = .next t ∧ u.SameEngine t ∧
      s.EndsWith t (.error .payloadCheckError none (.detail (s.csq.trailer ++ crc16 s.csq.body))))

/-! ### Profiles and the store -/

/-- R28, R154, R155, R162: the second act of SET MEDIA PARAMETERS, and LOAD PROFILE with the selected copy of the slot's
record, put a profile in force whole, empty the edge queue, forget the last edge and make registration UNKNOWN. The first
field of the payload that is out of its range, and then the first constraint that fails, refuse the former, before the
ENGINE BUSY preconditions are tested again; the latter is refused for its slot, by the same preconditions, with no
selected copy, and where the profile found does not agree with the mechanism record. That what has become of the stored
bytes is an operand is the model's choice (log 18). -/
def Obligations.ProfilesAreReplacedWhole : Prop :=
  (∀ s : State, s.ReadyAgain 0x21 → s.Clear → s.CrcGood → s.AtLeisure → recordWellFormed 1 s.csq.body = true →
    Agrees (Profile.ofBytes s.csq.body) s.nvs.mech →
    ∃ t, exec .setMediaParameters s = .next t ∧ s.EndsWith t .ok ∧
      ({ s with
        nvs := { s.nvs with profile := Profile.ofBytes s.csq.body }
        msu := { s.msu with edges := [], lastEdge := none, reg := ⟨.unknown, none, false, 0⟩ } } : State).OnlyRests t) ∧
  (∀ (s : State) (decay : List Decay), s.Ready 0x25 → s.Clear → s.AtLeisure → num8 s.csq.block 2 ≤ 3 →
    let n := s.nvs.decayed decay
    let record := num8 s.csq.block 2 + 1
    (∀ b, n.load record = some b → Agrees (Profile.ofBytes (copyRecord record b)) s.nvs.mech →
      ∃ t, exec (.loadProfile decay) s = .next t ∧ s.EndsWith t .ok ∧
        ({ s with
          nvs := { n with profile := Profile.ofBytes (copyRecord record b) }
          msu := { s.msu with edges := [], lastEdge := none, reg := ⟨.unknown, none, false, 0⟩ } } : State).OnlyRests t) ∧
    (n.load record = none →
      ∃ t, exec (.loadProfile decay) s = .next t ∧ ({ s with nvs := n } : State).SameEngine t ∧
        s.EndsWith t (.error .profileInvalid none (.detail (BitVec.ofNat 32 record)))) ∧
    (∀ b, n.load record = some b →
      let p := Profile.ofBytes (copyRecord record b)
      let bad (i : Pos) : Prop := ∃ t, exec (.loadProfile decay) s = .next t ∧ ({ s with nvs := n } : State).SameEngine t ∧
        s.EndsWith t (.error .invalidParameter none (.detail i))
      (s.nvs.mech.sensorOffset / 2 < p.tolerance → bad 24) ∧
      (p.tolerance ≤ s.nvs.mech.sensorOffset / 2 → s.nvs.mech.critical < p.hot + 5 → bad 23))) ∧
  (∀ (s : State) (decay : List Decay), s.Ready 0x25 → s.Clear →
    let ends (e : Ending) : Prop := ∃ t, exec (.loadProfile decay) s = .next t ∧
      ({ s with nvs := s.nvs.decayed decay } : State).SameEngine t ∧ s.EndsWith t e
    (3 < num8 s.csq.block 2 → ends (.error .invalidParameter none (.detail 2))) ∧
    (num8 s.csq.block 2 ≤ 3 → ¬ s.AtLeisure → ends (.error .engineBusy none .nothing))) ∧
  (∀ s : State, s.ReadyAgain 0x21 → s.Clear → s.CrcGood →
    let b := s.csq.body
    let m := s.nvs.mech
    let fields : List (Bool × Nat) :=
      [(decide (num8 b 0 ≤ 2), 0), (decide (1 ≤ num8 b 1 ∧ num8 b 1 ≤ 254), 1),
       (decide (2 ≤ num8 b 2 ∧ num8 b 2 ≤ 255), 2), (decide (16 ≤ num16 b 3 ∧ num16 b 3 ≤ 4096), 3),
       (decide (2 ≤ num16 b 5 ∧ num16 b 5 ≤ 512), 5), (decide (50 ≤ num16 b 7 ∧ num16 b 7 ≤ 1600), 7),
       (decide (1 ≤ num8 b 9 ∧ num8 b 9 ≤ 64), 9), (decide (num8 b 10 ≤ 30), 10),
       (decide (40 ≤ num8 b 11 ∧ num8 b 11 ≤ 70), 11), (decide (2 ≤ num8 b 12 ∧ num8 b 12 ≤ 64), 12),
       (decide (num8 b 13 ≤ 1), 13), (decide (num8 b 14 ≤ 3), 14), (decide (-64 ≤ int8 b 15 ∧ int8 b 15 ≤ 63), 15),
       (decide (num8 b 1 < num8 b 2), 2), (decide (num16 b 5 < num16 b 3), 5), (decide (num8 b 12 ≤ num16 b 5 / 2), 12),
       (decide (num8 b 12 ≤ m.sensorOffset / 2), 12), (decide (num8 b 11 + 5 ≤ m.critical), 11)]
    let ends (e : Ending) : Prop := ∃ t, exec .setMediaParameters s = .next t ∧ s.SameEngine t ∧ s.EndsWith t e
    (∀ before offset after, fields = before ++ (false, offset) :: after → (∀ f ∈ before, f.1 = true) →
      ends (.error .invalidParameter none (.detail (BitVec.ofNat 32 (12 + offset))))) ∧
    ((∀ f ∈ fields, f.1 = true) → ¬ s.AtLeisure → ends (.error .engineBusy none .nothing)))

/-- R28, R154, R157, R161: the second act of SET MECHANISM PARAMETERS puts the record in force, clears the empty-run count, drops
the edges and registration when the sensor offset changes, and begins the write of record 0; STORE PROFILE begins the
write of the working profile to record slot + 1, and with the strap fitted, or for a slot above 3, it is refused with
nothing written. The former is refused for the first field of its payload that is out of range, then for the first
constraint that fails, and then by its preconditions, tested again: ENGINE BUSY, and the strap. That the strap and what
has become of the stored bytes are operands, and that the attempts count from 1, is the model's choice (logs 18, 21, 30).
-/
def Obligations.StoringCommandsBeginTheirWrite : Prop :=
  (∀ (s : State) (decay : List Decay), s.ReadyAgain 0x23 → s.Clear → s.CrcGood → s.AtLeisure →
    recordWellFormed 0 s.csq.body = true → Agrees s.nvs.profile (Mechanism.ofBytes s.csq.body) →
    ∃ t, exec (.setMechanismParameters false decay) s = .next t ∧
      let m := Mechanism.ofBytes s.csq.body
      let n : Nvs := { s.nvs.decayed decay with mech := m }
      t.hpu = s.hpu ∧ t.csq = { s.csq with stage := .writing (n.planWrite 0 s.csq.body), attempts := 1 } ∧
      ({ s with
        strap := false, nvs := n
        msu := if m.sensorOffset = s.nvs.mech.sensorOffset then { s.msu with emptyRun := 0 }
          else { s.msu with emptyRun := 0, edges := [], lastEdge := none, reg := ⟨.unknown, none, false, 0⟩ } }
        : State).OnlyRests t) ∧
  (∀ (s : State) (decay : List Decay), s.Ready 0x24 → s.Clear → num8 s.csq.block 2 ≤ 3 →
    let n := s.nvs.decayed decay
    let record := num8 s.csq.block 2 + 1
    (exec (.storeProfile false decay) s = .next { s with
      strap := false, nvs := n
      csq := { s.csq with stage := .writing (n.planWrite record s.nvs.profile.bytes), attempts := 1 } }) ∧
    (∃ t, exec (.storeProfile true decay) s = .next t ∧
      ({ s with strap := true, nvs := n } : State).SameEngine t ∧
      s.EndsWith t (.error .nvmProtected none (.detail (BitVec.ofNat 32 record))))) ∧
  (∀ (s : State) (strap : Bool) (decay : List Decay), s.Ready 0x24 → s.Clear → 3 < num8 s.csq.block 2 →
    ∃ t, exec (.storeProfile strap decay) s = .next t ∧
      ({ s with strap := strap, nvs := s.nvs.decayed decay } : State).SameEngine t ∧
      s.EndsWith t (.error .invalidParameter none (.detail 2))) ∧
  (∀ (s : State) (strap : Bool) (decay : List Decay), s.ReadyAgain 0x23 → s.Clear → s.CrcGood →
    let b := s.csq.body
    let p := s.nvs.profile
    let fields : List (Bool × Nat) :=
      [(decide (16 ≤ num8 b 0 ∧ num8 b 0 ≤ 255), 0), (decide (num8 b 1 ≤ 255), 1),
       (decide (100 ≤ num16 b 2 ∧ num16 b 2 ≤ 400), 2), (decide (8 ≤ num8 b 4 ∧ num8 b 4 ≤ 255), 4),
       (decide (208 ≤ num16 b 5 ∧ num16 b 5 ≤ 832), 5), (decide (60 ≤ num8 b 7 ∧ num8 b 7 ≤ 90), 7),
       (decide (16 ≤ num8 b 8 ∧ num8 b 8 ≤ 255), 8), (decide (num8 b 9 ≤ 3), 9),
       (decide (p.tolerance ≤ num8 b 0 / 2), 0), (decide (p.hot + 5 ≤ num8 b 7), 7)]
    let ends (e : Ending) : Prop := ∃ t, exec (.setMechanismParameters strap decay) s = .next t ∧
      ({ s with strap := strap, nvs := s.nvs.decayed decay } : State).SameEngine t ∧ s.EndsWith t e
    (∀ before offset after, fields = before ++ (false, offset) :: after → (∀ f ∈ before, f.1 = true) →
      ends (.error .invalidParameter none (.detail (BitVec.ofNat 32 (12 + offset))))) ∧
    ((∀ f ∈ fields, f.1 = true) → ¬ s.AtLeisure → ends (.error .engineBusy none .nothing)) ∧
    ((∀ f ∈ fields, f.1 = true) → s.AtLeisure → strap = true → ends (.error .nvmProtected none (.detail 0))))

/-- R27, R158, R160: the bytes of a copy, in their order, and when they are valid: the CRC-16 they end with is that of
the bytes before it, and the record is well formed; a copy made of a well-formed record gives back its sequence number
and its record and is valid, and one left torn by a reset is not. Which copy of a record is selected, by validity and
then by sequence number; and the target of a write, which is the copy that is not selected, or copy A, with the selected
copy's sequence number plus 1, or 1. That the CRC stands low byte first, and which bytes a torn copy holds, is the
model's choice (logs 45 and 19). -/
def Obligations.CopiesAreSelectedAndReplacedInTurn : Prop :=
  ((∀ (record : Nat) (c : StoredCopy),
    let n := if record = 0 then 10 else 16
    (c.valid record = true ↔
      byteAt c.bytes (n + 3) ++ byteAt c.bytes (n + 2) = crc16 (c.bytes.take (n + 2)) ∧
        recordWellFormed record ((c.bytes.drop 2).take n) = true) ∧
    copySeq c.bytes = byteAt c.bytes 1 ++ byteAt c.bytes 0 ∧ copyRecord record c.bytes = (c.bytes.drop 2).take n) ∧
  (∀ (record : Nat) (seq : Half) (value : List Byte),
    let front := [seq.setWidth 8, (seq >>> 8).setWidth 8] ++ value
    let made := copyBytes seq value
    made = front ++ [(crc16 front).setWidth 8, (crc16 front >>> 8).setWidth 8] ∧
    (value.length = (if record = 0 then 10 else 16) →
      copySeq made = seq ∧ copyRecord record made = value ∧
      (⟨made⟩ : StoredCopy).valid record = recordWellFormed record value)) ∧
  (∀ (record : Nat) (left : List Byte),
    (⟨tornBytes record left⟩ : StoredCopy).valid record = false ∧
    (tornBytes record left).length = (if record = 0 then 14 else 20) ∧
    (left.length = (if record = 0 then 14 else 20) → crcMatches record left = false → tornBytes record left = left))) ∧
  (∀ (record : Nat) (r : StoredRecord),
    let sa := copySeq r.a.bytes
    let sb := copySeq r.b.bytes
    (r.a.valid record = true ∧ r.b.valid record = true →
      r.selected record = some (decide (1 ≤ (sb - sa).toNat ∧ (sb - sa).toNat ≤ 32767))) ∧
    (r.a.valid record = true ∧ r.b.valid record = false → r.selected record = some false) ∧
    (r.a.valid record = false ∧ r.b.valid record = true → r.selected record = some true) ∧
    (r.a.valid record = false ∧ r.b.valid record = false → r.selected record = none)) ∧
  (∀ (n : Nvs) (record : Nat),
    let r := n.record record
    (r.selected record = some false → n.load record = some r.a.bytes) ∧
    (r.selected record = some true → n.load record = some r.b.bytes) ∧
    (r.selected record = none → n.load record = none) ∧
    ∀ value : List Byte,
      let w := n.planWrite record value
      w.record = record ∧
      (r.selected record = none → w.copyB = false ∧ w.bytes = copyBytes 1 value) ∧
      (r.selected record = some false → w.copyB = true ∧ w.bytes = copyBytes (copySeq r.a.bytes + 1) value) ∧
      (r.selected record = some true → w.copyB = false ∧ w.bytes = copyBytes (copySeq r.b.bytes + 1) value))

/-- R160 steps 2 and 3, R38: the end of one attempt. The target holds what the store returns and the other copy is as it
was; a match ends the write with success, NOTICE after a retry; a mismatch leads to another attempt, up to three. That
the read-back is an operand, and how attempts are counted, is the model's choice (logs 20, 30). -/
def Obligations.RecordWriteTriesThreeTimes : Prop :=
  ∀ (s : State) (w : RecordWrite) (differs : List Byte), s.InService → s.csq.stage = .writing w →
    s.csq.block.head? ≠ some 0x12 →
    let back := w.bytes.mapIdx fun i b => b ^^^ differs.getD i 0
    let r := s.nvs.record w.record
    let n : Nvs := { s.nvs with
      store := s.nvs.store.set w.record (if w.copyB then ⟨r.a, ⟨back⟩⟩ else ⟨⟨back⟩, r.b⟩) }
    ∃ t, exec (.recordCopyWrite differs) s = .next t ∧ ({ s with nvs := n } : State).SameEngine t ∧
      if back = w.bytes then
        s.EndsWith t (if s.csq.attempts ≤ 1 then .ok
          else .notice (BitVec.ofNat 32 (2 + 256 * w.record + 65536 * s.csq.attempts)))
      else if s.hpu.breakPending then s.EndsWith t (.error .aborted none .nothing)
      else if 3 ≤ s.csq.attempts then
        s.EndsWith t (.error .nvmWriteFailed none (.detail (BitVec.ofNat 32 w.record)))
      else t.hpu = s.hpu ∧ t.csq = { s.csq with attempts := s.csq.attempts + 1 }

/-- R154, Tables 10-1 and 10-2: what makes the bytes of a record well formed; the bytes of a profile and of a mechanism
record in their order; and a record that is well formed comes back from its bytes. -/
def Obligations.WellFormedRecordsAreInRange : Prop :=
  (∀ b : List Byte, recordWellFormed 0 b = true ↔ (Mechanism.ofBytes b).WellFormed) ∧
  (∀ (b : List Byte) (record : Nat), record ≠ 0 → (recordWellFormed record b = true ↔
    (Profile.ofBytes b).WellFormed ∧ num8 b 0 ≤ 2 ∧ num8 b 13 ≤ 1 ∧ num8 b 14 ≤ 3)) ∧
  (let byte (n : Nat) : Byte := BitVec.ofNat 8 n
   let pair (n : Nat) : List Byte := [byte n, byte (n / 256)]
   (∀ p : Profile, p.bytes =
      [match p.mode with | .gap => 0 | .mark => 1 | .continuous => 2, byte p.marker, byte p.empty] ++
        pair p.pitch ++ pair p.gap ++ pair p.speed ++
        [byte p.accel, byte p.darkness, byte p.hot, byte p.tolerance, if p.afterBatch then 1 else 0,
         (if p.autoRecover then 1 else 0) + (if p.discard then 2 else 0), BitVec.ofInt 8 p.adjust]) ∧
   (∀ m : Mechanism, m.bytes =
      [byte m.sensorOffset, byte m.tearOffset] ++ pair m.startSpeed ++ [byte m.faultDecel] ++ pair m.powerLimit ++
        [byte m.critical, byte m.outLength, byte m.powerSlot])) ∧
  (∀ p : Profile, p.WellFormed → Profile.ofBytes p.bytes = p ∧ recordWellFormed 1 p.bytes = true) ∧
  (∀ m : Mechanism, m.WellFormed → Mechanism.ofBytes m.bytes = m ∧ recordWellFormed 0 m.bytes = true)

/-! ### The glyph store -/

/-- R44 to R46, R54: an extent that is given back joins the free list in its order, merged with its neighbours, and the
list covers it and what it covered before; first fit takes the start of the lowest extent that is long enough, leaves
the rest of it, and fails exactly when every extent is shorter. The granules that a moved glyph comes to cover are taken
out of the list, and no others. -/
def Obligations.FreeListIsFirstFitAndMerged : Prop :=
  (∀ (l : List Extent) (first length : Nat), FreeListWf l → 0 < length →
    (∀ e ∈ l, first + length ≤ e.first ∨ e.first + e.length ≤ first) →
    FreeListWf (freeInsert first length l) ∧
    totalFree (freeInsert first length l) = totalFree l + length ∧
    ∀ g, (∃ e ∈ freeInsert first length l, e.first ≤ g ∧ g < e.first + e.length) ↔
      (∃ e ∈ l, e.first ≤ g ∧ g < e.first + e.length) ∨ (first ≤ g ∧ g < first + length)) ∧
  (∀ (g : Nat) (l : List Extent), 0 < g → FreeListWf l →
    (firstFit g l = none ↔ ∀ e ∈ l, e.length < g) ∧
    ∀ base rest, firstFit g l = some (base, rest) →
      (∃ e ∈ l, e.first = base ∧ g ≤ e.length ∧ ∀ f ∈ l, f.first < base → f.length < g) ∧
      FreeListWf rest ∧ totalFree rest + g = totalFree l ∧
      ∀ x, (∃ e ∈ rest, e.first ≤ x ∧ x < e.first + e.length) ↔
        (∃ e ∈ l, e.first ≤ x ∧ x < e.first + e.length) ∧ ¬ (base ≤ x ∧ x < base + g)) ∧
  (∀ (l : List Extent) (first length : Nat), FreeListWf l → 0 < length →
    FreeListWf (freeCarve first length l) ∧
    ∀ g, (∃ e ∈ freeCarve first length l, e.first ≤ g ∧ g < e.first + e.length) ↔
      (∃ e ∈ l, e.first ≤ g ∧ g < e.first + e.length) ∧ ¬ (first ≤ g ∧ g < first + length))

/-- R50 to R52: the second act of DEFINE GLYPH. The bitmap stands in the extent that first fit gives, the rest of its
last granule is 0, the entry is filled with a count of 0, an old extent is free again afterwards, and no other byte and
no other entry has changed. Without room the command is refused, with the bytes needed, and for an id that is DOOMED or
that labels use it is refused first. -/
def Obligations.DefineGlyphStoresTheBitmap : Prop :=
  (∀ s : State, s.ReadyAgain 0x31 → s.Clear → s.CrcGood →
    let b := s.csq.block
    let id := num8 b 2
    let old := s.gst.entry id
    let bitmap := s.csq.body
    let g := ((num8 b 3 + 7) / 8 * num8 b 4 + 7) / 8
    bitmap.length = (num8 b 3 + 7) / 8 * num8 b 4 → 0 < bitmap.length → id < s.gst.entries.length →
    old.state = .empty ∨ (old.state = .defined ∧ old.count = 0) →
    (∀ base rest, firstFit g s.gst.free = some (base, rest) →
      ∃ t, exec .defineGlyph s = .next t ∧ s.EndsWith t .ok ∧
        ({ s with gst := t.gst, ram := t.ram } : State).OnlyFollows t ∧
        t.gst.entries = s.gst.entries.set id ⟨.defined, num8 b 3, num8 b 4, bitmap.length, base, 0⟩ ∧
        t.gst.free = (if old.state = .empty then rest else freeInsert old.base ((old.size + 7) / 8) rest) ∧
        t.gst.cursor = s.gst.cursor ∧ t.gst.moving = s.gst.moving ∧
        (∀ i < bitmap.length, t.ram.read (26624 + 8 * base + i) = byteAt bitmap i) ∧
        (∀ i, bitmap.length ≤ i → i < 8 * g → t.ram.read (26624 + 8 * base + i) = 0) ∧
        ∀ a, a < 26624 + 8 * base ∨ 26624 + 8 * base + 8 * g ≤ a → t.ram.read a = s.ram.read a) ∧
    (totalFree s.gst.free < g →
      ∃ t, exec .defineGlyph s = .next t ∧ s.SameEngine t ∧
        s.EndsWith t (.error .glyphMemoryFull none (.detail (BitVec.ofNat 32 (8 * g))))) ∧
    (g ≤ totalFree s.gst.free → longestFree s.gst.free < g →
      ∃ t, exec .defineGlyph s = .next t ∧ s.SameEngine t ∧
        s.EndsWith t (.error .glyphMemoryFragmented none (.detail (BitVec.ofNat 32 (8 * g)))))) ∧
  ∀ s : State, s.ReadyAgain 0x31 → s.Clear → s.CrcGood →
    let id := num8 s.csq.block 2
    let e := s.gst.entry id
    e.state = .doomed ∨ (e.state = .defined ∧ 0 < e.count) →
    ∃ t, exec .defineGlyph s = .next t ∧ s.SameEngine t ∧ s.EndsWith t (.error .glyphInUse none (.glyph id))

/-- R53: DELETE GLYPH by the state of the id: released, doomed with NOTICE, left as it is, or refused; an id above 63 is
refused before. -/
def Obligations.DeleteGlyphReleasesOrDooms : Prop :=
  (∀ s : State, s.Ready 0x32 → s.Clear → num8 s.csq.block 2 ≤ 63 →
    let id := num8 s.csq.block 2
    let e := s.gst.entry id
    ∃ t, exec .deleteGlyph s = .next t ∧
      if e.state = .empty then
        s.SameEngine t ∧ s.EndsWith t (.error .glyphUndefined none (.glyph id))
      else if e.state = .doomed then s.OnlyFollows t ∧ s.EndsWith t .ok
      else if e.count = 0 then
        s.EndsWith t .ok ∧ ({ s with gst := t.gst } : State).OnlyFollows t ∧
        t.gst.entries = s.gst.entries.set id ⟨.empty, 0, 0, 0, 0, 0⟩ ∧
        t.gst.free = freeInsert e.base ((e.size + 7) / 8) s.gst.free
      else
        s.EndsWith t (.notice (BitVec.ofNat 32 (3 + 256 * id))) ∧
        ({ s with gst := { s.gst with entries := s.gst.entries.set id { e with state := .doomed } } } : State).OnlyFollows t) ∧
  (∀ s : State, s.Ready 0x32 → s.Clear → 63 < num8 s.csq.block 2 →
    ∃ t, exec .deleteGlyph s = .next t ∧ s.SameEngine t ∧ s.EndsWith t (.error .invalidParameter none (.detail 2)))

/-- R54, R56: COMPACT GLYPHS on a compact store completes at once; otherwise it goes to work: to the first granule of
the lowest free extent, for the glyph whose extent begins right behind that extent. The store is compact exactly when no
granule is free or no glyph begins there. No glyph has moved yet. That the first move is in hand in the same step unless
a band is being rendered, as the two may not overlap, is the model's choice (log 29). -/
def Obligations.CompactGlyphsBeginsItsWork : Prop :=
  (∀ s : State, s.Ready 0x33 → s.Clear → s.gst.moving = none →
    (s.gst.nextMove = none →
      ∃ t, exec .compactGlyphs s = .next t ∧ s.EndsAndFollows t .ok) ∧
    (∀ cursor id, s.gst.nextMove = some (cursor, id) →
      ∃ t, exec .compactGlyphs s = .next t ∧ t.hpu = s.hpu ∧ t.csq = { s.csq with stage := .compacting } ∧
        ({ s with gst := t.gst } : State).OnlyFollows t ∧
        t.gst = if s.ring.composing = none then { s.gst with cursor := some cursor, moving := some id } else s.gst)) ∧
  (∀ (g : Gst) (cursor id : Nat), g.nextMove = some (cursor, id) →
    ∃ e rest, g.free = e :: rest ∧ e.first = cursor ∧ id < 64 ∧ (g.entry id).state ≠ .empty ∧
      (g.entry id).base = e.first + e.length) ∧
  (∀ g : Gst, g.free = [] → g.nextMove = none) ∧
  (∀ (g : Gst) (e : Extent) (rest : List Extent), g.free = e :: rest →
    ((∀ id < 64, (g.entry id).state ≠ .empty → (g.entry id).base ≠ e.first + e.length) → g.nextMove = none) ∧
    ∀ id < 64, g.Wf → (g.entry id).state ≠ .empty → (g.entry id).base = e.first + e.length →
      g.nextMove = some (e.first, id))

/-- R13, R31, R46, R54, R56: a move ends, the one in hand, or one that had to wait for a band to be rendered and now
begins and ends. The glyph's bytes stand at the cursor as they stood at its base, its entry differs in the base alone,
no event is posted, no byte outside the extent written has changed, and the free granules are those free before and
those it no longer covers, in their order and merged; then the store is compact and the command completes, or a pending
Break ends it, or the compaction goes on. A store found compact ends the command, as does a pending Break before a move
has begun. That the next move is in hand in the same step unless a band is COMPOSING, that a move which had to wait
begins and ends in this row, and that the row changes nothing with no compaction at work, is the model's choice (logs
29, 1); so is it that the rest of the last granule moves with the bitmap (log 55). -/
def Obligations.GlyphMoveCopiesTheGlyphDown : Prop :=
  (∀ (s : State) (cursor id : Nat), s.InService → s.csq.stage = .compacting → s.csq.block.head? ≠ some 0x12 →
    (s.gst.cursor = some cursor ∧ s.gst.moving = some id) ∨
      (s.gst.moving = none ∧ s.gst.nextMove = some (cursor, id) ∧ s.hpu.breakPending = false) →
    id < s.gst.entries.length →
    let e := s.gst.entry id
    let g := (e.size + 7) / 8
    let free := freeCarve cursor g (freeInsert e.base g s.gst.free)
    let moved : Gst := ⟨s.gst.entries.set id { e with base := cursor }, free, none, none⟩
    let ram := s.ram.writeBlock (26624 + 8 * cursor) (s.ram.readBlock (26624 + 8 * e.base) (8 * g))
    let u : State := { s with gst := moved, ram := ram }
    (∀ i < 8 * g, ram.read (26624 + 8 * cursor + i) = s.ram.read (26624 + 8 * e.base + i)) ∧
    (∀ a, a < 26624 + 8 * cursor ∨ 26624 + 8 * cursor + 8 * g ≤ a → ram.read a = s.ram.read a) ∧
    (s.gst.Wf → FreeListWf free ∧ ∀ x, (∃ f ∈ free, f.first ≤ x ∧ x < f.first + f.length) ↔
      ((∃ f ∈ s.gst.free, f.first ≤ x ∧ x < f.first + f.length) ∨ (e.base ≤ x ∧ x < e.base + g)) ∧
        ¬ (cursor ≤ x ∧ x < cursor + g)) ∧
    ∃ t, exec .glyphMove s = .next t ∧
      match moved.nextMove with
      | none => u.EndsAndFollows t .ok
      | some (c, i) =>
        if s.hpu.breakPending then u.EndsAndFollows t (.error .aborted none .nothing)
        else t.hpu = s.hpu ∧ t.csq = s.csq ∧
          ({ u with gst := if s.ring.composing = none then { moved with cursor := some c, moving := some i }
            else moved } : State).OnlyFollows t) ∧
  (∀ s : State, s.InService → s.csq.stage = .compacting → s.csq.block.head? ≠ some 0x12 → s.gst.moving = none →
    (s.gst.nextMove = none → ∃ t, exec .glyphMove s = .next t ∧ s.EndsAndFollows t .ok) ∧
    (s.gst.nextMove ≠ none → s.hpu.breakPending = true →
      ∃ t, exec .glyphMove s = .next t ∧ s.EndsAndFollows t (.error .aborted none .nothing))) ∧
  (∀ s : State, s.csq.stage ≠ .compacting → exec .glyphMove s = .next s)

/-- R43, R44, R46, R54, R89: the extents of glyphs and the free extents lie apart and cover no granule beyond the last,
the free list stays merged and in order, and a move in hand leads down into free granules: every step keeps this. While
it holds, a move changes no dot that any glyph gives: neither of the glyph moved nor of any other. -/
def Obligations.MovedGlyphsKeepTheirDots : Prop :=
  (∀ (s : State) (cursor id : Nat), s.gst.nextMove = some (cursor, id) → id < s.gst.entries.length →
    FreeListWf s.gst.free → s.gst.ExtentsApart →
    ∀ other < 64, (s.gst.entry other).state ≠ .empty → ∀ (form : Transform) (u v : Nat),
      let e := (s.gst.entry other)
      let e' := ((s.moveGlyph cursor id).gst.entry other)
      1 ≤ form.hm → 1 ≤ form.vm → u < (glyphFootprint e form 0 0).width → v < (glyphFootprint e form 0 0).height →
      e.size = (e.width + 7) / 8 * e.height →
      glyphSource (s.moveGlyph cursor id).ram e' form u v = glyphSource s.ram e form u v) ∧
  (∀ s t : State, s.GlyphsWf → step s = .next t → t.GlyphsWf)

/-! ### Labels -/

/-- R64: OPEN LABEL fills the lowest-numbered free slot; what refuses it are the ranges in byte order and then the
preconditions. -/
def Obligations.OpenLabelFillsAFreeSlot : Prop :=
  (∀ (s : State) (slot : Nat), s.Ready 0x41 → s.Clear → slot < 8 →
    let b := s.csq.block
    8 ≤ num16 b 4 → num16 b 4 ≤ 4096 →
    (s.nvs.profile.mode ≠ .continuous → num16 b 4 ≤ s.nvs.profile.pitch - s.nvs.profile.gap) → 1 ≤ num8 b 6 →
    s.lbq.openSlot = none → s.lbq.label slot = none → (∀ j < slot, s.lbq.label j ≠ none) →
    ∃ t, exec .openLabel s = .next t ∧ s.EndsWith t .ok ∧
      ({ s with lbq := { s.lbq with
        slots := s.lbq.slots.set slot
          (some ⟨half b 2, num16 b 4, num8 b 6, 0, .opened, false, [], 0⟩) } } : State).OnlyFollows t) ∧
  (∀ s : State, s.Ready 0x41 → s.Clear →
    let b := s.csq.block
    let bad (i : Nat) : Ending := .error .invalidParameter none (.detail (BitVec.ofNat 32 i))
    let ends (e : Ending) : Prop := ∃ t, exec .openLabel s = .next t ∧ s.SameEngine t ∧ s.EndsWith t e
    let fits := 8 ≤ num16 b 4 ∧ num16 b 4 ≤ 4096 ∧
      (s.nvs.profile.mode ≠ .continuous → num16 b 4 ≤ s.nvs.profile.pitch - s.nvs.profile.gap)
    (¬ fits → ends (bad 4)) ∧
    (fits → num8 b 6 = 0 → ends (bad 6)) ∧
    (∀ l, fits → 1 ≤ num8 b 6 → s.lbq.openLabel = some l →
      ends (.error .labelAlreadyOpen (some l.number) .nothing)) ∧
    (fits → 1 ≤ num8 b 6 → s.lbq.openLabel = none → (∀ i < 8, s.lbq.label i ≠ none) →
      ends (.error .queueFull none .nothing)))

/-- R47, R62, R63, R65, R66, R68, R71: what each of the four placements does at its commit, and with which remark it
ends; and what refuses it there, in order: the first glyph that is not DEFINED, the first whose references would pass
65,535, and the pool. A PLACE GLYPH names its glyph once, a PLACE TEXT one for each entry of its list, a rule and an image
none. -/
def Obligations.PlacementsJoinTheOpenLabel : Prop :=
  (∀ id x y op form, (Placement.glyph id x y op form).uses = [id]) ∧
  (∀ x y op form spacing ids, (Placement.text x y op form spacing ids).uses = ids) ∧
  (∀ x y w h op, (Placement.rule x y w h op).uses = []) ∧
  (∀ x y w h op bitmap, (Placement.image x y w h op bitmap).uses = []) ∧
  ∀ (s : State) (slot : Nat) (l : Label) (row : Instr) (p : Placement), s.Clear →
    s.lbq.openSlot = some slot → s.lbq.label slot = some l → l.placements.length < 255 →
    let b := s.csq.block
    (row = .placeGlyph ∧ s.Ready 0x42 ∧ num8 b 2 ≤ 63 ∧ num16 b 3 ≤ 831 ∧ num16 b 5 < l.length ∧ num8 b 7 ≤ 15 ∧
        p = .glyph (num8 b 2) (num16 b 3) (num16 b 5) (num8 b 7) (transformOf (byteAt b 8))) ∨
      (row = .placeText ∧ s.ReadyAgain 0x43 ∧ s.CrcGood ∧ (∀ i ∈ s.csq.body, i.toNat ≤ 63) ∧
        p = .text (num16 b 2) (num16 b 4) (num8 b 6) (transformOf (byteAt b 7)) (int8 b 8)
          (s.csq.body.map (·.toNat))) ∨
      (row = .placeRule ∧ s.Ready 0x44 ∧ num16 b 2 ≤ 831 ∧ num16 b 4 < l.length ∧ 1 ≤ num16 b 6 ∧ num16 b 6 ≤ 832 ∧
        1 ≤ num16 b 8 ∧ num16 b 8 ≤ 4096 ∧ num8 b 10 ≤ 15 ∧
        p = .rule (num16 b 2) (num16 b 4) (num16 b 6) (num16 b 8) (num8 b 10)) ∨
      (row = .placeImage ∧ s.ReadyAgain 0x45 ∧ s.CrcGood ∧
        p = .image (num16 b 2) (num16 b 4) (num16 b 6) (num16 b 8) (num8 b 10) s.csq.body) →
    let undefined := p.uses.find? fun id => decide ((s.gst.entry id).state ≠ .defined)
    let past := p.uses.find? fun id => decide (65535 < (s.gst.entry id).count + p.uses.count id)
    let ends (e : Ending) : Prop := ∃ t, exec row s = .next t ∧ s.SameEngine t ∧ s.EndsWith t e
    (∀ id, undefined = some id → ends (.error .glyphUndefined none (.glyph id))) ∧
    (∀ id, undefined = none → past = some id → ends (.error .glyphLimit none (.glyph id))) ∧
    (undefined = none → past = none → s.lbq.poolFree < p.cost / 8 →
      ends (.error .placementPoolFull (some l.number) (.detail (BitVec.ofNat 32 p.cost)))) ∧
    (undefined = none → past = none → p.cost / 8 ≤ s.lbq.poolFree →
      ∃ t, exec row s = .next t ∧
        s.EndsWith t (if p.clipped s.gst l.length then .notice 1 else .ok) ∧
        ({ s with
          gst := t.gst
          lbq := { s.lbq with
            slots := s.lbq.slots.set slot (some { l with
              placements := l.placements ++ [p], granules := l.granules + p.cost / 8 })
            poolFree := s.lbq.poolFree - p.cost / 8 } } : State).OnlyFollows t ∧
        t.gst = { s.gst with entries := t.gst.entries } ∧ t.gst.entries.length = s.gst.entries.length ∧
        ∀ id < s.gst.entries.length, t.gst.entry id =
          { s.gst.entry id with count := (s.gst.entry id).count + p.uses.count id })

/-- R63, R65 to R68, R94: what each placement costs, and when it is clipped, a text by any of its glyphs as they are
laid out along the baseline; what refuses a PLACE RULE, in order: the origin, the ranges, no label open, the list full,
the pool; what refuses a PLACE GLYPH before its glyph is looked at; and the first id above 63 in a PLACE TEXT's list
refuses it. -/
def Obligations.PlacementsAreCostedAndRefusedInOrder : Prop :=
  ((∀ id x y op form, (Placement.glyph id x y op form).cost = 16) ∧
  (∀ x y op form spacing ids, (Placement.text x y op form spacing ids).cost = 16 + 8 * ((ids.length + 7) / 8)) ∧
  (∀ x y w h op, (Placement.rule x y w h op).cost = 16) ∧
  (∀ x y w h op bitmap, (Placement.image x y w h op bitmap).cost = 16 + 8 * (((w + 7) / 8 * h + 7) / 8)) ∧
  (∀ (g : Gst) (length x y w h op : Nat),
    ((Placement.rule x y w h op).clipped g length = true ↔ 832 < x + w ∨ length < y + h)) ∧
  (∀ (g : Gst) (length x y w h op : Nat) (bitmap : List Byte),
    ((Placement.image x y w h op bitmap).clipped g length = true ↔ 832 < x + w ∨ length < y + h)) ∧
  (∀ (g : Gst) (length id x y op : Nat) (form : Transform),
    let e := g.entry id
    let across := if form.turns % 2 = 0 then e.width * form.hm else e.height * form.vm
    let down := if form.turns % 2 = 0 then e.height * form.vm else e.width * form.hm
    ((Placement.glyph id x y op form).clipped g length = true ↔ 832 < x + across ∨ length < y + down)) ∧
  (∀ (g : Gst) (length x y op : Nat) (form : Transform) (spacing : Int) (ids : List Nat),
    let wide (id : Nat) : Int := ((g.entry id).width * form.hm : Nat)
    let high (id : Nat) : Int := ((g.entry id).height * form.vm : Nat)
    ((Placement.text x y op form spacing ids).clipped g length = true ↔
      ∃ before id after, ids = before ++ id :: after ∧
        let moved := (before.map fun i => wide i + spacing).sum
        let outside (left top across down : Int) : Prop :=
          left < 0 ∨ top < 0 ∨ 832 < left + across ∨ length < top + down
        match form.turns % 4 with
        | 0 => outside (x + moved) y (wide id) (high id)
        | 1 => outside x (y + moved) (high id) (wide id)
        | 2 => outside (x - moved - wide id + 1) y (wide id) (high id)
        | _ => outside x (y - moved - wide id + 1) (high id) (wide id)))) ∧
  (∀ s : State, s.Ready 0x44 → s.Clear →
    let b := s.csq.block
    let number := s.lbq.openLabel.map (·.number)
    let outside (i : Nat) : Ending := .error .placementOutsideLabel number (.detail (BitVec.ofNat 32 i))
    let bad (i : Nat) : Ending := .error .invalidParameter none (.detail (BitVec.ofNat 32 i))
    let ends (e : Ending) : Prop := ∃ t, exec .placeRule s = .next t ∧ s.SameEngine t ∧ s.EndsWith t e
    let low := ∀ l, s.lbq.openLabel = some l → num16 b 4 < l.length
    (831 < num16 b 2 → ends (outside 2)) ∧
    (num16 b 2 ≤ 831 → ¬ low → ends (outside 4)) ∧
    (num16 b 2 ≤ 831 → low → (num16 b 6 = 0 ∨ 832 < num16 b 6) → ends (bad 6)) ∧
    (num16 b 2 ≤ 831 → low → 1 ≤ num16 b 6 → num16 b 6 ≤ 832 → (num16 b 8 = 0 ∨ 4096 < num16 b 8) →
      ends (bad 8)) ∧
    (num16 b 2 ≤ 831 → low → 1 ≤ num16 b 6 → num16 b 6 ≤ 832 → 1 ≤ num16 b 8 → num16 b 8 ≤ 4096 →
      (15 < num8 b 10 → ends (bad 10)) ∧
      (num8 b 10 ≤ 15 → s.lbq.openSlot = none → ends (.error .noOpenLabel none .nothing)) ∧
      (∀ slot l, num8 b 10 ≤ 15 → s.lbq.openSlot = some slot → s.lbq.label slot = some l →
        (255 ≤ l.placements.length → ends (bad 0)) ∧
        (l.placements.length < 255 → s.lbq.poolFree < 2 →
          ends (.error .placementPoolFull (some l.number) (.detail 16)))))) ∧
  (∀ (s : State) (k : Nat), s.ReadyAgain 0x43 → s.Clear → s.CrcGood → k < s.csq.body.length →
    63 < num8 s.csq.body k → (∀ j < k, num8 s.csq.body j ≤ 63) →
    ∃ t, exec .placeText s = .next t ∧ s.SameEngine t ∧
      s.EndsWith t (.error .invalidParameter none (.detail (BitVec.ofNat 32 (12 + k))))) ∧
  (∀ s : State, s.Ready 0x42 → s.Clear →
    let b := s.csq.block
    let bad (i : Nat) : Ending := .error .invalidParameter none (.detail (BitVec.ofNat 32 i))
    let outside (i : Nat) : Ending :=
      .error .placementOutsideLabel (s.lbq.openLabel.map (·.number)) (.detail (BitVec.ofNat 32 i))
    let checks : List (Bool × Ending) := [(decide (num8 b 2 ≤ 63), bad 2), (decide (num16 b 3 ≤ 831), outside 3),
      (s.lbq.openLabel.all fun l => decide (num16 b 5 < l.length), outside 5), (decide (num8 b 7 ≤ 15), bad 7),
      (s.lbq.openSlot.isSome, .error .noOpenLabel none .nothing),
      (s.lbq.openLabel.all fun l => decide (l.placements.length < 255), bad 0)]
    ∀ before e after, checks = before ++ (false, e) :: after → (∀ f ∈ before, f.1 = true) →
      ∃ t, exec .placeGlyph s = .next t ∧ s.SameEngine t ∧ s.EndsWith t e)

/-- R61, R72, R81, R85, R86: CLOSE LABEL puts the open label at the tail of the print queue, ACTIVE if the queue was
empty, and seats an idle composer cursor at its first line; with no label open it is refused. The composer claims the
band at the tail for the lines that the cursor names when that band is FREE and the one before it is READY or PRINTING,
or every band is FREE; otherwise it claims nothing. -/
def Obligations.CloseLabelJoinsThePrintQueue : Prop :=
  (∀ (s : State) (slot : Nat) (l : Label), s.Ready 0x46 → s.Clear →
    s.lbq.openSlot = some slot → s.lbq.label slot = some l →
    ∃ t, exec .closeLabel s = .next t ∧ s.EndsWith t .ok ∧
      ({ s with
        lbq := { s.lbq with
          slots := s.lbq.slots.set slot
            (some { l with state := if s.lbq.queue = [] then .active else .queued, done := 0 })
          queue := s.lbq.queue ++ [slot] }
        ring := { s.ring with seat := some (s.ring.seat.getD ⟨slot, 1, 0⟩) } } : State).OnlyFollows t ∧
      t.ring.seat = some (s.ring.seat.getD ⟨slot, 1, 0⟩)) ∧
  (∀ u : State,
    (u.ring.seat = none → u.claim = u) ∧
    (∀ c l, u.ring.seat = some c → u.lbq.label c.slot = some l → u.ring.bands.length = 16 → u.ring.tail < 16 →
      let before := u.ring.band (u.ring.tail + 15)
      let may := (u.ring.band u.ring.tail).state = .free ∧
        ((∀ b ∈ u.ring.bands, b.state = .free) ∨ before.state = .ready ∨ before.state = .printing)
      (¬ may → u.claim = u) ∧
      (may → u.claim = { u with ring := { u.ring with
        bands := u.ring.bands.set u.ring.tail
          ⟨.composing, c.slot, l.number, c.copy, c.line, min 16 (l.length - c.line), []⟩
        tail := (u.ring.tail + 1) % 16 } }))) ∧
  (∀ s : State, s.Ready 0x46 → s.Clear → s.lbq.openSlot = none →
    ∃ t, exec .closeLabel s = .next t ∧ s.SameEngine t ∧ s.EndsWith t (.error .noOpenLabel none .nothing))

/-- R48, R49, R60, R63, R73, R117: DISCARD LABEL removes the open label, and with none open it is refused. A label that
is removed leaves its slot free and its granules returned; it is out of the queue, the label behind it is ACTIVE, the
references of its placements have fallen, id by id, and neither the printing copy, the interrupted copy nor the underrun
record names it. No byte of memory has changed, also where the removal has abandoned a glyph move (the model's choice,
log 51). Every granule of the pool is free or used by exactly one label, in every step. -/
def Obligations.DiscardedAndRemovedLabelsLeaveNoTrace : Prop :=
  (∀ (s : State) (slot : Nat) (l : Label), s.Ready 0x47 → s.Clear →
    s.lbq.openSlot = some slot → s.lbq.label slot = some l →
    ∃ t, exec .discardLabel s = .next t ∧ s.EndsWith t .ok ∧ (s.vacate slot l).OnlyFollows t) ∧
  (∀ (s : State) (slot : Nat) (l : Label), s.lbq.queue.Nodup →
    let t := s.vacate slot l
    let dropped := (List.range 64).foldl (State.dropReference l.number (l.placements.flatMap Placement.uses)) s
    t.lbq.label slot = none ∧ t.lbq.poolFree = s.lbq.poolFree + l.granules ∧
    t.lbq.queue = s.lbq.queue.filter (fun i => i != slot) ∧
    t.lbq.printing = s.lbq.printing.filter (fun p => p.slot != slot) ∧
    (∀ head h, t.lbq.queue.head? = some head → t.lbq.label head = some h → h.state = .active) ∧
    (∀ i, i ≠ slot → t.lbq.queue.head? ≠ some i → t.lbq.label i = s.lbq.label i) ∧
    t.gst = dropped.gst ∧
    t.eng = { dropped.eng with interrupted := s.eng.interrupted.filter fun c => c.slot != slot } ∧
    t.fmu = { s.fmu with underrun := s.fmu.underrun.filter fun c => c.slot != slot } ∧
    t.lbq.gate = s.lbq.gate ∧ t.hpu = s.hpu ∧ t.csq = s.csq ∧ t.ring = s.ring ∧ t.hdu = s.hdu ∧ t.msu = s.msu ∧
    t.nvs = s.nvs ∧ t.ram = s.ram ∧ t.strap = s.strap ∧ t.pending = s.pending) ∧
  (∀ s t : State, s.lbq.PoolBalanced → step s = .next t → t.lbq.PoolBalanced) ∧
  (∀ s : State, s.Ready 0x47 → s.Clear → s.lbq.openSlot = none →
    ∃ t, exec .discardLabel s = .next t ∧ s.SameEngine t ∧ s.EndsWith t (.error .noOpenLabel none .nothing))

/-- R31, R47 to R49: one id of a removed label: its count falls by its occurrences; a DOOMED glyph that reaches 0 is
released from its extent and reported with the label's number, and no other entry changes; a move of that glyph is
abandoned, and a move of another goes on. All 64 ids of a removed label, in increasing order: each entry falls by the
occurrences of its own id in the label's placements, and the reports stand in the order of the ids. That no byte of
memory has changed where the glyph released is the one being moved, its destination granules holding what they held
before the move, is the model's choice (log 51). -/
def Obligations.ReferencesFallOneIdAtATime : Prop :=
  (∀ (s : State) (number : Half) (ids : List Nat) (id : Nat),
    let e := s.gst.entry id
    let n := ids.count id
    let t := State.dropReference number ids s id
    (n = 0 → t = s) ∧
    (0 < n → e.state = .doomed → e.count ≤ n →
      t.gst.entries = s.gst.entries.set id ⟨.empty, 0, 0, 0, 0, 0⟩ ∧
      t.gst.free = freeInsert e.base ((e.size + 7) / 8) s.gst.free ∧
      t.gst.cursor = (if s.gst.moving = some id then none else s.gst.cursor) ∧
      t.gst.moving = (if s.gst.moving = some id then none else s.gst.moving) ∧
      t.ram = s.ram ∧ t.eng = (s.post ⟨.glyphReleased, 0, number, BitVec.ofNat 16 id⟩).eng) ∧
    (0 < n → ¬ (e.state = .doomed ∧ e.count ≤ n) →
      t = { s with gst := { s.gst with entries := s.gst.entries.set id { e with count := e.count - n } } })) ∧
  (∀ (s : State) (slot : Nat) (l : Label), s.gst.entries.length = 64 →
    let uses := l.placements.flatMap Placement.uses
    let e (id : Nat) : Glyph := s.gst.entry id
    let released (id : Nat) : Prop := 0 < uses.count id ∧ (e id).state = .doomed ∧ (e id).count ≤ uses.count id
    let t := s.vacate slot l
    (∀ id < 64, t.gst.entry id =
      if released id then ⟨.empty, 0, 0, 0, 0, 0⟩ else { e id with count := (e id).count - uses.count id }) ∧
    (∀ id < 64, s.gst.moving = some id → released id → t.gst.cursor = none ∧ t.gst.moving = none) ∧
    ((∀ id < 64, s.gst.moving = some id → ¬ released id) →
      t.gst.cursor = s.gst.cursor ∧ t.gst.moving = s.gst.moving) ∧
    t.eng.events = (((List.range 64).filter fun id => decide (released id)).foldl
      (fun u id => u.post ⟨.glyphReleased, 0, l.number, BitVec.ofNat 16 id⟩) s).eng.events)

/-- R75 to R79, R84, R96, R97, R142, Table 4-5: CANCEL LABELS deals with its targets one after another in print-queue
order, cuts the ring once, seats the cursor again, and reports a queue that has become empty last; with no target it is
refused, or succeeds when all labels were asked for. A PAUSED engine whose queue it empties is IDLE; where no run is on
and none may start the condition is otherwise unchanged. A target with no copy printing is removed, one that is printing
is allowed to finish or abandoned. The cut is the first band of a label removed or abandoned, or of a later copy of one
allowed to finish; that band and every band after it are FREE, the bands before it stay, and the cursor takes the line
behind the last READY or PRINTING band in the remaining print order, or the start of that order. That the completion
byte shows the engine after what follows in the same step, so that an automatic present which the cancel brings shows as
MOTION, is the model's choice (log 31). -/
def Obligations.CancelLabelsDealsWithItsTargets : Prop :=
  (∀ s : State, s.Ready 0x48 → s.Clear →
    let all := (byteAt s.csq.block 1).getLsbD 0
    let immediate := (byteAt s.csq.block 1).getLsbD 6
    let number := half s.csq.block 2
    let targets := s.lbq.queue.filter fun slot =>
      match s.lbq.label slot with | some l => all || l.number == number | none => false
    let prints (slot : Nat) : Bool := s.lbq.printing.any fun p => p.slot == slot
    let cut (b : Band) : Bool := targets.contains b.slot &&
      (immediate || !prints b.slot || s.lbq.printing.any fun p => decide (p.copy < b.copy))
    let dealt := targets.foldl (State.cancelOne immediate) s
    let seated := ({ dealt with ring := s.ring.truncate cut } : State).reseat
    ∃ t, exec .cancelLabels s = .next t ∧
      (targets = [] → all = true → s.OnlyFollows t ∧ s.EndsWith t .ok) ∧
      (targets = [] → all = false → s.SameEngine t ∧
        s.EndsWith t (.error .labelNotFound (some number) .nothing)) ∧
      (targets ≠ [] → s.EndsWith t .ok ∧
        (if seated.lbq.queue = [] then seated.post ⟨.queueIdle, 0, 0xFFFF, 0⟩ else seated).OnlyFollows t ∧
        (s.inRun = false → s.mayRun = false →
          t.eng.cond = if s.eng.cond = .paused ∧ seated.lbq.queue = [] then .idle else s.eng.cond))) ∧
  (∀ (s : State) (immediate : Bool) (slot : Nat) (l : Label), s.lbq.label slot = some l →
    let printing := s.lbq.printing.any fun p => p.slot == slot
    let report (attr : Byte) : Event := ⟨.labelCancelled, attr, l.number, BitVec.ofNat 16 l.done⟩
    let t := State.cancelOne immediate s slot
    (printing = false → t = (s.post (report 0)).vacate slot l) ∧
    (printing = true → immediate = true → t = (s.post (report 2)).vacate slot l) ∧
    (printing = true → immediate = false → l.finishing = true → t = s) ∧
    (printing = true → immediate = false → l.finishing = false →
      t = ({ s with lbq := { s.lbq with
        slots := s.lbq.slots.set slot (some { l with finishing := true }) } } : State).post (report 1))) ∧
  (∀ (r : Ring) (cut : Band → Bool), r.head < 16 →
    let kept := (r.run.takeWhile fun b => !cut b).length
    (kept = r.run.length → r.truncate cut = r) ∧
    (kept < r.run.length →
      (r.truncate cut).head = r.head ∧ (r.truncate cut).tail = (r.head + kept) % 16 ∧
      (r.truncate cut).seat = r.seat ∧
      ∀ j < 16, (r.truncate cut).band (r.head + j) = if j < kept then r.band (r.head + j) else .blank)) ∧
  (∀ s : State,
    let last := (s.ring.run.filter fun b => b.state == .ready || b.state == .printing).getLast?
    let seat (x : Option Seat) : Prop := s.reseat = { s with ring := { s.ring with seat := x } }
    let first (slot : Option Nat) : Option Seat :=
      slot.bind fun i => (s.lbq.label i).map fun l => ⟨i, l.done + 1, 0⟩
    (last = none →
      (∀ p, s.lbq.printing = some p → seat (some ⟨p.slot, p.copy, p.passed / 16 * 16⟩)) ∧
      (s.lbq.printing = none → seat (first s.lbq.queue.head?))) ∧
    (∀ b l, last = some b → s.lbq.label b.slot = some l →
      (b.first + 16 < l.length → seat (some ⟨b.slot, b.copy, b.first + 16⟩)) ∧
      (l.length ≤ b.first + 16 → b.copy < l.copies → l.finishing = false → seat (some ⟨b.slot, b.copy + 1, 0⟩)) ∧
      (∀ before behind, l.length ≤ b.first + 16 → l.copies ≤ b.copy ∨ l.finishing = true →
        s.lbq.queue = before ++ b.slot :: behind → b.slot ∉ before → seat (first behind.head?))))

/-- R80, R116, R142: SET RUN GATE sets the gate as asked, or refuses any other value. A run that rests at S or below
before line 0 of a next copy ends in PAUSED as the gate closes. That the completion byte shows the engine after what
follows in the same step, so that an automatic present which the gate brings shows as MOTION, is the model's choice (log
31). -/
def Obligations.SetRunGateSetsTheGate : Prop :=
  ∀ s : State, s.Ready 0x49 → s.Clear →
    let u : State := { s with lbq := { s.lbq with gate := decide (num8 s.csq.block 2 = 1) } }
    (num8 s.csq.block 2 ≤ 1 → ∃ t, exec .setRunGate s = .next t ∧ s.EndsWith t .ok ∧ u.OnlyFollows t ∧
      (u.claim.inRun = true → u.claim.horizon.count = 0 → u.claim.horizon.beyond = .gateClosed →
        u.fmu.speed ≤ u.nvs.mech.startSpeed →
        ({ u with fmu := u.fmu.atRest, eng := { u.eng with cond := .paused } } : State).OnlyRests t)) ∧
    (1 < num8 s.csq.block 2 → ∃ t, exec .setRunGate s = .next t ∧ s.SameEngine t ∧
      s.EndsWith t (.error .invalidParameter none (.detail 2)))

/-! ### Motion commands and the RAM test -/

/-- R33, R34, R122, R123: FEED, PRESENT and RETRACT put their free move in hand; a detached one completes now, an
attached one when the motion has ended. One that has no motion to make completes at once. Nothing moves yet. -/
def Obligations.MovesArePutInHand : Prop :=
  ∀ s : State, s.MayMove → s.Clear →
    let detached := (byteAt s.csq.block 1).getLsbD 7
    let begins (row : Instr) (code : Byte) (f : Fmu) (m : Msu) : Prop := ∃ t, exec row s = .next t ∧
      ({ s with
        fmu := { f with
          mode := .freeMove, rest := .none, motion := some ⟨code, if detached then .detached else .attached⟩ }
        msu := m } : State).OnlyRests t ∧
      if detached then s.EndsWith t .ok else t.hpu = s.hpu ∧ t.csq = { s.csq with stage := .moving }
    (s.Ready 0x51 →
      let d := int16 s.csq.block 2
      let v := num16 s.csq.block 4
      d ≥ -1024 → v = 0 ∨ (50 ≤ v ∧ v ≤ 1600) →
      (d = 0 → ∃ t, exec .feed s = .next t ∧ s.EndsAndFollows t .ok) ∧
      (d ≠ 0 → begins .feed 0x51
        { s.fmu with
          move := .feed (decide (d < 0)) v, target := some (s.fmu.pos + BitVec.ofInt 32 d), present := .atPrintLine }
        { s.msu with
          reg := ⟨.unknown, none, false, 0⟩
          edges := if d < 0 then [] else s.msu.edges
          lastEdge := if d < 0 then none else s.msu.lastEdge })) ∧
    (s.Ready 0x54 →
      let tear := s.nvs.mech.tearOffset
      (s.fmu.present = .presented → ∃ t, exec .present s = .next t ∧ s.EndsAndFollows t .ok) ∧
      (s.fmu.present ≠ .presented → tear = 0 → ∃ t, exec .present s = .next t ∧
        ({ s with fmu := { s.fmu with present := .presented, offset := 0 } } : State).EndsAndFollows t .ok) ∧
      (s.fmu.present ≠ .presented → tear ≠ 0 → begins .present 0x54
        { s.fmu with
          move := .present, target := some (s.fmu.pos + BitVec.ofNat 32 tear), present := .presenting, offset := tear }
        s.msu)) ∧
    (s.Ready 0x55 →
      (s.fmu.present = .atPrintLine → ∃ t, exec .retract s = .next t ∧ s.EndsAndFollows t .ok) ∧
      (s.fmu.present ≠ .atPrintLine → s.fmu.offset = 0 → ∃ t, exec .retract s = .next t ∧
        ({ s with fmu := { s.fmu with present := .atPrintLine } } : State).EndsAndFollows t .ok) ∧
      (s.fmu.present ≠ .atPrintLine → s.fmu.offset ≠ 0 → begins .retract 0x55
        { s.fmu with
          move := .retract, target := some (s.fmu.pos - BitVec.ofNat 32 s.fmu.offset), present := .retracting }
        s.msu))

/-- R111, R129, R131, R134 to R137: ADVANCE TO EDGE and CALIBRATE MEDIA put their search in hand. In CONTINUOUS mode the
first is a plain forward move of n pitches, and the second is refused. With the media already at the edge asked for, the
first completes at once. At each step an edge find counts the edges that leave room to stop, in queue order, removes
those that do not, and takes the last one's top for its target; at that target, before any stop for a fault, the edges
up to the last one counted leave the queue and it is the decided top; the find fails after 2 x pitch steps without one,
and one of the engine's own then loses registration. A calibration surveys the levels for 4,608 steps, measures E1, M and E2
within 8,256, and stops at the top of E2, where the profile takes what was measured. A change to MARKER counts as
entered in the step that completes it (the model's choice, log 47). -/
def Obligations.SearchesArePutInHand : Prop :=
  (∀ s : State, s.MayMove → s.Clear → s.msu.absent = false →
    let detached := (byteAt s.csq.block 1).getLsbD 7
    let n := num8 s.csq.block 2
    let lost : Registration := ⟨.unknown, none, false, 0⟩
    let begins (row : Instr) (code : Byte) (f : Fmu) (m : Msu) : Prop := ∃ t, exec row s = .next t ∧
      ({ s with
        fmu := { f with
          mode := .freeMove, rest := .none, present := .atPrintLine
          motion := some ⟨code, if detached then .detached else .attached⟩ }
        msu := m } : State).OnlyRests t ∧
      if detached then s.EndsWith t .ok else t.hpu = s.hpu ∧ t.csq = { s.csq with stage := .moving }
    (s.Ready 0x52 → 1 ≤ n → n ≤ 16 →
      (s.nvs.profile.mode = .continuous →
        let pitch := match s.msu.lastLen with | some l => l + s.nvs.profile.gap | none => s.nvs.profile.pitch
        begins .advanceToEdge 0x52
          { s.fmu with move := .advance, target := some (s.fmu.pos + BitVec.ofNat 32 (n * pitch)) }
          { s.msu with reg := lost }) ∧
      (s.nvs.profile.mode ≠ .continuous →
        let ahead := s.msu.edges.filter fun e => decide (0 < (e - s.fmu.pos).toInt)
        let u := s.beginFind n
        (ahead = [] → u = { s with
          fmu := { s.fmu with move := .find, target := none, rest := .none }
          msu := { s.msu with reg := lost, edges := [], find := some ⟨n, none, 0⟩ } }) ∧
        (u.findReached = false → begins .advanceToEdge 0x52 u.fmu u.msu) ∧
        (u.findReached = true →
          let printLine : State := { u with fmu := { u.fmu with present := .atPrintLine } }
          ∃ t, exec .advanceToEdge s = .next t ∧ printLine.takeFind.toStopped.EndsAndFollows t .ok))) ∧
    (s.Ready 0x53 →
      (s.nvs.profile.mode = .continuous → ∃ t, exec .calibrateMedia s = .next t ∧ s.SameEngine t ∧
        s.EndsWith t (.error .invalidParameter none (.detail 0))) ∧
      (s.nvs.profile.mode ≠ .continuous → begins .calibrateMedia 0x53
        { s.fmu with move := .calibrate, target := none }
        { s.msu with
          reg := lost, edges := [], lastEdge := none
          calib := some ⟨.survey, 0, 255, 0, 0, false, none, none, 0, 0, 0⟩ }))) ∧
  (∀ (s : State) (n : Nat),
    s.beginFind n = ({ s with
      fmu := { s.fmu with move := .find, target := none, rest := .none }
      msu := { s.msu with
        reg := ⟨.unknown, none, false, 0⟩, find := some ⟨n, none, 0⟩
        edges := s.msu.edges.filter fun e => decide (0 < (e - s.fmu.pos).toInt) } } : State).countEdges ∧
    (s.findReached = true ↔ ∃ f, s.msu.find = some f ∧ f.need = 0 ∧ s.fmu.target = some s.fmu.pos)) ∧
  (∀ (s : State) (f : Find), s.msu.find = some f →
    let reach (e : Pos) : Bool := decide
      ((((s.fmu.speed - s.nvs.mech.startSpeed + s.nvs.profile.accel - 1) / s.nvs.profile.accel : Nat) : Int) ≤
        (e - s.fmu.pos).toInt - 1)
    let behind := match f.last with
      | none => []
      | some x => s.msu.edges.takeWhile fun e => decide (0 ≤ (x - e).toInt)
    let fresh := s.msu.edges.drop behind.length
    let counted := (fresh.filter reach).take f.need
    let left (edges : List Pos) : State := { s with msu := { s.msu with edges := edges } }
    (f.need = 0 → s.countEdges = s) ∧
    (0 < f.need → counted = [] → s.countEdges = left behind) ∧
    (∀ e, counted.getLast? = some e →
      let found (edges : List Pos) : State := { s with
        msu := { s.msu with edges := edges, find := some ⟨f.need - counted.length, some e, 0⟩ }
        fmu := { s.fmu with target := if counted.length = f.need then some (e - 1) else s.fmu.target } }
      (counted.length < f.need → s.countEdges = found (behind ++ counted)) ∧
      (∀ before after, fresh = before ++ e :: after → reach e = true → (before.filter reach).length + 1 = f.need →
        s.countEdges = found (behind ++ counted ++ after))) ∧
    let u := ({ s with msu := { s.msu with find := some ⟨f.need, f.last, f.steps + 1⟩ } } : State).countEdges
    (u.findReached = true → s.findStep = (u, .found)) ∧
    (∀ g, u.findReached = false → u.msu.find = some g → s.findStep =
      (u, if 0 < g.need ∧ 2 * s.nvs.profile.pitch ≤ g.steps then .searchFailed else .goesOn))) ∧
  (∀ (s : State) (c : Calib) (level : Byte) (change : Option ClassChange), s.msu.calib = some c →
    let holds (x : Calib) : State := { s with msu := { s.msu with calib := some x } }
    let fails : MoveEnd := .calibrationFailed (.error .calibrationFailed none (.position s.fmu.pos))
    let fits (x : Calib) : Prop := ∀ l, some l ∈ s.lbq.slots → l.length ≤ x.pitch - x.gap
    let finish (x : Calib) (m : MoveEnd) : Prop :=
      (s.fmu.pos ≠ x.top - 1 → m = .goesOn) ∧ (s.fmu.pos = x.top - 1 → fits x → m = .calibrated) ∧
      (s.fmu.pos = x.top - 1 → ¬ fits x → m = fails)
    let r := s.calibStep level change
    let low := min c.lowest level.toNat
    let high := max c.highest level.toNat
    let surveyed : Calib := { c with steps := c.steps + 1, lowest := low, highest := high }
    let stepped : Calib := { c with
      steps := c.steps + 1, entered := c.entered || change.any fun x => x.after == .marker }
    let goes (x : Calib) : Prop := r = (holds x, if 8256 ≤ c.steps + 1 then fails else .goesOn)
    (c.phase = .survey →
      (c.steps + 1 < 4608 → r = (holds surveyed, .goesOn)) ∧
      (4608 ≤ c.steps + 1 → high - low < 24 → r = (holds surveyed,
        .calibrationFailed (.error .noContrast none (.detail (BitVec.ofNat 32 (high - low)))))) ∧
      (4608 ≤ c.steps + 1 → 24 ≤ high - low →
        (s.nvs.profile.empty ≤ (low + high) / 2 → r = (holds surveyed, fails)) ∧
        ((low + high) / 2 < s.nvs.profile.empty →
          r = (holds { surveyed with phase := .measure, steps := 0, threshold := (low + high) / 2 }, .goesOn)))) ∧
    (c.phase = .measure →
      (∀ x, change = some ⟨.marker, .media, x⟩ → c.e1 = none →
        goes { stepped with e1 := if c.entered then some x else none }) ∧
      (∀ x e, change = some ⟨.media, .marker, x⟩ → c.e1 = some e → c.m = none → goes { stepped with m := some x }) ∧
      ((∀ x, change ≠ some ⟨.marker, .media, x⟩) → (∀ x, change ≠ some ⟨.media, .marker, x⟩) → goes stepped) ∧
      (∀ x e, change = some ⟨.marker, .media, x⟩ → c.e1 = some e → c.m = none → goes stepped) ∧
      (∀ x, change = some ⟨.media, .marker, x⟩ → c.e1 = none ∨ c.m ≠ none → goes stepped) ∧
      (∀ x e m, change = some ⟨.marker, .media, x⟩ → c.e1 = some e → c.m = some m →
        let pitch := (x - e).toInt
        let gap := (x - m).toInt
        let top := x + BitVec.ofInt 32 (s.nvs.mech.sensorOffset + s.nvs.profile.adjust)
        let good := 16 ≤ pitch ∧ pitch ≤ 4096 ∧ 2 ≤ gap ∧ gap ≤ 512 ∧ gap < pitch ∧ 2 ≤ gap / 2 ∧
          0 ≤ (top - 1 - s.fmu.pos).toInt
        let measured : Calib := { stepped with
          phase := .finishing, steps := 0, top := top, pitch := pitch.toNat, gap := gap.toNat }
        (good → r.1 = { holds measured with fmu := { s.fmu with target := some (top - 1) } } ∧
          finish measured r.2) ∧
        (¬ good → r = (holds stepped, fails)))) ∧
    (c.phase = .finishing → r.1 = s ∧ finish c r.2)) ∧
  (∀ (w : State) (c : Calib), w.msu.calib = some c → w.fmu.mode = .freeMove →
    let p := w.nvs.profile
    ({ w with
      fmu := w.fmu.atRest
      nvs := { w.nvs with profile := { p with
        marker := c.threshold, pitch := c.pitch, gap := c.gap, tolerance := min p.tolerance (c.gap / 2) } }
      msu := { w.msu with
        calib := none, edges := [], lastEdge := some c.top, reg := ⟨.registered, some c.top, true, 0⟩ }
      } : State).MotionOver (w.endOfStep .calibrated) .ok) ∧
  (∀ (s : State) (under : Bool) (level : Byte) (change : Option ClassChange),
    let w := if under then s.decideWindow else (s, false)
    let r := if w.1.msu.calib ≠ none then w.1.calibStep level change else w.1.findStep
    let d := s.decide4 under level change
    let engine := s.eng.cond = .running ∨ s.eng.cond = .recovering
    (w.1.msu.calib = none → w.1.msu.find = none → r = (w.1, .goesOn)) ∧
    (r.2 = .searchFailed → engine → d.state = ({ r.1 with
        msu := { r.1.msu with find := none, reg := ⟨.unknown, none, false, 0⟩ } } : State).post
          ⟨.registrationLost, 0, 0xFFFF, s.fmu.pos.setWidth 16⟩ ∧ d.lost = true ∧ d.move = .goesOn) ∧
    (r.2 = .found → d.lost = w.2 ∧ d.move = .found ∧ d.state = { r.1 with
      fmu := { r.1.fmu with target := none, speed := 0 }
      msu := { r.1.msu with
        find := none, reg := ⟨.registered, some (r.1.fmu.pos + 1), true, 0⟩
        edges := r.1.msu.edges.dropWhile fun e => decide ((e - (r.1.fmu.pos + 1)).toInt ≤ 0) } }) ∧
    (r.2 ≠ .found → r.2 ≠ .searchFailed ∨ ¬ engine → d.state = r.1 ∧ d.lost = w.2 ∧ d.move = r.2))

/-- R147 to R149: RESUME on an engine that is not HALTED succeeds with no effect; on a clear halt it applies the
disposition and recovers, and so does AUTO_RECOVER with the profile's disposition and no free motion. DISCARD removes
the interrupted copy's label, reports it with attribute 3 and QUEUE IDLE where the queue has become empty, cuts its
bands off the ring and seats the cursor again. The recovery's edge find waits for a stop in progress; where it has its
edge at once, and in CONTINUOUS mode, the next line is the top and the engine has recovered. A recovered engine is IDLE
with an empty queue, and otherwise begins a run, RUNNING, HOLDING with HOLD posted where the head is HOT, or PAUSED at a
closed gate; then RECOVERED is posted, and the RESUME completes, or MOVE DONE is posted. The order of RECOVERED with
what comes beside it, that a detached RESUME completes at its disposition, that QUEUE IDLE comes before the RECOVERED
and MOVE DONE of the same step, and that AUTO_RECOVER changes nothing while the settle timer is stopped, are the model's
choice (logs 26, 27, 53, 11). -/
def Obligations.ResumeRecoversTheEngine : Prop :=
  (∀ s : State, s.Ready 0x56 → s.Clear → s.fmu.motion = none →
    s.eng.cond = .idle ∨ s.eng.cond = .paused →
    ∃ t, exec .resume s = .next t ∧ s.EndsAndFollows t .ok) ∧
  (∀ s : State, s.Ready 0x56 → s.Clear → s.fmu.motion = none → s.eng.cond = .halted → s.haltClear = true →
    let detached := (byteAt s.csq.block 1).getLsbD 7
    let discard := if (byteAt s.csq.block 1).getLsbD 0 then (byteAt s.csq.block 1).getLsbD 1 else s.nvs.profile.discard
    let u := s.enterRecovery discard
    let v := if s.fmu.mode = .stopping then u else u.beginFind 1
    s.fmu.mode = .stopping ∨ (s.nvs.profile.mode ≠ .continuous ∧ v.findReached = false) →
    ∃ t, exec .resume s = .next t ∧
      ({ v with fmu := { v.fmu with
        mode := if s.fmu.mode = .stopping then .stopping else .freeMove
        motion := some ⟨0x56, if detached then .detached else .attached⟩ } } : State).OnlyRests t ∧
      if detached then u.EndsWith t .ok else t.hpu = s.hpu ∧ t.csq = { s.csq with stage := .moving }) ∧
  (∀ s : State, s.InService → s.eng.settle ≠ none → s.eng.cond = .halted →
    s.csq.stage ≠ .waiting → s.csq.stage ≠ .compacting →
    let u := s.enterRecovery s.nvs.profile.discard
    let v := if s.fmu.mode = .stopping then u else u.beginFind 1
    s.fmu.mode = .stopping ∨ (s.nvs.profile.mode ≠ .continuous ∧ v.findReached = false) →
    ∃ t, exec .autoRecover s = .next t ∧ t.hpu = s.hpu ∧ t.csq = s.csq ∧
      ({ v with fmu := { v.fmu with
        mode := if s.fmu.mode = .stopping then .stopping else .freeMove } } : State).OnlyRests t) ∧
  (∀ s : State, s.Ready 0x56 → s.Clear → s.fmu.motion = none → s.eng.cond = .halted → s.haltClear = true →
    let detached := (byteAt s.csq.block 1).getLsbD 7
    let discard := if (byteAt s.csq.block 1).getLsbD 0 then (byteAt s.csq.block 1).getLsbD 1 else s.nvs.profile.discard
    let u := s.enterRecovery discard
    let going : State := { u with
      fmu := { u.fmu with motion := some ⟨0x56, if detached then .detached else .attached⟩ } }
    s.fmu.mode ≠ .stopping → s.nvs.profile.mode = .continuous ∨ (u.beginFind 1).findReached = true →
    ∃ a t, exec .resume s = .next t ∧ t.hpu = a.recoveryFind.hpu ∧ t.csq = a.recoveryFind.csq ∧
      a.recoveryFind.OnlyFollows t ∧
      if detached then going.SameEngine a ∧ going.EndsWith a .ok
      else a = { going with csq := { s.csq with stage := .moving } }) ∧
  (∀ s : State, s.InService → s.eng.settle ≠ none → s.eng.cond = .halted →
    s.csq.stage ≠ .waiting → s.csq.stage ≠ .compacting →
    let u := s.enterRecovery s.nvs.profile.discard
    s.fmu.mode ≠ .stopping → s.nvs.profile.mode = .continuous ∨ (u.beginFind 1).findReached = true →
    ∃ t, exec .autoRecover s = .next t ∧ t.hpu = u.recoveryFind.hpu ∧ t.csq = u.recoveryFind.csq ∧
      u.recoveryFind.OnlyFollows t) ∧
  (∀ s : State, s.InService → s.eng.settle = none → exec .autoRecover s = .next s) ∧
  (∀ (s : State) (discard : Bool),
    (s.eng.interrupted = none → s.enterRecovery discard = { s with eng := { s.eng with
      cond := .recovering, causes := 0, primary := none, settle := none, applied := 0, recLabel := 0xFFFF } }) ∧
    (∀ c l, s.eng.interrupted = some c → s.lbq.label c.slot = some l →
      (discard = false → s.enterRecovery discard = { s with eng := { s.eng with
        cond := .recovering, causes := 0, primary := none, interrupted := none, settle := none
        applied := 1, recLabel := l.number } }) ∧
      (discard = true →
        let cancelled : Event := ⟨.labelCancelled, 3, l.number, BitVec.ofNat 16 l.done⟩
        let removed := (s.post cancelled).vacate c.slot l
        let seated := ({ removed with ring := s.ring.truncate fun b => b.slot == c.slot } : State).reseat
        let reported := if s.lbq.queue ≠ [] ∧ seated.lbq.queue = [] then seated.post ⟨.queueIdle, 0, 0xFFFF, 0⟩
          else seated
        s.enterRecovery discard = { reported with eng := { reported.eng with
          cond := .recovering, causes := 0, primary := none, interrupted := none, settle := none
          applied := 2, recLabel := l.number } }))) ∧
  (∀ u : State,
    let top : Registration := ⟨.registered, some (u.fmu.pos + 1), true, 0⟩
    let v := u.beginFind 1
    (u.nvs.profile.mode = .continuous →
      u.recoveryFind = ({ u with msu := { u.msu with reg := top } } : State).recovered) ∧
    (u.nvs.profile.mode ≠ .continuous →
      (v.findReached = false → u.recoveryFind = { v with fmu := { v.fmu with mode := .freeMove } }) ∧
      (v.findReached = true → u.recoveryFind = ({ v with
        fmu := { v.fmu with target := none, speed := 0 }
        msu := { v.msu with
          find := none, reg := top
          edges := v.msu.edges.dropWhile fun e => decide ((e - (u.fmu.pos + 1)).toInt ≤ 0) } } : State).recovered))) ∧
  (∀ s : State,
    let still (c : Condition) : State := { s with fmu := s.fmu.atRest, eng := { s.eng with cond := c } }
    let ends (u : State) : Prop := (u.post ⟨.recovered, BitVec.ofNat 8 s.eng.applied, s.eng.recLabel,
      s.fmu.pos.setWidth 16⟩).MotionOver s.recovered .ok
    let run := (still .running).beginRun
    let h := run.horizon
    (s.lbq.queue = [] → ends (still .idle)) ∧
    (s.lbq.queue ≠ [] → s.hdu.thermal = .hot →
      ends (({ run.movementCut with eng := { run.eng with cond := .holding } } : State).post
        ⟨.hold, 0, 0xFFFF, BitVec.ofInt 16 s.hdu.temp⟩)) ∧
    (s.lbq.queue ≠ [] → s.hdu.thermal ≠ .hot → run.fmu.move ≠ .run → ends run) ∧
    (s.lbq.queue ≠ [] → s.hdu.thermal ≠ .hot → run.fmu.move = .run →
      (0 < h.count → ends { run with fmu := { run.fmu with rest := .none } }) ∧
      (∀ c line, h.count = 0 → h.beyond = .notHeld c line →
        ends { run with fmu := { run.fmu with speed := 0, rest := .starved, settling := false } }) ∧
      (h.count = 0 → h.beyond = .gateClosed →
        ends { run with fmu := run.fmu.atRest, eng := { run.eng with cond := .paused } })))

/-- R36, R121, R122, R135, R147, Table 7-5: a motion command behind a free motion waits for up to 1,500 ms and then ends
with MOTION TIMEOUT; otherwise its preconditions refuse it in order, and nothing moves. The ranges of FEED and ADVANCE
TO EDGE refuse them before any wait. The wait also ends when the earlier motion ends, with step 5 tested in that very
step: a FEED that waited behind a backward FEED is put in hand by the step that reaches that one's target, after its
MOVE DONE and before any run starts, and one that waited behind a move which the opening head has ended fails with HEAD
OPEN. That the wait is decided before a run start, and that MOTION_WAIT_TIMEOUT changes nothing while the wait timer is
stopped, is the model's choice (logs 28, 11). -/
def Obligations.MotionCommandsWaitOrAreRefused : Prop :=
  (∀ (s : State) (row : Instr) (code : Byte),
    (row, code) ∈ [(Instr.feed, (0x51 : Byte)), (.advanceToEdge, 0x52), (.calibrateMedia, 0x53), (.present, 0x54),
      (.retract, 0x55), (.resume, 0x56)] →
    s.Ready code → s.Clear → firstOf (s.ranges s.csq.block) = none →
    (s.fmu.motion ≠ none →
      exec row s = .next { s with csq := { s.csq with stage := .waiting, waitTimer := some 1500 } }) ∧
    (s.fmu.motion = none →
      let ends (e : Ending) : Prop := ∃ t, exec row s = .next t ∧ s.SameEngine t ∧ s.EndsWith t e
      let live := s.eng.cond = .running ∨ s.eng.cond = .holding ∨ s.eng.cond = .recovering
      (live → ends (.error .engineBusy none .nothing)) ∧
      (∀ c, s.eng.cond = .halted → s.firstPersisting = some c →
        ends (.error .engineHalted none (.detail (c.sense.byte.setWidth 32)))) ∧
      (∀ c, s.eng.cond = .halted → s.firstPersisting = none → s.eng.primary = some c → row ≠ .resume →
        ends (.error .engineHalted none (.detail (c.sense.byte.setWidth 32)))) ∧
      (¬ live → s.eng.cond ≠ .halted → s.eng.headOpen = true → row ≠ .resume →
        ends (.error .headOpen none .nothing)) ∧
      (¬ live → s.eng.cond ≠ .halted → s.eng.headOpen = false → s.msu.absent = true →
        row = .advanceToEdge ∨ row = .calibrateMedia → ends (.error .mediaOut none .nothing)))) ∧
  (∀ s : State, s.InService → s.csq.waitTimer ≠ none → s.csq.block.head? ≠ some 0x12 →
    ∃ t, exec .motionWaitTimeout s = .next t ∧ s.SameEngine t ∧
      s.EndsWith t (.error .motionTimeout none
        (.detail (match s.fmu.motion with | some m => m.code.setWidth 32 | none => 0)))) ∧
  (∀ s : State, s.csq.waitTimer = none → exec .motionWaitTimeout s = .next s) ∧
  (∀ (s : State) (elapsed : Nat) (code : Byte) (v : Nat), s.InService → s.csq.stage = .waiting →
    s.csq.block.head? = some 0x51 → (byteAt s.csq.block 1).getLsbD 7 = false → int16 s.csq.block 2 ≠ 0 →
    s.hpu.breakPending = false → s.eng.cond = .idle ∨ s.eng.cond = .paused → s.eng.headOpen = false →
    s.fmu.motion = some ⟨code, .detached⟩ → s.fmu.mode = .freeMove → s.fmu.move = .feed true v →
    s.fmu.target = some (s.fmu.pos - 1) →
    let d := int16 s.csq.block 2
    let u : State := { s with
      hdu := { s.hdu with current := none, strobe := [], clock := s.hdu.clock.map (· + elapsed) }
      fmu := { s.fmu with
        pos := s.fmu.pos - 1, speed := 0, backward := true, mode := .freeMove, stop := none, why := none, rest := .none
        move := .feed (decide (d < 0)) (num16 s.csq.block 4), target := some (s.fmu.pos - 1 + BitVec.ofInt 32 d)
        motion := some ⟨0x51, .attached⟩, present := .atPrintLine, energised := true, settling := false
        idleTimer := some 2000 }
      msu := { s.msu with
        reg := ⟨.unknown, none, false, 0⟩, idleTimer := none
        edges := if d < 0 then [] else s.msu.edges
        lastEdge := if d < 0 then none else s.msu.lastEdge } }
    ∃ t, exec (.backwardStep elapsed) s = .next t ∧ t.hpu = s.hpu ∧
      t.csq = { s.csq with stage := .moving, waitTimer := none } ∧
      (u.post ⟨.moveDone, code, 0xFFFF, 0⟩).OnlyRests t) ∧
  (∀ (s : State) (code : Byte), s.InService → s.csq.stage = .waiting → s.csq.block.head? = some 0x51 →
    s.eng.cond = .idle ∨ s.eng.cond = .paused → s.eng.headOpen = false → s.fmu.motion = some ⟨code, .detached⟩ →
    let u : State := ({ s with eng := { s.eng with headOpen := true } } : State).post
      ⟨.headOpened, 0, 0xFFFF, s.fmu.pos.setWidth 16⟩
    ∃ t, exec .headStateChange s = .next t ∧
      (({ u.freeMoveFailed with fmu := { u.freeMoveFailed.fmu with motion := none } } : State).post
        ⟨.moveFailed, code, 0xFFFF, 0x11⟩).EndsAndFollows t (.error .headOpen none .nothing)) ∧
  (∀ s : State, s.Clear →
    let b := s.csq.block
    let v := num16 b 4
    let ends (row : Instr) (i : Pos) : Prop := ∃ t, exec row s = .next t ∧ s.SameEngine t ∧
      s.EndsWith t (.error .invalidParameter none (.detail i))
    (s.Ready 0x51 → (int16 b 2 < -1024 → ends .feed 2) ∧
      (-1024 ≤ int16 b 2 → v ≠ 0 → v < 50 ∨ 1600 < v → ends .feed 4)) ∧
    (s.Ready 0x52 → num8 b 2 = 0 ∨ 16 < num8 b 2 → ends .advanceToEdge 2))

/-- R166, R167: RAM TEST goes to work at offset 0 in IDLE or FAULTED with no free motion, and is refused otherwise. Each
byte is tried with the eighteen patterns 0x00, each single 1 bit, 0xFF and each single 0 bit, in that order; it passes
when every one of them reads back as written. A byte that passes leads to the next one, to success at the last, or to a
pending Break's end; a byte that fails ends the test with its offset, keeps its contents but for the bits that did not
take them, and no other byte has changed. That RAM_BYTE_TEST changes nothing with no RAM TEST at work is the model's
choice (log 1). -/
def Obligations.RamTestTriesEveryByte : Prop :=
  (∀ s : State, s.Ready 0x61 → s.hpu.breakPending = false →
    ((s.eng.cond = .idle ∨ s.eng.cond = .faulted) → s.fmu.motion = none →
      exec .ramTest s = .next { s with csq := { s.csq with stage := .ramTesting 0 } }) ∧
    (¬ (s.eng.cond = .idle ∨ s.eng.cond = .faulted) ∨ s.fmu.motion ≠ none →
      ∃ t, exec .ramTest s = .next t ∧ s.SameEngine t ∧ s.EndsWith t (.error .engineBusy none .nothing))) ∧
  (∀ (s : State) (n : Nat) (answer : ByteTest), s.InService → s.csq.stage = .ramTesting n → n < 51200 →
    s.csq.block.head? ≠ some 0x12 →
    let pattern (i : Nat) : Byte :=
      if i = 0 then 0x00 else if i ≤ 8 then 1 <<< (i - 1) else if i = 9 then 0xFF else ~~~ (1 <<< (i - 10))
    let readsBack (i : Nat) : Prop := pattern i ^^^ byteAt answer.differs i = pattern i
    ((∀ i < 18, readsBack i) → ∃ t, exec (.ramByteTest answer) s = .next t ∧ s.SameEngine t ∧
      if n = 51199 then s.EndsWith t .ok
      else if s.hpu.breakPending then s.EndsWith t (.error .aborted none .nothing)
      else t.hpu = s.hpu ∧ t.csq = { s.csq with stage := .ramTesting (n + 1) }) ∧
    (¬ (∀ i < 18, readsBack i) → ∃ t, exec (.ramByteTest answer) s = .next t ∧
      ({ s with ram := t.ram } : State).SameEngine t ∧
      s.EndsWith t (.error .ramFault none (.detail (BitVec.ofNat 32 n))) ∧
      t.ram.read n = s.ram.read n ^^^ answer.left ∧ ∀ a, a ≠ n → t.ram.read a = s.ram.read a)) ∧
  (∀ (s : State) (answer : ByteTest), (∀ n, s.csq.stage ≠ .ramTesting n) → exec (.ramByteTest answer) s = .next s)

/-! ### The motor, the composer and the head -/

/-- R106, R110 to R114, R116, R119, R120, R126 to R130, R132, Table 7-3: a forward step, in the six parts of R111. The
position rises by 1 and the speed is the one chosen for the step: within a run between the floor, which a withdrawal
lowers to v - D, and the caps of the look-ahead and the line; in a stop down by A or D to S; in a free move within the
cruise, target and edge caps. The sensor has read its level: three step samples that agree change the class, at the
first one's position; an EMPTY run of the out length sets media out; a leading edge far enough from the last joins the
edge queue. At its decision point the window decides the next top. The end of the step ends a free move or a stop, and
an edge find that has succeeded ends the recovery that it belongs to or lets its run go on. With no step due, or a
temperature sample due by count, the step does not come. The model's choices stand here too: that the row changes
nothing then (log 1), R119 taken literally, with S for a road of no steps (log 13), the candidate class dropped at a
sample of the other kind (log 22), the empty-run count held to the out length (log 23), part 5 before part 6 (log 24), a
QUEUE IDLE of part 2 before the events of the later parts (log 53), the outcome of a stop that took over another (log
25), the wait for a sample due by count (log 34), and the stretch of R105 at the step that passes the line (log 46). -/
def Obligations.LineStepMovesOneLineForward : Prop :=
  (∀ (s : State) (level : Byte) (elapsed : Nat), s.InService → s.forwardDue = true → s.hdu.strobed < 16 →
    ∃ t, exec (.lineStep level elapsed) s = .next t ∧ t.fmu.pos = s.fmu.pos + 1 ∧ t.fmu.backward = false ∧
      (t.fmu.speed = s.forwardSpeed s.horizon ∨ t.fmu.speed = 0) ∧
      t.fmu.energised = true ∧ t.msu.raw = level ∧ t.msu.lastKind = .step ∧ t.ram = s.ram ∧ t.hdu.temp = s.hdu.temp ∧
      t.hdu.thermal = s.hdu.thermal ∧ t.eng.headOpen = s.eng.headOpen ∧ t.nvs.mech = s.nvs.mech ∧
      t.nvs.store = s.nvs.store ∧ t.lbq.gate = s.lbq.gate ∧ t.strap = s.strap ∧ t.pending = s.pending) ∧
  (∀ (s : State) (level : Byte) (elapsed : Nat), s.InService → s.forwardDue = true → s.hdu.strobed < 16 →
    s.csq.stage ≠ .waiting → s.csq.stage ≠ .compacting →
    let a := ({ s with hdu := { s.hdu with clock := s.hdu.clock.map (· + elapsed) } } : State).lineParts12
    let p := a.stepSample level
    let d := p.state.decide4 s.underHorizon level p.change
    let w := (d.state.stopForFault p.absentNow d.lost).endOfStep d.move
    ∃ t, exec (.lineStep level elapsed) s = .next t ∧ t.hpu = w.hpu ∧ t.csq = w.csq ∧ w.OnlyFollows t) ∧
  (∀ (s : State) (level : Byte) (elapsed : Nat), s.forwardDue = false ∨ 16 ≤ s.hdu.strobed →
    exec (.lineStep level elapsed) s = .next s) ∧
  (∀ s : State,
    let v := s.fmu.speed
    (v = 0 → s.freeSpeed ≤ s.nvs.mech.startSpeed) ∧
    (0 < v → v - s.nvs.profile.accel ≤ s.freeSpeed ∧ s.freeSpeed ≤ v + s.nvs.profile.accel)) ∧
  (∀ s : State,
    let v := s.fmu.speed
    let low := s.nvs.mech.startSpeed
    let acc := s.nvs.profile.accel
    let upper := if v = 0 then low else v + acc
    let h := s.horizon
    let under := s.fmu.move = .run ∧
      (s.fmu.mode = .printRun ∨ (s.fmu.mode = .stopping ∧ s.fmu.stop = some .soft))
    let road := low + acc * (h.count - 1)
    let floor := if road < v then v - s.nvs.mech.faultDecel else v - acc
    let held (x : Nat) : Nat := match s.lineCapNow h with | some c => min x c | none => x
    let cruise := match s.fmu.move with
      | .feed _ w => if w = 0 then s.nvs.profile.speed else w
      | .calibrate => min low s.nvs.profile.speed
      | _ => s.nvs.profile.speed
    let further := match s.fmu.target with
      | some t => low + acc * ((t - s.fmu.pos).toInt.toNat - 1)
      | none => if s.fmu.move = .find then low + acc * s.nvs.mech.sensorOffset else cruise
    (s.underHorizon = true ↔ under) ∧
    (under → s.fmu.mode = .printRun →
      s.forwardSpeed h = held (max floor (min upper (min s.nvs.profile.speed (held (s.lookAhead h)))))) ∧
    (under → s.fmu.mode = .stopping →
      s.forwardSpeed h = held (max floor (min (max low (v - acc)) (held (s.lookAhead h))))) ∧
    (¬ under → s.fmu.mode = .stopping → s.forwardSpeed h =
      max low (v - if s.fmu.stop = some .fault then s.nvs.mech.faultDecel else acc)) ∧
    (¬ under → s.fmu.mode ≠ .stopping → s.forwardSpeed h = max (v - acc) (min upper (min cruise further))) ∧
    (∀ c, c ≤ s.lookAhead h ↔ c ≤ road ∧
      ∀ l ∈ h.lines, 2 ≤ l.1 → ∀ k, s.capOf l.2 = some k → c ≤ k + acc * (l.1 - 1)) ∧
    (s.nextLine h = none → s.lineCapNow h = none) ∧
    (∀ l j dots, s.nextLine h = some l → h.lines.head? = some (j, dots) → s.lineCapNow h = s.capOf dots) ∧
    (∀ dots, s.capOf dots = if dots = 0 then none else
      let passes := if dots ≤ s.nvs.mech.powerLimit then 1 else if dots ≤ 2 * s.nvs.mech.powerLimit then 2 else 4
      some (1000000 / (passes * fullStrobe s.nvs.profile.darkness s.hdu.temp)))) ∧
  (∀ (a : State) (level : Byte),
    let p := a.stepSample level
    let m := p.state.msu
    let marker := match a.msu.calib with
      | some c => if c.phase = .survey then a.nvs.profile.marker else c.threshold
      | none => a.nvs.profile.marker
    let cls := if level.toNat < marker then Class.media
      else if level.toNat < a.nvs.profile.empty then .marker else .empty
    let agrees := a.msu.lastKind = .step ∧ a.msu.cand = some cls
    let n := if agrees then a.msu.agree + 1 else 1
    let out := a.nvs.mech.outLength
    let edge := a.msu.candPos + BitVec.ofInt 32 (a.nvs.mech.sensorOffset + a.nvs.profile.adjust)
    let leading := p.change = some ⟨.marker, .media, a.msu.candPos⟩ ∧ a.nvs.profile.mode ≠ .continuous ∧
      a.msu.calib = none ∧
      ∀ l, a.msu.lastEdge = some l → (a.nvs.profile.pitch : Int) - a.nvs.profile.tolerance ≤ (edge - l).toInt
    let room := if a.msu.edges.length < 16 then a.msu.edges
      else a.msu.edges.dropWhile fun e => decide ((e - a.fmu.pos).toInt ≤ 0)
    p.state = { a with eng := p.state.eng, msu := { a.msu with
      raw := level, lastKind := .step, cls := m.cls, cand := m.cand, agree := m.agree, candPos := m.candPos
      emptyRun := m.emptyRun, absent := m.absent, edges := m.edges, lastEdge := m.lastEdge } } ∧
    (cls = a.msu.cls → p.change = none ∧ m.cls = cls ∧ m.cand = none ∧ m.agree = 0) ∧
    (cls ≠ a.msu.cls → n ≠ 3 → p.change = none ∧ m.cls = a.msu.cls ∧ m.cand = some cls ∧ m.agree = n ∧
      m.candPos = if agrees then a.msu.candPos else a.fmu.pos) ∧
    (cls ≠ a.msu.cls → n = 3 → p.change = some ⟨a.msu.cls, cls, a.msu.candPos⟩ ∧ m.cls = cls ∧ m.cand = none ∧
      m.agree = 0) ∧
    (m.cls ≠ .empty → m.emptyRun = 0 ∧ p.absentNow = false) ∧
    (m.cls = .empty → m.emptyRun = min out (a.msu.emptyRun + 1) ∧
      p.absentNow = decide (a.msu.emptyRun < out ∧ out ≤ a.msu.emptyRun + 1 ∧ a.msu.absent = false)) ∧
    m.absent = (a.msu.absent || p.absentNow) ∧
    p.state.eng = (if p.absentNow then a.post ⟨.mediaOut, 0, 0xFFFF, a.fmu.pos.setWidth 16⟩ else a).eng ∧
    (¬ leading → m.edges = a.msu.edges ∧ m.lastEdge = a.msu.lastEdge) ∧
    (leading → m.edges = (if room.length < 16 then room ++ [edge] else room) ∧ m.lastEdge = some edge)) ∧
  (∀ (s : State) (top : Pos),
    let r := s.msu.reg
    let tol := s.nvs.profile.tolerance
    let far (e : Pos) : Int := (e - top).toInt
    let queue := s.msu.edges.dropWhile fun e => decide (far e < -(tol : Int))
    let decides := r.top = some top ∧ s.nvs.profile.mode ≠ .continuous ∧ r.state ≠ .unknown ∧ r.decided = false ∧
      s.fmu.pos = top - BitVec.ofNat 32 (tol + 1)
    let left (edges : List Pos) (reg : Registration) : State :=
      { s with msu := { s.msu with edges := edges, reg := reg } }
    (r.top = none → s.decideWindow = (s, false)) ∧
    (r.top = some top → ¬ decides → s.decideWindow = (s, false)) ∧
    (∀ e rest, decides → queue = e :: rest → far e ≤ tol →
      s.decideWindow = (left rest ⟨.registered, some e, true, 0⟩, false)) ∧
    (decides → (∀ e rest, queue = e :: rest → tol < far e) →
      (r.miss = 0 → s.decideWindow =
        ((left queue ⟨.flywheel, some top, true, 1⟩).post ⟨.edgeMissed, 1, 0xFFFF, top.setWidth 16⟩, false)) ∧
      (1 ≤ r.miss → s.decideWindow =
        ((left queue ⟨.unknown, none, false, 0⟩).post ⟨.registrationLost, 2, 0xFFFF, top.setWidth 16⟩, true)))) ∧
  (∀ (w : State) (m : MoveEnd),
    let r := w.endOfStep m
    let low := w.nvs.mech.startSpeed
    let here : SenseInfo := .position w.fmu.pos
    let rests : State := { w with fmu := w.fmu.atRest }
    (w.fmu.mode = .stopped → r = w) ∧
    (w.fmu.mode = .stopping →
      (low < w.fmu.speed → r = w) ∧
      (w.fmu.speed ≤ low →
        (w.fmu.why = none → r = rests) ∧
        (w.fmu.why = some .hold → r = if w.eng.cond = .running then rests.beginRun else rests) ∧
        (w.fmu.why = some .halt → r = if w.eng.cond = .recovering then rests.recoveryFind else rests) ∧
        (w.fmu.why = some .mediaOut → w.freeMoveFailed.MotionOver r (.error .mediaOut none here)) ∧
        (w.fmu.why = some .searchFailed → w.movementCut.MotionOver r (.error .edgeNotFound none here)) ∧
        (w.fmu.why = some .breakRequest → w.eng.cond ≠ .recovering →
          w.movementCut.MotionOver r (.error .aborted none .nothing)))) ∧
    (w.fmu.mode = .freeMove →
      (m = .goesOn → w.fmu.move = .find ∨ w.fmu.move = .calibrate ∨ w.fmu.target ≠ some w.fmu.pos → r = w) ∧
      (m = .goesOn → w.fmu.move ≠ .find → w.fmu.move ≠ .calibrate → w.fmu.target = some w.fmu.pos →
        ({ w with
          fmu := { w.fmu.atRest with present := if w.fmu.move = .present then .presented else w.fmu.present }
          msu := { w.msu with reg := if w.fmu.move = .advance then ⟨.registered, some (w.fmu.pos + 1), true, 0⟩
            else w.msu.reg } } : State).MotionOver r .ok) ∧
      (m = .found → w.eng.cond ≠ .recovering → rests.MotionOver r .ok) ∧
      (m = .found → w.eng.cond = .recovering → r = w.recovered) ∧
      (m = .searchFailed →
        (w.fmu.speed ≤ low → w.movementCut.MotionOver r (.error .edgeNotFound none here)) ∧
        (low < w.fmu.speed → r = { w with
          fmu := { w.fmu with mode := .stopping, stop := some .soft, why := some .searchFailed }
          msu := { w.msu with find := none } })) ∧
      (∀ e, m = .calibrationFailed e → w.movementCut.MotionOver r e)) ∧
    (w.fmu.mode = .printRun → w.fmu.move ≠ .run →
      (m = .found → r = { w with fmu := { w.fmu with move := .run } }) ∧
      (m ≠ .found → r = w)))

/-- R74, R75, R78, R83, R84, R98, R110, R111, R115 to R117, R119, R133: a step of a print run that passes a label line
hands the head that line of the head band as the ring holds it; any other step hands it nothing. Line 0 of a copy begins
it and prepares the next top; the last line of a copy is counted and reported, and the last copy has its label reported
and removed, as has a label allowed to finish, without a report; a queue that has become empty is reported. How far the
run may step is the horizon: the lines held ready, then slew to a top that is known, then the next copy's lines. A step
beyond it is an overrun, strobes nothing and loses registration. Where it ends the run rests, with the reason that the
road gives, and a starved rest is reported once for each copy. Which steps beyond the horizon a run takes is R119 with S
for a road of no steps (the model's choice, log 13). -/
def Obligations.LinesArePassedAndCopiesCounted : Prop :=
  (∀ (s : State) (level : Byte) (elapsed : Nat), s.InService → s.forwardDue = true → s.hdu.strobed < 16 →
    ∃ t, exec (.lineStep level elapsed) s = .next t ∧
      (∀ c line, s.underHorizon = true → s.nextLine s.horizon = some ⟨c, line⟩ →
        let b := s.ring.band s.ring.head
        let bytes := s.ram.readBlock (1664 * s.ring.head + 104 * (line - b.first)) 104
        t.hdu.history = bytes ∧ t.hdu.current = some ⟨bytes, b.dots.getD (line - b.first) 0⟩ ∧ t.hdu.clock = some 0) ∧
      (s.underHorizon = false ∨ s.nextLine s.horizon = none →
        t.hdu.history = s.hdu.history ∧ t.hdu.current = none ∧ t.hdu.strobe = [] ∧
        t.hdu.clock = s.hdu.clock.map (· + elapsed))) ∧
  (∀ s : State,
    let h := s.horizon
    let f : Fmu := { s.fmu with
      pos := s.fmu.pos + 1, speed := s.forwardSpeed h, backward := false, rest := .none, energised := true
      settling := false, idleTimer := some 2000 }
    let m : Msu := { s.msu with idleTimer := none }
    let slews : State := { s with fmu := f, hdu := { s.hdu with current := none, strobe := [] } }
    (s.underHorizon = false → s.lineParts12 = { slews with msu := m }) ∧
    (s.underHorizon = true → 0 < h.count → s.nextLine h = none → s.lineParts12 = { slews with msu := m }) ∧
    (s.underHorizon = true → h.count = 0 →
      s.nextLine h = none ∧ s.lineParts12 = { slews with msu := { m with reg := ⟨.unknown, none, false, 0⟩ } }) ∧
    (∀ c line l, s.underHorizon = true → s.nextLine h = some ⟨c, line⟩ → s.lbq.label c.slot = some l →
      let b := s.ring.band s.ring.head
      let bytes := s.ram.readBlock (1664 * s.ring.head + 104 * (line - b.first)) 104
      let place := s.ring.head % 16
      let ring : Ring :=
        if line + 1 < b.first + b.count then
          { s.ring with bands := s.ring.bands.set place { b with state := .printing } }
        else { s.ring with bands := s.ring.bands.set place .blank, head := (s.ring.head + 1) % 16 }
      let next : Registration :=
        if s.nvs.profile.mode = .continuous then
          ⟨.registered, some (f.pos + BitVec.ofNat 32 (l.length + s.nvs.profile.gap)), true, s.msu.reg.miss⟩
        else { s.msu.reg with top := some (f.pos + BitVec.ofNat 32 s.nvs.profile.pitch), decided := false }
      let passed : State := { s with
        fmu := f, ring := ring, hdu := (s.strobeLine line bytes (b.dots.getD (line - b.first) 0)).hdu
        lbq := { s.lbq with printing := if line = 0 then some ⟨c.slot, c.copy, 1⟩
          else s.lbq.printing.map fun p => { p with passed := p.passed + 1 } }
        msu := if line = 0 then { m with reg := next, lastLen := some l.length } else m }
      s.lineParts12 = if line + 1 = l.length then passed.copyDone c.slot else passed)) ∧
  (∀ (s : State) (slot : Nat) (l : Label), s.lbq.label slot = some l →
    let counted : State := { s with lbq := { s.lbq with
      slots := s.lbq.slots.set slot (some { l with done := l.done + 1 }), printing := none } }
    let u := counted.post ⟨.copyDone, BitVec.ofNat 8 l.copies, l.number, BitVec.ofNat 16 (l.done + 1)⟩
    let gone (v : State) : State :=
      if s.lbq.queue ≠ [] ∧ v.lbq.queue = [] then v.post ⟨.queueIdle, 0, 0xFFFF, 0⟩ else v
    (l.finishing = false → l.done + 1 ≠ l.copies → s.copyDone slot = u) ∧
    (l.finishing = false → l.done + 1 = l.copies → s.copyDone slot =
      gone ((u.post ⟨.labelDone, 0, l.number, BitVec.ofNat 16 l.copies⟩).vacate slot { l with done := l.done + 1 })) ∧
    (l.finishing = true → s.copyDone slot = gone (u.vacate slot { l with done := l.done + 1 }))) ∧
  (∀ s : State,
    let h := s.horizon
    let copyBehind (slot : Option Nat) : Option Copy :=
      slot.bind fun i => (s.lbq.label i).map fun l => ⟨i, l.done + 1⟩
    let beyond (r : Nat) (lines : List Nat) : Prop :=
      let here := s.fmu.pos + BitVec.ofNat 32 r
      let ready : List (Nat × Nat) := lines.mapIdx fun j d => (1 + j, d)
      (s.msu.reg.state = .unknown ∨ s.msu.reg.top = none →
        h = ⟨r, ready, if s.lbq.gate = false ∧ s.lbq.nextCopy ≠ none then .gateClosed else .topUnknown⟩) ∧
      (∀ top, s.msu.reg.state ≠ .unknown → s.msu.reg.top = some top →
        let last := if s.msu.reg.decided then top - 1 else top - BitVec.ofNat 32 (s.nvs.profile.tolerance + 1)
        let n := (last - here).toInt.toNat
        (s.lbq.nextCopy = none → h = ⟨r + n, ready, .nothingLeft⟩) ∧
        (∀ c, s.lbq.nextCopy = some c →
          let more := s.heldFrom c 0
          h = if s.lbq.gate then ⟨r + n + more.length, ready ++ more.mapIdx fun j d => (r + n + 1 + j, d),
              .notHeld c more.length⟩
            else ⟨r + n, ready, .gateClosed⟩))
    (s.lbq.printing = none → beyond 0 []) ∧
    (∀ p l, s.lbq.printing = some p → s.lbq.label p.slot = some l →
      let r := l.length - p.passed
      let lines := (s.heldFrom ⟨p.slot, p.copy⟩ p.passed).take r
      (lines.length < r → h = ⟨lines.length, lines.mapIdx fun j d => (1 + j, d),
        .notHeld ⟨p.slot, p.copy⟩ (p.passed + lines.length)⟩) ∧
      (lines.length = r → beyond r lines)) ∧
    (s.lbq.printing = none → s.lbq.nextCopy = copyBehind s.lbq.queue.head?) ∧
    (∀ p l, s.lbq.printing = some p → s.lbq.label p.slot = some l →
      (p.copy < l.copies → l.finishing = false → s.lbq.nextCopy = some ⟨p.slot, p.copy + 1⟩) ∧
      (∀ before behind, l.copies ≤ p.copy ∨ l.finishing = true → s.lbq.queue = before ++ p.slot :: behind →
        p.slot ∉ before → s.lbq.nextCopy = copyBehind behind.head?)) ∧
    (h.count = 0 → s.nextLine h = none) ∧
    (∀ p, 0 < h.count → s.lbq.printing = some p → s.nextLine h = some ⟨⟨p.slot, p.copy⟩, p.passed⟩) ∧
    (0 < h.count → s.lbq.printing = none → s.nextLine h =
      if s.msu.reg.decided = true ∧ s.msu.reg.top = some (s.fmu.pos + 1) then s.lbq.nextCopy.map fun c => ⟨c, 0⟩
      else none)) ∧
  (∀ (s : State) (c : Copy) (line : Nat), s.heldFrom c line = heldDots c line s.ring.run ∧ heldDots c line [] = []) ∧
  (∀ (c : Copy) (line : Nat) (b : Band) (rest : List Band),
    let holds := (b.state = .ready ∨ b.state = .printing) ∧ b.slot = c.slot ∧ b.copy = c.copy ∧ b.first ≤ line ∧
      line < b.first + b.count
    (holds → heldDots c line (b :: rest) = b.dots.drop (line - b.first) ++ heldDots c (b.first + b.count) rest) ∧
    (¬ holds → heldDots c line (b :: rest) = heldDots c line rest)) ∧
  (∀ (w : State) (m : MoveEnd), w.fmu.mode = .printRun → w.fmu.move = .run →
    let h := w.horizon
    let rests (reason : Rest) (record : Option Copy) : State := { w with fmu := { w.fmu with
      speed := 0, rest := reason, settling := false, underrun := record } }
    (0 < h.count ∨ w.nvs.mech.startSpeed < w.fmu.speed →
      w.endOfStep m = { w with fmu := { w.fmu with rest := .none } }) ∧
    (h.count = 0 → w.fmu.speed ≤ w.nvs.mech.startSpeed →
      (h.beyond = .gateClosed → w.endOfStep m = rests .gate w.fmu.underrun) ∧
      (h.beyond = .nothingLeft → w.endOfStep m = rests .finished w.fmu.underrun) ∧
      (h.beyond = .topUnknown → w.endOfStep m = rests .topUnknown w.fmu.underrun) ∧
      (∀ c line, h.beyond = .notHeld c line →
        (w.fmu.underrun = some c → w.endOfStep m = rests .starved w.fmu.underrun) ∧
        (w.fmu.underrun ≠ some c → w.endOfStep m = (rests .starved (some c)).post
          ⟨.rasterUnderrun, BitVec.ofNat 8 c.copy, (w.lbq.label c.slot).elim 0xFFFF (·.number),
            BitVec.ofNat 16 line⟩))))

/-- R110, R113, R122, R123, R33 to R35: a backward step is taken at S and lowers the position by 1. Short of the target
nothing else has changed but the motor's and the head's own record of the step and the idle-sample timer, which is
stopped. At the target of a backward FEED or a RETRACT the motor is STOPPED, and the command completes or MOVE DONE is
posted; a retract leaves AT PRINT LINE, and the retract that opens a run lets the run go on. That it goes on though the
queue may have emptied, that the step does not wait for a temperature sample due by count, and that the row changes
nothing with no step due, is the model's choice (logs 33, 52, 1). -/
def Obligations.BackwardStepMovesOneLineBack : Prop :=
  (∀ (s : State) (elapsed : Nat), s.InService → s.backwardDue = true →
    ∃ t, exec (.backwardStep elapsed) s = .next t ∧ t.fmu.pos = s.fmu.pos - 1 ∧ t.fmu.energised = true ∧
      let hdu : Hdu := { s.hdu with current := none, strobe := [], clock := s.hdu.clock.map (· + elapsed) }
      let fmu : Fmu := { s.fmu with
        pos := s.fmu.pos - 1, speed := s.nvs.mech.startSpeed, backward := true, rest := .none, energised := true
        settling := false, idleTimer := some 2000 }
      let msu : Msu := { s.msu with idleTimer := none }
      let stopped : Fmu := { fmu with
        mode := .stopped, speed := 0, target := none, stop := none, why := none, move := .none
        present := if s.fmu.move = .retract then .atPrintLine else s.fmu.present }
      (s.csq.stage ≠ .waiting → s.csq.stage ≠ .compacting → s.fmu.target ≠ some (s.fmu.pos - 1) →
        t.hpu = s.hpu ∧ t.csq = s.csq ∧ ({ s with hdu := hdu, fmu := fmu, msu := msu } : State).OnlyFollows t ∧
        (s.fmu.motion ≠ none → t.fmu = fmu ∧ (0 < s.nvs.mech.startSpeed → t.msu = msu))) ∧
      (s.csq.stage ≠ .waiting → s.csq.stage ≠ .compacting → s.fmu.target = some (s.fmu.pos - 1) →
        s.fmu.move ≠ .retract ∨ s.fmu.mode = .freeMove →
        ({ s with hdu := hdu, fmu := stopped, msu := msu } : State).MotionEnds t .ok ∧
        (s.lbq.queue = [] → t.fmu = { stopped with motion := none })) ∧
      (s.csq.stage ≠ .waiting → s.csq.stage ≠ .compacting → s.fmu.target = some (s.fmu.pos - 1) →
        s.fmu.move = .retract → s.fmu.mode = .printRun →
        t.hpu = s.hpu ∧ t.csq = s.csq ∧
        ({ s with
          hdu := hdu, msu := msu
          fmu := { fmu with target := none, speed := 0, present := .atPrintLine } } : State).runOn.OnlyFollows t)) ∧
  (∀ (s : State) (elapsed : Nat), s.backwardDue = false → exec (.backwardStep elapsed) s = .next s)

/-- R87, R88, R90 to R94, Tables 5-3, 5-5 and 5-6: the render of a band. Its lines stand in the ring as the label's
placements make them, its dot counts are those lines' 1 bits, it is READY, the cursor moves on to the line behind the
band or to the next copy of the remaining print order, and no other byte of memory has changed. A dot of a line starts
at 0 and every placement in list order combines its source dot with it inside its footprint: a rule the dot 1, an image
its bitmap's dot, a glyph the dot of its scaled bitmap that the rotation brings there, and a text its glyphs one after
another, each where the pen has come along the baseline. That BAND_RENDER is not taken while a glyph move is in hand,
and changes nothing with no band COMPOSING, is the model's choice (logs 29, 1). -/
def Obligations.BandRenderFillsTheBand : Prop :=
  (∀ (s : State) (i : Nat) (l : Label), s.InService → s.ring.composing = some i → s.gst.moving = none →
    s.lbq.label (s.ring.band i).slot = some l → s.csq.stage ≠ .waiting → s.csq.stage ≠ .compacting →
    let b := s.ring.band i
    let lines := (List.range b.count).map fun j => labelLine s.gst s.ram l (b.first + j)
    let first (slot : Option Nat) : Option Seat :=
      slot.bind fun i => (s.lbq.label i).map fun l => ⟨i, l.done + 1, 0⟩
    ∃ t, exec .bandRender s = .next t ∧ t.hpu = s.hpu ∧ t.csq = s.csq ∧
      (∃ seat, ({ s with
          ram := t.ram
          ring := { s.ring with
            bands := s.ring.bands.set i { b with state := .ready, dots := lines.map dotCount }, seat := seat }
          } : State).OnlyFollows t ∧
        (b.first + 16 < l.length → seat = some ⟨b.slot, b.copy, b.first + 16⟩) ∧
        (l.length ≤ b.first + 16 → b.copy < l.copies → l.finishing = false → seat = some ⟨b.slot, b.copy + 1, 0⟩) ∧
        (∀ before behind, l.length ≤ b.first + 16 → l.copies ≤ b.copy ∨ l.finishing = true →
          s.lbq.queue = before ++ b.slot :: behind → b.slot ∉ before → seat = first behind.head?)) ∧
      t.ring.band i = { b with state := .ready, dots := lines.map dotCount } ∧
      (∀ j k, j < b.count → k < 104 → t.ram.read (1664 * i + 104 * j + k) = byteAt (lines.getD j []) k) ∧
      ∀ a, a < 1664 * i ∨ 1664 * i + 104 * b.count ≤ a → t.ram.read a = s.ram.read a) ∧
  (∀ s : State, s.ring.composing = none ∨ s.gst.moving ≠ none → exec .bandRender s = .next s) ∧
  (∀ (g : Gst) (ram : Memory) (l : Label) (x y : Nat), x < 832 →
    (byteAt (labelLine g ram l y) (x / 8)).getLsbD (7 - x % 8) = labelDot g ram l x y) ∧
  (∀ (g : Gst) (ram : Memory) (l : Label) (p : Placement) (x y : Nat),
    labelDot g ram { l with placements := [] } x y = false ∧
    labelDot g ram { l with placements := l.placements ++ [p] } x y =
      p.apply g ram x y (labelDot g ram l x y)) ∧
  (∀ (g : Gst) (ram : Memory) (px py w h op x y : Nat) (d : Bool),
    (Placement.rule px py w h op).apply g ram x y d =
      if px ≤ x ∧ x < px + w ∧ py ≤ y ∧ y < py + h then op.testBit (if d then 3 else 1) else d) ∧
  (∀ (g : Gst) (ram : Memory) (px py w h op : Nat) (bitmap : List Byte) (x y : Nat) (d : Bool),
    (Placement.image px py w h op bitmap).apply g ram x y d =
      if px ≤ x ∧ x < px + w ∧ py ≤ y ∧ y < py + h then
        let source := (byteAt bitmap ((y - py) * ((w + 7) / 8) + (x - px) / 8)).getLsbD (7 - (x - px) % 8)
        op.testBit ((if source then 1 else 0) + if d then 2 else 0)
      else d) ∧
  (∀ (g : Gst) (ram : Memory) (id px py op : Nat) (form : Transform) (x y : Nat) (d : Bool),
    let e := g.entry id
    let wide := e.width * form.hm
    let high := e.height * form.vm
    let across := if form.turns % 2 = 0 then wide else high
    let down := if form.turns % 2 = 0 then high else wide
    let u := x - px
    let v := y - py
    let column := match form.turns % 4 with | 0 => u | 1 => v | 2 => wide - 1 - u | _ => wide - 1 - v
    let row := match form.turns % 4 with | 0 => v | 1 => high - 1 - u | 2 => high - 1 - v | _ => u
    let place := row / form.vm * ((e.width + 7) / 8) + column / form.hm / 8
    let source := (ram.read (26624 + 8 * e.base + place)).getLsbD (7 - column / form.hm % 8)
    (Placement.glyph id px py op form).apply g ram x y d =
      if px ≤ x ∧ x < px + across ∧ py ≤ y ∧ y < py + down then
        op.testBit ((if source then 1 else 0) + if d then 2 else 0)
      else d) ∧
  (∀ (g : Gst) (ram : Memory) (px py op : Nat) (form : Transform) (spacing : Int) (before : List Nat) (id x y : Nat)
      (d : Bool),
    let wide (i : Nat) : Int := ((g.entry i).width * form.hm : Nat)
    let high : Int := ((g.entry id).height * form.vm : Nat)
    let moved : Int := (before.map fun i => wide i + spacing).sum
    let turns := form.turns % 4
    let left : Int := if turns = 0 then px + moved else if turns = 2 then px - moved - wide id + 1 else px
    let top : Int := if turns = 1 then py + moved else if turns = 3 then py - moved - wide id + 1 else py
    let across : Int := if form.turns % 2 = 0 then wide id else high
    let down : Int := if form.turns % 2 = 0 then high else wide id
    let earlier := (Placement.text px py op form spacing before).apply g ram x y d
    (Placement.text px py op form spacing []).apply g ram x y d = d ∧
    (Placement.text px py op form spacing (before ++ [id])).apply g ram x y d =
      if left ≤ x ∧ (x : Int) < left + across ∧ top ≤ y ∧ (y : Int) < top + down then
        (Placement.glyph id 0 0 op form).apply g ram (x - left).toNat (y - top).toNat earlier
      else earlier)

/-- R98 to R103: the strobes of a line. The passes of a phase follow from the dot count: one of all four segments within
the power limit, two of two segments within twice the limit, and four of one segment beyond it, and every segment is
driven once in each phase. A dot that prints is heated for the full strobe time when it is Fresh and for the Held strobe
time when it is Held, and a dot that does not print is not heated. Against line 0 of a copy, and when more than 100,000
microseconds have passed or the history clock is stopped, the history is blank. -/
def Obligations.EveryDotIsHeatedForItsTime : Prop :=
  (∀ dots limit : Nat, (passSegments dots limit).flatten.Perm [0, 1, 2, 3] ∧
    passSegments dots limit =
      if dots ≤ limit then [[0, 1, 2, 3]] else if dots ≤ 2 * limit then [[0, 2], [1, 3]] else [[0], [1], [2], [3]]) ∧
  (∀ (s : State) (i : Nat),
    let blank : Line := List.replicate 104 0
    (i = 0 → s.historyFor i = blank) ∧
    (s.hdu.clock = none → s.historyFor i = blank) ∧
    (∀ passed, 0 < i → s.hdu.clock = some passed →
      s.historyFor i = if 100000 < passed then blank else s.hdu.history)) ∧
  (∀ (line history : Line) (dots limit full held x : Nat), line.length = 104 → history.length = 104 → x < 832 →
    held ≤ full →
    let on (l : Line) : Bool := (byteAt l (x / 8)).getLsbD (7 - x % 8)
    let heat := ((strobePulses line (freshDots line history) (passSegments dots limit) full held).map fun p =>
      if on p.latched && p.segments.contains (x / 208) then p.micros else 0).sum
    heat = if on line = false then 0 else if on history then held else full) ∧
  (∀ (darkness : Nat) (t : Int),
    fullStrobe darkness t = (300 + 10 * darkness) *
      (if t ≤ 10 then 130 else if t ≤ 20 then 120 else if t ≤ 30 then 110 else if t ≤ 40 then 100
       else if t ≤ 50 then 92 else if t ≤ 60 then 85 else if t ≤ 70 then 78 else 72) / 100 ∧
    heldStrobe darkness t = fullStrobe darkness t * 70 / 100) ∧
  (∀ (s : State) (i dots : Nat) (line : Line),
    (s.strobeLine i line dots).hdu.history = line ∧ (s.strobeLine i line dots).hdu.clock = some 0 ∧
    (s.strobeLine i line dots).hdu.current = some ⟨line, dots⟩ ∧
    (dots = 0 → (s.strobeLine i line dots).hdu.strobe = [] ∧
      (s.strobeLine i line dots).hdu.strobed = s.hdu.strobed) ∧
    (0 < dots → (s.strobeLine i line dots).hdu.strobed = s.hdu.strobed + 1 ∧
      (s.strobeLine i line dots).hdu.strobe = strobePulses line (freshDots line (s.historyFor i))
        (passSegments dots s.nvs.mech.powerLimit) (fullStrobe s.nvs.profile.darkness s.hdu.temp)
        (heldStrobe s.nvs.profile.darkness s.hdu.temp)))

/-! ### Inputs and the engine -/

/-- R106 to R108, R120, R143 to R146, R148: a temperature sample is clamped, restarts both ways in which a sample falls
due, and sets the thermal state by the first row that matches. A new critical request is reported, halts a live engine,
and joins the causes of a halt. A running engine goes to HOLDING when the hold request alone is set: HOLD is posted and
a soft stop begins, or the motor at S or below is STOPPED at once. The sample that clears the request posts HOLD
RELEASED and returns the engine to RUNNING, whose run goes on now or when the soft stop has ended. The edge find of a
run released with registration UNKNOWN, and what a hold leaves of an opening retract, are the model's choice (logs 32,
35). -/
def Obligations.TemperatureSampleSetsTheThermalState : Prop :=
  ∀ (s : State) (degrees : Int), s.InService → s.csq.stage ≠ .waiting → s.csq.stage ≠ .compacting →
    let d := max (-40) (min 125 degrees)
    let p := s.nvs.profile
    let thermal :=
      if (s.nvs.mech.critical : Int) ≤ d then Thermal.critical
      else if (p.hot : Int) ≤ d then (if s.hdu.thermal = .critical then .critical else .hot)
      else if (p.hot : Int) - 7 ≤ d then s.hdu.thermal
      else .normal
    let u : State := { s with hdu := { s.hdu with
      temp := d, strobed := 0, sampleTimer := some 100, thermal := thermal } }
    let report (c : EventCode) : Event := ⟨c, 0, 0xFFFF, BitVec.ofInt 16 d⟩
    let newly := thermal = .critical ∧ s.hdu.thermal ≠ .critical
    let critical := u.post (report .headCritical)
    let slowed : State :=
      if s.fmu.stop ≠ none then u
      else if s.fmu.backward = true ∨ s.fmu.speed ≤ s.nvs.mech.startSpeed ∨ s.fmu.mode = .stopped then u.movementCut
      else { u with
        fmu := { u.fmu with mode := .stopping, stop := some .soft, why := some .hold }
        msu := { u.msu with find := none } }
    let held := ({ slowed with eng := { slowed.eng with cond := .holding } } : State).post (report .hold)
    let runs := ({ u with eng := { u.eng with cond := .running } } : State).post (report .holdReleased)
    ∃ t, exec (.temperatureSample degrees) s = .next t ∧ t.hdu = u.hdu ∧ t.fmu.pos = s.fmu.pos ∧ t.ram = s.ram ∧
      t.nvs = s.nvs ∧
      (¬ newly ∨ s.eng.cond.live = false → t.hpu = s.hpu ∧ t.csq = s.csq) ∧
      (newly → s.eng.cond.live = false → s.eng.cond ≠ .halted → critical.OnlyFollows t) ∧
      (newly → s.eng.cond.live = true →
        t.eng.cond = .halted ∧ t.eng.causes = 4 ∧ t.eng.primary = some .headCritical ∧ t.eng.haltPos = s.fmu.pos ∧
        (critical.asHalted 4 .headCritical).MotionEnds t (.error .headCritical none (.detail (BitVec.ofInt 32 d)))) ∧
      (newly → s.eng.cond = .halted →
        ({ critical with
          eng := { critical.eng with causes := s.eng.causes ||| 4, settle := none } } : State).OnlyRests t) ∧
      (s.eng.cond = .running → thermal = .hot → t.eng.cond = .holding ∧ held.OnlyRests t) ∧
      (¬ newly → s.eng.cond = .running → thermal ≠ .hot → u.OnlyFollows t) ∧
      (s.eng.cond = .holding → thermal = .normal →
        (if s.fmu.mode = .stopping then runs else runs.beginRun).OnlyFollows t) ∧
      (¬ newly → s.eng.cond = .holding → thermal ≠ .normal → u.OnlyRests t) ∧
      (¬ newly → s.eng.cond ≠ .running → s.eng.cond ≠ .holding → u.OnlyFollows t)

/-- R35, R95, R97, R121, R140, R144 to R146, R148, R149: the head state changes. An opening is reported; it ends a free
move with HEAD OPEN and the motor STOPPED where it stands; it halts a live engine with HEAD OPEN as the primary cause,
the printing copy spoiled, the ring flushed and HALTED posted, and ends a RESUME in recovery; and it joins the causes of
a halt, whose stop it makes dead. A closing is reported, and starts the settle timer of a clear halt under auto-recover.
That the row carries no level and turns the state over is the model's choice (log 17). -/
def Obligations.HeadStateChangeIsReported : Prop :=
  ∀ s : State, s.InService → s.csq.stage ≠ .waiting → s.csq.stage ≠ .compacting →
    ∃ t, exec .headStateChange s = .next t ∧ t.eng.headOpen = !s.eng.headOpen ∧ t.fmu.pos = s.fmu.pos ∧
      t.ram = s.ram ∧ t.nvs = s.nvs ∧ t.hdu = s.hdu ∧
      let u : State := { s with eng := { s.eng with headOpen := !s.eng.headOpen } }
      let report (c : EventCode) : Event := ⟨c, 0, 0xFFFF, s.fmu.pos.setWidth 16⟩
      let opened := u.post (report .headOpened)
      let fails : Ending := .error .headOpen none (.position s.fmu.pos)
      (s.eng.headOpen = false → s.eng.cond.live = false → s.eng.cond ≠ .halted → s.fmu.motion = none →
        t.hpu = s.hpu ∧ t.csq = s.csq ∧ opened.OnlyFollows t) ∧
      (s.eng.headOpen = false → s.eng.cond.live = false → s.eng.cond ≠ .halted → s.fmu.motion ≠ none →
        opened.freeMoveFailed.MotionEnds t fails) ∧
      (s.eng.headOpen = false → s.eng.cond.live = true →
        t.eng.cond = .halted ∧ t.eng.causes = 1 ∧ t.eng.primary = some .headOpen ∧ t.eng.haltPos = s.fmu.pos ∧
        t.fmu.mode = .stopped ∧ t.fmu.speed = 0 ∧ t.lbq.printing = none ∧ t.msu.reg.state = .unknown ∧
        t.eng.interrupted = (s.lbq.printing.map fun p => ⟨p.slot, p.copy⟩) ∧
        (opened.asHalted 1 .headOpen).MotionEnds t fails) ∧
      (s.eng.headOpen = false → s.eng.cond = .halted →
        t.eng.cond = .halted ∧ t.eng.causes = s.eng.causes ||| 1 ∧ t.eng.primary = s.eng.primary ∧
        t.eng.settle = none ∧ t.fmu.mode = .stopped ∧ t.hpu = s.hpu ∧ t.csq = s.csq ∧
        ({ opened with
          fmu := s.fmu.atRest
          eng := { opened.eng with causes := s.eng.causes ||| 1, settle := none } } : State).OnlyRests t) ∧
      (s.eng.headOpen = true →
        let settles := s.eng.cond = .halted ∧ s.nvs.profile.autoRecover = true ∧
          (s.eng.primary = some .headOpen ∨ s.eng.primary = some .mediaOut) ∧ u.haltClear = true
        let v := u.post (report .headClosed)
        t.hpu = s.hpu ∧ t.csq = s.csq ∧
        ({ v with eng := { v.eng with settle := if settles then some 1000 else s.eng.settle } } : State).OnlyFollows t)

/-- R35, R121, R126 to R128, R131, R144 to R146: an idle sample. Three that agree on EMPTY set the media-absent
condition and report it; one that leaves the debounced class other than EMPTY clears the condition, with the empty-run
count, and reports that; else nothing but the sensor's own record has changed. The condition set in a live engine halts
it with MEDIA OUT; in a halt it joins the causes; in a free move registration is lost, and a forward move fails with
MEDIA OUT: at S or below at once, else when a fault stop has ended. The same goes for the condition set by a step
sample, where REGISTRATION LOST may halt the engine with it or alone. The candidate class dropped at a sample of the
other kind, the outcome of a stop that took over another, and that IDLE_SAMPLE changes nothing while the idle-sample
timer is stopped, are the model's choice (logs 22, 25, 11). -/
def Obligations.IdleSamplesAreDebounced : Prop :=
  (∀ (s : State) (level : Byte), s.InService → s.msu.idleTimer ≠ none →
    s.csq.stage ≠ .waiting → s.csq.stage ≠ .compacting →
    let p := s.nvs.profile
    let marker := match s.msu.calib with
      | some c => if c.phase = .survey then p.marker else c.threshold
      | none => p.marker
    let cls := if level.toNat < marker then Class.media else if level.toNat < p.empty then .marker else .empty
    let agrees := s.msu.lastKind = .idle ∧ s.msu.cand ≠ none
    let n := if agrees then s.msu.agree + 1 else 1
    let same := cls = .empty ↔ s.msu.cls = .empty
    let m : Msu := { s.msu with raw := level, lastKind := .idle, idleTimer := some 50 }
    let after : Msu :=
      if same then { m with cand := none, agree := 0 }
      else if n = 3 then { m with cls := cls, cand := none, agree := 0 }
      else { m with cand := some cls, agree := n, candPos := if agrees then s.msu.candPos else s.fmu.pos }
    let gone := after.cls = .empty ∧ s.msu.cls ≠ .empty ∧ s.msu.absent = false
    let loaded := after.cls ≠ .empty ∧ s.msu.absent = true
    let out := ({ s with msu := { after with absent := true } } : State).post
      ⟨.mediaOut, 1, 0xFFFF, s.fmu.pos.setWidth 16⟩
    ∃ t, exec (.idleSample level) s = .next t ∧ t.msu.raw = level ∧ t.fmu.pos = s.fmu.pos ∧ t.ram = s.ram ∧
      t.nvs = s.nvs ∧ t.hdu = s.hdu ∧ t.msu.cls = after.cls ∧ t.msu.cand = after.cand ∧ t.msu.agree = after.agree ∧
      (¬ gone → t.hpu = s.hpu ∧ t.csq = s.csq) ∧
      (¬ gone → ¬ loaded → ({ s with msu := after } : State).OnlyFollows t) ∧
      (loaded → t.msu.absent = false ∧ t.msu.emptyRun = 0 ∧
        (({ s with msu := { after with absent := false, emptyRun := 0 } } : State).post
          ⟨.mediaLoaded, 0, 0xFFFF, 0⟩).OnlyFollows t) ∧
      (gone → t.msu.absent = true ∧
        (s.eng.cond.live = true →
          (out.asHalted 2 .mediaOut).MotionEnds t (.error .mediaOut none (.position s.fmu.pos))) ∧
        (s.eng.cond = .halted → t.hpu = s.hpu ∧ t.csq = s.csq ∧
          ({ out with eng := { out.eng with causes := s.eng.causes ||| 2, settle := none } } : State).OnlyRests t) ∧
        (s.eng.cond.live = false → s.eng.cond ≠ .halted → s.fmu.motion = none →
          t.hpu = s.hpu ∧ t.csq = s.csq ∧ out.OnlyFollows t) ∧
        (s.eng.cond.live = false → s.eng.cond ≠ .halted → s.fmu.motion ≠ none → s.fmu.goesBack = true →
          t.hpu = s.hpu ∧ t.csq = s.csq ∧
          ({ out with msu := { out.msu with reg := ⟨.unknown, none, false, 0⟩ } } : State).OnlyFollows t) ∧
        (s.eng.cond.live = false → s.eng.cond ≠ .halted → s.fmu.motion ≠ none → s.fmu.goesBack = false →
          s.fmu.stop = none → s.fmu.speed ≤ s.nvs.mech.startSpeed →
          out.freeMoveFailed.MotionEnds t (.error .mediaOut none (.position s.fmu.pos))))) ∧
  (∀ (s : State) (level : Byte), s.msu.idleTimer = none → exec (.idleSample level) s = .next s) ∧
  (∀ (w : State) (absent lost : Bool),
    let r := w.stopForFault absent lost
    let causes : BitVec 4 := (if absent then 2 else 0) ||| if lost then 8 else 0
    let primary : Cause := if absent then .mediaOut else .registrationLost
    let free := w.eng.cond.live = false ∧ w.eng.cond ≠ .halted ∧ w.fmu.motion ≠ none ∧ absent = true
    let reg : Registration := ⟨.unknown, none, false, 0⟩
    let atOnce := w.fmu.backward = true ∨ w.fmu.speed ≤ w.nvs.mech.startSpeed ∨ w.fmu.mode = .stopped
    let stronger := w.fmu.stop = some .fault ∨ w.fmu.stop = some .dead
    (w.eng.cond.live = true → absent = true ∨ lost = true →
      (w.asHalted causes primary).MotionOver r (.error primary.sense none (.position w.fmu.pos))) ∧
    (w.eng.cond.live = true → absent = false → lost = false → r = w) ∧
    (w.eng.cond.live = false → absent = false → r = w) ∧
    (w.eng.cond.live = false → w.eng.cond ≠ .halted → w.fmu.motion = none → r = w) ∧
    (w.eng.cond = .halted → absent = true →
      r = { w with eng := { w.eng with causes := w.eng.causes ||| 2, settle := none } }) ∧
    (free → w.fmu.goesBack = true ∨ stronger → r = { w with msu := { w.msu with reg := reg } }) ∧
    (free → w.fmu.goesBack = false → ¬ stronger → atOnce →
      w.freeMoveFailed.MotionOver r (.error .mediaOut none (.position w.fmu.pos))) ∧
    (free → w.fmu.goesBack = false → ¬ stronger → ¬ atOnce → r = { w with
      fmu := { w.fmu with mode := .stopping, stop := some .fault, why := some .mediaOut }
      msu := { w.msu with find := none, calib := none, reg := reg } }))

/-- R116, R123 to R125, R133, R134, R141, R142: with the run start conditions the engine enters RUNNING: presented media
is retracted first, and with registration UNKNOWN an edge find of one edge begins, or in CONTINUOUS mode the next line
is the top. Without them no run starts. A run whose horizon is 0 rests at S or below with the reason that the road
gives: starved it waits, at a closed gate it ends in PAUSED, with nothing left to print it ends in IDLE, where the
automatic present may follow, and with no top known it goes on by an edge find. When the horizon grows it has a step to
take again, and a released motor settles first. A motor that has rested for 2,000 ms is released. That a run starts in
the step that makes its conditions true, that an opening retract goes on to its edge find, and that MOTOR_RELEASE
changes nothing while its timer is stopped or the motor is not at rest, are the model's choice (logs 37, 33, 11). -/
def Obligations.RunsStartAndTheMotorIsReleased : Prop :=
  (∀ s : State, s.mayRun = true ↔ (s.eng.cond = .idle ∨ s.eng.cond = .paused) ∧ s.lbq.queue ≠ [] ∧ s.lbq.gate = true ∧
    s.eng.headOpen = false ∧ s.hdu.thermal = .normal ∧ s.msu.absent = false ∧ s.fmu.motion = none) ∧
  (∀ s : State, s.mayRun = false → exec .runStart s = .next s) ∧
  (∀ s : State, s.InService → s.mayRun = true → s.csq.stage ≠ .waiting → s.csq.stage ≠ .compacting →
    ∃ t, exec .runStart s = .next t ∧ t.hpu = s.hpu ∧ t.csq = s.csq ∧ s.OnlyFollows t ∧
      ({ s with eng := { s.eng with cond := .running } } : State).beginRun.OnlyFollows t ∧
      (s.fmu.present = .presented → s.fmu.offset ≠ 0 →
        t.eng.cond = .running ∧ t.fmu.mode = .printRun ∧ t.fmu.move = .retract ∧ t.fmu.present = .retracting ∧
        t.fmu.target = some (s.fmu.pos - BitVec.ofNat 32 s.fmu.offset) ∧ t.fmu.energised = true) ∧
      (s.fmu.present ≠ .presented → s.msu.reg.state = .unknown → s.nvs.profile.mode ≠ .continuous →
        (∀ e ∈ s.msu.edges, (e - s.fmu.pos).toInt ≤ 0) →
        t.eng.cond = .running ∧ t.fmu.mode = .printRun ∧ t.fmu.move = .find ∧ t.fmu.target = none ∧
        t.msu.find = some ⟨1, none, 0⟩ ∧ t.msu.edges = [] ∧ t.fmu.energised = true)) ∧
  (∀ u : State,
    let runs (v : State) : State := { v with fmu := { v.fmu with mode := .printRun, move := .run } }
    let top : Registration := ⟨.registered, some (u.fmu.pos + 1), true, 0⟩
    let v := u.beginFind 1
    (u.fmu.present = .presented → u.fmu.offset ≠ 0 → u.beginRun = { u with fmu := { u.fmu with
      mode := .printRun, move := .retract, present := .retracting
      target := some (u.fmu.pos - BitVec.ofNat 32 u.fmu.offset) } }) ∧
    (u.fmu.present = .presented → u.fmu.offset = 0 →
      u.beginRun = ({ u with fmu := { u.fmu with present := .atPrintLine } } : State).runOn) ∧
    (u.fmu.present ≠ .presented → u.beginRun = u.runOn) ∧
    (u.msu.reg.state ≠ .unknown → u.runOn = runs u) ∧
    (u.msu.reg.state = .unknown → u.nvs.profile.mode = .continuous →
      u.runOn = runs { u with msu := { u.msu with reg := top } }) ∧
    (u.msu.reg.state = .unknown → u.nvs.profile.mode ≠ .continuous →
      (v.findReached = false → u.runOn = { v with fmu := { v.fmu with mode := .printRun } }) ∧
      (v.findReached = true → u.runOn = runs { v with
        fmu := { v.fmu with target := none, speed := 0 }
        msu := { v.msu with
          find := none, reg := top
          edges := v.msu.edges.dropWhile fun e => decide ((e - (u.fmu.pos + 1)).toInt ≤ 0) } }))) ∧
  (∀ u : State, u.csq.stage ≠ .waiting → u.csq.stage ≠ .compacting → u.claim.inRun = true →
    let w := u.claim
    let h := w.horizon
    let t := u.conclude
    let resting (reason : Rest) : Fmu := { u.fmu with speed := 0, rest := reason, settling := false }
    let done : State := { u with fmu := u.fmu.atRest, eng := { u.eng with cond := .idle } }
    let presents := u.nvs.profile.afterBatch = true ∧ u.fmu.present = .atPrintLine ∧ u.eng.headOpen = false
    let tear := u.nvs.mech.tearOffset
    let ends := (¬ presents → done.OnlyRests t) ∧
      (presents → tear = 0 →
        ({ done with fmu := { done.fmu with present := .presented, offset := 0 } } : State).OnlyRests t) ∧
      (presents → tear ≠ 0 → ({ done with fmu := { done.fmu with
        mode := .freeMove, move := .present, target := some (u.fmu.pos + BitVec.ofNat 32 tear), present := .presenting
        offset := tear, motion := some ⟨0x00, .engine⟩ } } : State).OnlyRests t)
    (0 < h.count → t.fmu =
      if u.fmu.energised then { u.fmu with rest := .none }
      else { u.fmu with rest := .none, energised := true, settling := true, idleTimer := some 2000 }) ∧
    (h.count = 0 → u.fmu.speed ≤ u.nvs.mech.startSpeed →
      (∀ c line, h.beyond = .notHeld c line → t = { w with
        fmu := resting .starved, msu := { u.msu with idleTimer := some (u.msu.idleTimer.getD 50) } }) ∧
      (h.beyond = .gateClosed →
        ({ u with fmu := u.fmu.atRest, eng := { u.eng with cond := .paused } } : State).OnlyRests t) ∧
      (h.beyond = .nothingLeft → u.lbq.queue = [] → ends) ∧
      (h.beyond = .topUnknown → u.lbq.printing = none → u.lbq.queue = [] → ends) ∧
      (h.beyond = .topUnknown → u.lbq.printing ≠ none ∨ u.lbq.nextCopy ≠ none →
        ({ u with fmu := resting .topUnknown } : State).runOn.OnlyFollows t))) ∧
  (∀ s : State, s.InService → s.ring.composing ≠ none → s.gst.moving = none →
    exec .bandRender s = .next s.renderBand.conclude) ∧
  (∀ s : State, s.InService →
    exec .motorRelease s = .next
      (if s.fmu.energised = true ∧ s.fmu.idleTimer ≠ none ∧ s.fmu.speed = 0 ∧ s.fmu.settling = false then
        { s with fmu := { s.fmu with energised := false, idleTimer := none } }
      else s))

/-! ### Resets -/

/-- R19, R32, R42, R58, R106, R126, R139, R140, R158, R160, R164, Table 11-1: a port reset. What is in hand is dealt
with first: a band being rendered and a glyph being moved are finished, and the copy of a record write is left torn, not
valid, its other copy untouched. Then the port, the sequencer, the label queue, the motor and the head are as after
power-on, the sensor, the head state and the temperature are read afresh, DEFINED glyphs stay with a count of 0, DOOMED
ones are gone and their extents free, both working records, the other copies and the strap stay, and FAULTED stays
FAULTED. RESET is posted, then GLYPH RELEASED for each id released, in increasing order, then HEAD OPENED and HEAD
CRITICAL where they hold. Out of service it is ignored. That a band still COMPOSING is rendered before it is freed, the
values of the fields to which Table 11-1 gives none (the completion byte, the bus, the length of the data phase, the
strobe record, the candidate and halt positions, the applied disposition and its label), and that the rest of the last
granule moves with a glyph, is the model's choice (logs 38, 4, 55). -/
def Obligations.PortResetClearsTheEngine : Prop :=
  (∀ (s : State) (value : Byte) (i : Inputs), s.InService → s.gst.entries.length = 64 →
    let d := max (-40) (min 125 i.degrees)
    let p := s.nvs.profile
    let cls := if i.level.toNat < p.marker then Class.media else if i.level.toNat < p.empty then .marker else .empty
    let thermal := if (s.nvs.mech.critical : Int) ≤ d then Thermal.critical
      else if (p.hot : Int) ≤ d then .hot else .normal
    let doomed := (List.range 64).filter fun id => decide ((s.gst.entry id).state = .doomed)
    let extent (id : Nat) : Nat := ((s.gst.entry id).size + 7) / 8
    let posted : List Event :=
      [⟨.reset, 3, 0xFFFF, 0⟩] ++ (doomed.map fun id => ⟨.glyphReleased, 0, 0xFFFF, BitVec.ofNat 16 id⟩) ++
      (if i.headOpen then [⟨.headOpened, 0, 0xFFFF, 0⟩] else []) ++
      (if thermal = .critical then [⟨.headCritical, 0, 0xFFFF, BitVec.ofInt 16 d⟩] else [])
    ∃ t, exec (.portReset value i) s = .next t ∧
      t = { State.reset with
        csq := { State.reset.csq with sense := ⟨.resetOccurred, 0, none, .detail 3⟩ }
        ring := ⟨List.replicate 16 .blank, s.ring.tail, s.ring.tail, none⟩
        hdu := { State.reset.hdu with temp := d, thermal := thermal }
        msu := { State.reset.msu with raw := i.level, cls := cls, absent := decide (cls = .empty) }
        eng := { State.reset.eng with
          cond := if s.eng.cond = .faulted then .faulted else .idle
          headOpen := i.headOpen, events := posted.take 16, overflow := posted.length - 16 }
        gst := t.gst, nvs := t.nvs, ram := t.ram, strap := s.strap, pending := s.pending } ∧
      t.gst.moving = none ∧ t.gst.cursor = none ∧
      (s.gst.moving = none ∨ s.gst.cursor = none →
        (∀ id < 64, t.gst.entry id = if (s.gst.entry id).state = .doomed then ⟨.empty, 0, 0, 0, 0, 0⟩
          else { s.gst.entry id with count := 0 }) ∧
        t.gst.free = doomed.foldl (fun l id => freeInsert (s.gst.entry id).base (extent id) l) s.gst.free ∧
        t.ram = s.renderBand.ram ∧ (s.ring.composing = none → t.ram = s.ram)) ∧
      (∀ cursor id, s.gst.cursor = some cursor → s.gst.moving = some id → id < 64 →
        (∀ other < 64, t.gst.entry other = if (s.gst.entry other).state = .doomed then ⟨.empty, 0, 0, 0, 0, 0⟩
          else { s.gst.entry other with
            base := if other = id then cursor else (s.gst.entry other).base, count := 0 }) ∧
        t.ram = s.renderBand.ram.writeBlock (26624 + 8 * cursor)
          (s.renderBand.ram.readBlock (26624 + 8 * (s.gst.entry id).base) (8 * extent id)) ∧
        t.gst.free = doomed.foldl
          (fun l other => freeInsert (if other = id then cursor else (s.gst.entry other).base) (extent other) l)
          (freeCarve cursor (extent id) (freeInsert (s.gst.entry id).base (extent id) s.gst.free))) ∧
      ((∀ w, s.csq.stage ≠ .writing w) → t.nvs = s.nvs) ∧
      (∀ w, s.csq.stage = .writing w → ∃ left : List Byte,
        left.length = (if w.record = 0 then 14 else 20) ∧ (⟨left⟩ : StoredCopy).valid w.record = false ∧
        t.nvs = s.nvs.writeCopy w left)) ∧
  (∀ (s : State) (value : Byte) (i : Inputs), ¬ s.InService → exec (.portReset value i) s = .next s)

/-- R20, R32, R42, R106, R126, R140, R158, R160, R163 to R165, Table 11-1: a power-on or pin reset, whatever came
before. The RAM test makes four passes over the offsets in increasing order, with 0x55, 0xAA, the low byte of the offset
and 0x00, and stops at the first byte that does not read back as written. With a passed test the memories read 0x00 and
the working records come from the store, in which the copy of a write in hand is torn: the mechanism record, or its
defaults, and the profile of its power-up slot, or, where that has no selected copy or does not agree, the default
profile, its hot threshold and its tolerance lowered as far as the mechanism record requires; each default is reported.
With a failed one the engine is FAULTED with the offset in its sense record, the memories hold what the last pass wrote
as it reads back (the model's choice, log 9), and the records are the defaults. All the rest of the machine is as Table
11-1 gives it, the fields to which it gives no value as State.reset holds them (the completion byte, the bus, the length
of the data phase, the ring's head and tail, the strobe record, the candidate and halt positions, the applied
disposition and its label: the model's choice, log 4), and RESET, NVM DEFAULTED, HEAD OPENED and HEAD CRITICAL are
posted in that order. While the reset input is held, and while the sequence is in progress, the port is out of service:
a band render and a glyph move in hand have been finished, the motor is STOPPED, a record copy write has stopped where
it stands, and the rest of the machine waits for the end of the sequence (the model's choices, logs 16, 19 and 39); that
the rest of the last granule moves with a glyph is another (log 55). -/
def Obligations.PowerUpSetsEverything : Prop :=
  (∀ (s : State) (p : PowerUp) (row : Instr) (kind : Byte),
    (row, kind) ∈ [(Instr.powerOnReset p, (1 : Byte)), (.pinReset p, 2)] → p.ends = true →
    let sound (pass a : Nat) : Prop := passReadBack p.misreads pass a = passPattern pass a
    let stored := (s.tearWrite p.inputs.torn).nvs.decayed p.decay
    let d := max (-40) (min 125 p.inputs.degrees)
    let ready (t : State) (nvs : Nvs) (sense : Sense) (cond : Condition) (own : List Event) : Prop :=
      let level := p.inputs.level
      let cls := if level.toNat < nvs.profile.marker then Class.media
        else if level.toNat < nvs.profile.empty then .marker else .empty
      let thermal := if (nvs.mech.critical : Int) ≤ d then Thermal.critical
        else if (nvs.profile.hot : Int) ≤ d then .hot else .normal
      t = { State.reset with
        csq := { State.reset.csq with sense := sense }
        hdu := { State.reset.hdu with temp := d, thermal := thermal }
        msu := { State.reset.msu with raw := level, cls := cls, absent := decide (cls = .empty) }
        eng := { State.reset.eng with
          cond := cond, headOpen := p.inputs.headOpen
          events := [⟨.reset, kind, 0xFFFF, 0⟩] ++ own ++
            (if p.inputs.headOpen then [⟨.headOpened, 0, 0xFFFF, 0⟩] else []) ++
            (if thermal = .critical then [⟨.headCritical, 0, 0xFFFF, BitVec.ofInt 16 d⟩] else []) }
        nvs := nvs, ram := t.ram, strap := p.strap, pending := s.pending }
    ∃ t, exec row s = .next t ∧
      ((∀ pass < 4, ∀ a < 51200, sound pass a) → t.ram = ⟨[]⟩ ∧
        ready t stored.powerUp.1 ⟨.resetOccurred, 0, none, .detail (kind.setWidth 32)⟩ .idle stored.powerUp.2) ∧
      (∀ pass offset, pass < 4 → offset < 51200 → ¬ sound pass offset → (∀ a < offset, sound pass a) →
        (∀ q < pass, ∀ a < 51200, sound q a) →
        (∀ a < 51200, t.ram.read a = passReadBack p.misreads pass a) ∧
        ready t { stored with profile := .default, mech := .default }
          ⟨.ramFault, 0, none, .detail (BitVec.ofNat 32 offset)⟩ .faulted [])) ∧
  (∀ a : Nat, passPattern 0 a = 0x55 ∧ passPattern 1 a = 0xAA ∧ passPattern 2 a = BitVec.ofNat 8 a ∧
    passPattern 3 a = 0x00) ∧
  (∀ (l : List Misread) (pass a : Nat), (∀ m ∈ l, m.pass = pass → m.offset ≠ a) →
    passReadBack l pass a = passPattern pass a) ∧
  (∀ (before : List Misread) (m : Misread) (after : List Misread),
    (∀ k ∈ before, k.pass = m.pass → k.offset ≠ m.offset) →
    passReadBack (before ++ m :: after) m.pass m.offset = passPattern m.pass m.offset ^^^ m.bits) ∧
  (∀ (s : State) (torn : List Byte),
    ((∀ w, s.csq.stage ≠ .writing w) → s.tearWrite torn = s) ∧
    (∀ w, s.csq.stage = .writing w → ∃ left : List Byte,
      left.length = (if w.record = 0 then 14 else 20) ∧ (⟨left⟩ : StoredCopy).valid w.record = false ∧
      s.tearWrite torn = { s with nvs := s.nvs.writeCopy w left })) ∧
  (∀ n : Nvs,
    let mech := match n.load 0 with
      | some m => Mechanism.ofBytes (copyRecord 0 m)
      | none => ⟨96, 120, 200, 48, 416, 75, 48, 0⟩
    let record := mech.powerSlot + 1
    let defaulted (r : Nat) : Event := ⟨.nvmDefaulted, 0, 0xFFFF, BitVec.ofNat 16 r⟩
    let own := if n.load 0 = none then [defaulted 0] else []
    let hot := if 65 ≤ mech.critical then 60 else mech.critical - 5
    let tolerance := if 12 ≤ mech.sensorOffset / 2 then 12 else mech.sensorOffset / 2
    (∀ b, n.load record = some b → Agrees (Profile.ofBytes (copyRecord record b)) mech →
      n.powerUp = ({ n with profile := Profile.ofBytes (copyRecord record b), mech := mech }, own)) ∧
    ((∀ b, n.load record = some b → ¬ Agrees (Profile.ofBytes (copyRecord record b)) mech) →
      n.powerUp = ({ n with
        profile := ⟨.gap, 128, 224, 800, 24, 800, 8, 15, hot, tolerance, false, false, false, 0⟩, mech := mech },
        own ++ [defaulted record]))) ∧
  (∀ (s : State) (p : PowerUp) (row : Instr) (service : Service),
    (row, service) ∈ [(Instr.resetInputHeld, Service.held), (.pinReset p, .starting), (.powerOnReset p, .starting)] →
    row = .resetInputHeld ∨ p.ends = false →
    let stops : Prop := ∃ w, s.csq.stage = .writing w
    ∃ t, exec row s = .next t ∧
    t = { s with
      hpu := { State.reset.hpu with service := service, phase := t.hpu.phase }
      csq := { State.reset.csq with sense := s.csq.sense, stage := t.csq.stage }
      fmu := { s.fmu.atRest with motion := none }
      msu := { s.msu with find := none, calib := none }
      gst := t.gst, ring := s.renderBand.ring, ram := t.ram } ∧
    (stops → t.hpu.phase = .execute ∧ t.csq.stage = s.csq.stage) ∧
    (¬ stops → t.hpu.phase = .free ∧ t.csq.stage = .idle) ∧
    t.gst.moving = none ∧ t.gst.cursor = none ∧
    (s.gst.moving = none ∨ s.gst.cursor = none →
      t.ram = s.renderBand.ram ∧ t.gst = { s.gst with moving := none, cursor := none }) ∧
    (∀ cursor id, s.gst.cursor = some cursor → s.gst.moving = some id →
      let e := s.gst.entry id
      let g := (e.size + 7) / 8
      t.gst = ⟨s.gst.entries.set id { e with base := cursor },
        freeCarve cursor g (freeInsert e.base g s.gst.free), none, none⟩ ∧
      t.ram = s.renderBand.ram.writeBlock (26624 + 8 * cursor)
        (s.renderBand.ram.readBlock (26624 + 8 * e.base) (8 * g))))

/-! ### What every step keeps -/

/-- The model's own invariant of the memories of Table 11-2 (log 49): they stay in their canonical form, so that equal
contents are equal data. -/
def Obligations.MemoryFormIsKept : Prop :=
  ∀ s t : State, s.ram.wf = true → step s = .next t → t.ram.wf = true

/-- R154: both working records stay well formed and agree, in every step; what a calibration will put in force is in
range all through its phases. -/
def Obligations.WorkingRecordsStayWellFormed : Prop :=
  ∀ s t : State, s.RecordsWf → step s = .next t → t.RecordsWf

/-- R152, R153: the event queue never holds more than 16 records, the overflow count stays at 65,535 and the read cursor
within a record. -/
def Obligations.EventQueueStaysBounded : Prop :=
  ∀ s t : State, s.eng.QueueWf → step s = .next t → t.eng.QueueWf

/-- R5 to R10, R14, R23, R30: a command is at work only in EXECUTE or waits in DATA OUT for its payload, no block is in
hand before the twelfth byte or after the command's end, and the byte timeout runs only while bytes cross the port;
every step keeps this. -/
def Obligations.PortAndSequencerAgree : Prop :=
  ∀ s t : State, s.PortWf → step s = .next t → t.PortWf

/-- R110: the position changes by 1 in a motor step and is set to 0 by a reset; no other row moves the media. That no
row adds a row to the queue or takes one from it is the model's choice (log 1). -/
def Obligations.OnlyMotorStepsMoveTheMedia : Prop :=
  ∀ (i : Instr) (s t : State), exec i s = .next t → t.pending = s.pending ∧
    match i with
    | .lineStep _ _ => t.fmu.pos = s.fmu.pos ∨ t.fmu.pos = s.fmu.pos + 1
    | .backwardStep _ => t.fmu.pos = s.fmu.pos ∨ t.fmu.pos = s.fmu.pos - 1
    | .portReset _ _ => t.fmu.pos = s.fmu.pos ∨ t.fmu.pos = 0
    | .pinReset p | .powerOnReset p => t.fmu.pos = if p.ends then 0 else s.fmu.pos
    | _ => t.fmu.pos = s.fmu.pos

/-- R42, R44, R63, R80, Table 11-1: the machine right after a power-on reset whose test passed. It meets what every step
keeps, and every block holds what Table 11-1 gives it: the port and the sequencer, the stores, the label queue, the ring,
the head, the motor, the sensor, the supervisor and the memories. The inputs it has read (log 2), the store it has found,
with the defaults taken and reported (log 3), and the fields that have no value in the manual (log 4) are the model's
choice; of the last nothing is stated. -/
def Obligations.ResetMeetsTheInvariants : Prop :=
  let r := State.reset
  (r.ram.wf = true ∧ r.RecordsWf ∧ r.eng.QueueWf ∧ r.PortWf ∧ r.GlyphsWf ∧ r.lbq.PoolBalanced) ∧
  (r.hpu.phase = .free ∧ r.hpu.service = .inService ∧ r.hpu.mask = 0 ∧ r.hpu.drq = false ∧ r.hpu.cirq = false ∧
    r.hpu.misuse = false ∧ r.hpu.breakPending = false ∧ r.hpu.seq = 0 ∧ r.hpu.latch = 0 ∧ r.hpu.counter = 0 ∧
    r.hpu.byteTimer = none ∧ r.hpu.cmd = [] ∧ r.hpu.result = []) ∧
  r.csq = ⟨[], [], .idle, ⟨.resetOccurred, 0x00, none, .detail 1⟩, none, 0⟩ ∧
  r.gst = ⟨List.replicate 64 ⟨.empty, 0, 0, 0, 0, 0⟩, [⟨0, 2048⟩], none, none⟩ ∧
  r.lbq = ⟨List.replicate 8 none, [], 1024, true, none⟩ ∧
  (r.ring.bands.length = 16 ∧ (∀ b ∈ r.ring.bands, b.state = .free) ∧ r.ring.seat = none) ∧
  (r.hdu.history = List.replicate 104 0 ∧ r.hdu.clock = none ∧ r.hdu.current = none ∧ r.hdu.thermal = .normal ∧
    r.hdu.strobed = 0 ∧ r.hdu.sampleTimer = some 100) ∧
  r.fmu = ⟨0, 0, false, .stopped, none, none, none, .none, none, .none, none, .atPrintLine, 0, false, false, none⟩ ∧
  (r.msu.lastKind = .reset ∧ r.msu.cand = none ∧ r.msu.agree = 0 ∧ r.msu.absent = false ∧ r.msu.emptyRun = 0 ∧
    r.msu.edges = [] ∧ r.msu.lastEdge = none ∧ r.msu.reg = ⟨.unknown, none, false, 0⟩ ∧ r.msu.lastLen = none ∧
    r.msu.find = none ∧ r.msu.calib = none ∧ r.msu.idleTimer = some 50) ∧
  (r.eng.cond = .idle ∧ r.eng.causes = 0 ∧ r.eng.primary = none ∧ r.eng.interrupted = none ∧ r.eng.settle = none ∧
    r.eng.overflow = 0 ∧ r.eng.cursor = 0) ∧
  (∀ a, r.ram.read a = 0) ∧
  (r.eng.headOpen = false ∧ r.msu.raw = 0 ∧ r.msu.cls = .media ∧ r.hdu.temp = 25 ∧ r.strap = false ∧
    r.nvs.profile = ⟨.gap, 128, 224, 800, 24, 800, 8, 15, 60, 12, false, false, false, 0⟩ ∧
    r.nvs.mech = ⟨96, 120, 200, 48, 416, 75, 48, 0⟩ ∧
    r.eng.events = [⟨.reset, 1, 0xFFFF, 0⟩, ⟨.nvmDefaulted, 0, 0xFFFF, 0⟩, ⟨.nvmDefaulted, 0, 0xFFFF, 1⟩]) ∧
  r.pending = []
end

