-- ==== Sys2Proof/Laws/Frames.lean ====
section
/-! SUPPORT. What each shared operation leaves alone: one lemma per operation, every component of State that it does not
touch, and the fields that later statements speak of within those that it does. -/

namespace Sys2Proof.Machine

/-- R152: an overflow report touches the queue and its count alone. -/
@[simp] theorem Eng.reportOverflow_keeps (e : Eng) :
    e.reportOverflow.cond = e.cond ∧ e.reportOverflow.headOpen = e.headOpen ∧ e.reportOverflow.causes = e.causes ∧
    e.reportOverflow.primary = e.primary ∧ e.reportOverflow.haltPos = e.haltPos ∧
    e.reportOverflow.interrupted = e.interrupted ∧ e.reportOverflow.settle = e.settle ∧
    e.reportOverflow.cursor = e.cursor := by
  simp only [Eng.reportOverflow]
  split <;> simp

/-- R160: a copy write touches the stored records alone. -/
@[simp] theorem Nvs.writeCopy_keeps (n : Nvs) (w : RecordWrite) (bytes : List Byte) :
    (n.writeCopy w bytes).profile = n.profile ∧ (n.writeCopy w bytes).mech = n.mech := ⟨rfl, rfl⟩

@[simp] theorem Nvs.setRecord_keeps (n : Nvs) (record : Nat) (r : StoredRecord) :
    (n.setRecord record r).profile = n.profile ∧ (n.setRecord record r).mech = n.mech := ⟨rfl, rfl⟩

/-- R158: decay touches the stored records alone. -/
@[simp] theorem Nvs.decayed_keeps (n : Nvs) (l : List Decay) :
    (n.decayed l).profile = n.profile ∧ (n.decayed l).mech = n.mech := by
  unfold Nvs.decayed
  induction l generalizing n with
  | nil => simp
  | cons d l ih => exact ⟨(ih _).1.trans rfl, (ih _).2.trans rfl⟩

@[simp] theorem State.post_keeps (s : State) (e : Event) :
    (s.post e).hpu = s.hpu ∧ (s.post e).csq = s.csq ∧ (s.post e).gst = s.gst ∧ (s.post e).lbq = s.lbq ∧
    (s.post e).ring = s.ring ∧ (s.post e).hdu = s.hdu ∧ (s.post e).fmu = s.fmu ∧ (s.post e).msu = s.msu ∧
    (s.post e).nvs = s.nvs ∧ (s.post e).ram = s.ram ∧ (s.post e).strap = s.strap ∧ (s.post e).pending = s.pending ∧
    (s.post e).eng.cond = s.eng.cond ∧ (s.post e).eng.headOpen = s.eng.headOpen ∧
    (s.post e).eng.causes = s.eng.causes ∧ (s.post e).eng.primary = s.eng.primary ∧
    (s.post e).eng.haltPos = s.eng.haltPos ∧ (s.post e).eng.interrupted = s.eng.interrupted ∧
    (s.post e).eng.applied = s.eng.applied ∧ (s.post e).eng.recLabel = s.eng.recLabel ∧
    (s.post e).eng.settle = s.eng.settle ∧ (s.post e).eng.cursor = s.eng.cursor := by
  simp only [State.post]
  (repeat' split) <;> simp

@[simp] theorem State.refuseAccess_keeps (s : State) (kind : Byte) :
    (s.refuseAccess kind).csq = s.csq ∧ (s.refuseAccess kind).gst = s.gst ∧ (s.refuseAccess kind).lbq = s.lbq ∧
    (s.refuseAccess kind).ring = s.ring ∧ (s.refuseAccess kind).hdu = s.hdu ∧ (s.refuseAccess kind).fmu = s.fmu ∧
    (s.refuseAccess kind).msu = s.msu ∧ (s.refuseAccess kind).nvs = s.nvs ∧ (s.refuseAccess kind).ram = s.ram ∧
    (s.refuseAccess kind).strap = s.strap ∧ (s.refuseAccess kind).pending = s.pending ∧
    (s.refuseAccess kind).hpu.service = s.hpu.service ∧ (s.refuseAccess kind).hpu.phase = s.hpu.phase ∧
    (s.refuseAccess kind).eng.cond = s.eng.cond ∧ (s.refuseAccess kind).eng.headOpen = s.eng.headOpen ∧
    (s.refuseAccess kind).eng.causes = s.eng.causes ∧ (s.refuseAccess kind).eng.primary = s.eng.primary ∧
    (s.refuseAccess kind).eng.haltPos = s.eng.haltPos ∧ (s.refuseAccess kind).eng.interrupted = s.eng.interrupted ∧
    (s.refuseAccess kind).eng.applied = s.eng.applied ∧ (s.refuseAccess kind).eng.recLabel = s.eng.recLabel ∧
    (s.refuseAccess kind).eng.settle = s.eng.settle ∧ (s.refuseAccess kind).eng.cursor = s.eng.cursor := by
  simp only [State.refuseAccess]
  (repeat' split) <;> simp

@[simp] theorem State.raiseReq_keeps (s : State) :
    s.raiseReq.csq = s.csq ∧ s.raiseReq.gst = s.gst ∧ s.raiseReq.lbq = s.lbq ∧ s.raiseReq.ring = s.ring ∧
    s.raiseReq.hdu = s.hdu ∧ s.raiseReq.fmu = s.fmu ∧ s.raiseReq.msu = s.msu ∧ s.raiseReq.eng = s.eng ∧
    s.raiseReq.nvs = s.nvs ∧ s.raiseReq.ram = s.ram ∧ s.raiseReq.strap = s.strap ∧ s.raiseReq.pending = s.pending ∧
    s.raiseReq.hpu.service = s.hpu.service ∧ s.raiseReq.hpu.phase = s.hpu.phase := by
  simp only [State.raiseReq]
  simp

@[simp] theorem State.complete_keeps (s : State) (keep : Bool) (e : Ending) :
    (s.complete keep e).gst = s.gst ∧ (s.complete keep e).lbq = s.lbq ∧ (s.complete keep e).ring = s.ring ∧
    (s.complete keep e).hdu = s.hdu ∧ (s.complete keep e).fmu = s.fmu ∧ (s.complete keep e).msu = s.msu ∧
    (s.complete keep e).eng = s.eng ∧ (s.complete keep e).nvs = s.nvs ∧ (s.complete keep e).ram = s.ram ∧
    (s.complete keep e).strap = s.strap ∧ (s.complete keep e).pending = s.pending ∧
    (s.complete keep e).hpu.service = s.hpu.service := by
  simp only [State.complete]
  simp

@[simp] theorem State.finish_keeps (s : State) (e : Ending) :
    (s.finish e).gst = s.gst ∧ (s.finish e).lbq = s.lbq ∧ (s.finish e).ring = s.ring ∧ (s.finish e).hdu = s.hdu ∧
    (s.finish e).fmu = s.fmu ∧ (s.finish e).msu = s.msu ∧ (s.finish e).eng = s.eng ∧ (s.finish e).nvs = s.nvs ∧
    (s.finish e).ram = s.ram ∧ (s.finish e).strap = s.strap ∧ (s.finish e).pending = s.pending ∧
    (s.finish e).hpu.service = s.hpu.service := by
  simp only [State.finish]
  simp

@[simp] theorem State.abort_keeps (s : State) :
    s.abort.gst = s.gst ∧ s.abort.lbq = s.lbq ∧ s.abort.ring = s.ring ∧ s.abort.hdu = s.hdu ∧ s.abort.fmu = s.fmu ∧
    s.abort.msu = s.msu ∧ s.abort.eng = s.eng ∧ s.abort.nvs = s.nvs ∧ s.abort.ram = s.ram ∧
    s.abort.strap = s.strap ∧ s.abort.pending = s.pending ∧ s.abort.hpu.service = s.hpu.service := by
  simp only [State.abort]
  simp

@[simp] theorem State.enterDataOut_keeps (s : State) (length : Nat) :
    (s.enterDataOut length).gst = s.gst ∧ (s.enterDataOut length).lbq = s.lbq ∧
    (s.enterDataOut length).ring = s.ring ∧ (s.enterDataOut length).hdu = s.hdu ∧
    (s.enterDataOut length).fmu = s.fmu ∧ (s.enterDataOut length).msu = s.msu ∧
    (s.enterDataOut length).eng = s.eng ∧ (s.enterDataOut length).nvs = s.nvs ∧
    (s.enterDataOut length).ram = s.ram ∧ (s.enterDataOut length).strap = s.strap ∧
    (s.enterDataOut length).pending = s.pending ∧ (s.enterDataOut length).hpu.service = s.hpu.service := by
  simp only [State.enterDataOut]
  simp

@[simp] theorem State.enterDataIn_keeps (s : State) (bytes : List Byte) :
    (s.enterDataIn bytes).gst = s.gst ∧ (s.enterDataIn bytes).lbq = s.lbq ∧ (s.enterDataIn bytes).ring = s.ring ∧
    (s.enterDataIn bytes).hdu = s.hdu ∧ (s.enterDataIn bytes).fmu = s.fmu ∧ (s.enterDataIn bytes).msu = s.msu ∧
    (s.enterDataIn bytes).eng = s.eng ∧ (s.enterDataIn bytes).nvs = s.nvs ∧ (s.enterDataIn bytes).ram = s.ram ∧
    (s.enterDataIn bytes).strap = s.strap ∧ (s.enterDataIn bytes).pending = s.pending ∧
    (s.enterDataIn bytes).hpu.service = s.hpu.service := by
  simp only [State.enterDataIn]
  simp

@[simp] theorem State.dropReference_keeps (s : State) (number : Half) (ids : List Nat) (id : Nat) :
    (State.dropReference number ids s id).hpu = s.hpu ∧ (State.dropReference number ids s id).csq = s.csq ∧
    (State.dropReference number ids s id).lbq = s.lbq ∧ (State.dropReference number ids s id).ring = s.ring ∧
    (State.dropReference number ids s id).hdu = s.hdu ∧ (State.dropReference number ids s id).fmu = s.fmu ∧
    (State.dropReference number ids s id).msu = s.msu ∧ (State.dropReference number ids s id).nvs = s.nvs ∧
    (State.dropReference number ids s id).ram = s.ram ∧ (State.dropReference number ids s id).strap = s.strap ∧
    (State.dropReference number ids s id).pending = s.pending ∧
    (State.dropReference number ids s id).eng.cond = s.eng.cond ∧
    (State.dropReference number ids s id).eng.headOpen = s.eng.headOpen ∧
    (State.dropReference number ids s id).eng.causes = s.eng.causes ∧
    (State.dropReference number ids s id).eng.primary = s.eng.primary ∧
    (State.dropReference number ids s id).eng.haltPos = s.eng.haltPos ∧
    (State.dropReference number ids s id).eng.interrupted = s.eng.interrupted ∧
    (State.dropReference number ids s id).eng.applied = s.eng.applied ∧
    (State.dropReference number ids s id).eng.recLabel = s.eng.recLabel ∧
    (State.dropReference number ids s id).eng.settle = s.eng.settle ∧
    (State.dropReference number ids s id).eng.cursor = s.eng.cursor := by
  simp only [State.dropReference]
  (repeat' split) <;> simp

@[simp] theorem State.dropReferences_keeps (s : State) (number : Half) (ids : List Nat) :
    (s.dropReferences number ids).hpu = s.hpu ∧ (s.dropReferences number ids).csq = s.csq ∧
    (s.dropReferences number ids).lbq = s.lbq ∧ (s.dropReferences number ids).ring = s.ring ∧
    (s.dropReferences number ids).hdu = s.hdu ∧ (s.dropReferences number ids).fmu = s.fmu ∧
    (s.dropReferences number ids).msu = s.msu ∧ (s.dropReferences number ids).nvs = s.nvs ∧
    (s.dropReferences number ids).ram = s.ram ∧ (s.dropReferences number ids).strap = s.strap ∧
    (s.dropReferences number ids).pending = s.pending ∧ (s.dropReferences number ids).eng.cond = s.eng.cond ∧
    (s.dropReferences number ids).eng.headOpen = s.eng.headOpen ∧
    (s.dropReferences number ids).eng.causes = s.eng.causes ∧
    (s.dropReferences number ids).eng.primary = s.eng.primary ∧
    (s.dropReferences number ids).eng.haltPos = s.eng.haltPos ∧
    (s.dropReferences number ids).eng.interrupted = s.eng.interrupted ∧
    (s.dropReferences number ids).eng.applied = s.eng.applied ∧
    (s.dropReferences number ids).eng.recLabel = s.eng.recLabel ∧
    (s.dropReferences number ids).eng.settle = s.eng.settle ∧
    (s.dropReferences number ids).eng.cursor = s.eng.cursor := by
  unfold State.dropReferences
  generalize List.range Config.glyphIds = l
  induction l generalizing s with
  | nil => simp
  | cons a l ih => simpa using ih (State.dropReference number ids s a)

@[simp] theorem State.defineGlyph_keeps (s : State) (id width height : Nat) (bitmap : List Byte) :
    (s.defineGlyph id width height bitmap).hpu = s.hpu ∧ (s.defineGlyph id width height bitmap).csq = s.csq ∧
    (s.defineGlyph id width height bitmap).lbq = s.lbq ∧ (s.defineGlyph id width height bitmap).ring = s.ring ∧
    (s.defineGlyph id width height bitmap).hdu = s.hdu ∧ (s.defineGlyph id width height bitmap).fmu = s.fmu ∧
    (s.defineGlyph id width height bitmap).msu = s.msu ∧ (s.defineGlyph id width height bitmap).eng = s.eng ∧
    (s.defineGlyph id width height bitmap).nvs = s.nvs ∧ (s.defineGlyph id width height bitmap).strap = s.strap ∧
    (s.defineGlyph id width height bitmap).pending = s.pending := by
  simp only [State.defineGlyph]
  (repeat' split) <;> simp

@[simp] theorem State.moveGlyph_keeps (s : State) (cursor id : Nat) :
    (s.moveGlyph cursor id).hpu = s.hpu ∧ (s.moveGlyph cursor id).csq = s.csq ∧
    (s.moveGlyph cursor id).lbq = s.lbq ∧ (s.moveGlyph cursor id).ring = s.ring ∧
    (s.moveGlyph cursor id).hdu = s.hdu ∧ (s.moveGlyph cursor id).fmu = s.fmu ∧
    (s.moveGlyph cursor id).msu = s.msu ∧ (s.moveGlyph cursor id).eng = s.eng ∧
    (s.moveGlyph cursor id).nvs = s.nvs ∧ (s.moveGlyph cursor id).strap = s.strap ∧
    (s.moveGlyph cursor id).pending = s.pending := by
  simp only [State.moveGlyph]
  simp

@[simp] theorem State.reseat_keeps (s : State) :
    s.reseat.hpu = s.hpu ∧ s.reseat.csq = s.csq ∧ s.reseat.gst = s.gst ∧ s.reseat.lbq = s.lbq ∧
    s.reseat.hdu = s.hdu ∧ s.reseat.fmu = s.fmu ∧ s.reseat.msu = s.msu ∧ s.reseat.eng = s.eng ∧
    s.reseat.nvs = s.nvs ∧ s.reseat.ram = s.ram ∧ s.reseat.strap = s.strap ∧ s.reseat.pending = s.pending := by
  simp only [State.reseat]
  simp

@[simp] theorem State.claim_keeps (s : State) :
    s.claim.hpu = s.hpu ∧ s.claim.csq = s.csq ∧ s.claim.gst = s.gst ∧ s.claim.lbq = s.lbq ∧ s.claim.hdu = s.hdu ∧
    s.claim.fmu = s.fmu ∧ s.claim.msu = s.msu ∧ s.claim.eng = s.eng ∧ s.claim.nvs = s.nvs ∧ s.claim.ram = s.ram ∧
    s.claim.strap = s.strap ∧ s.claim.pending = s.pending := by
  simp only [State.claim]
  (repeat' split) <;> simp

@[simp] theorem State.renderBand_keeps (s : State) :
    s.renderBand.hpu = s.hpu ∧ s.renderBand.csq = s.csq ∧ s.renderBand.gst = s.gst ∧ s.renderBand.lbq = s.lbq ∧
    s.renderBand.hdu = s.hdu ∧ s.renderBand.fmu = s.fmu ∧ s.renderBand.msu = s.msu ∧ s.renderBand.eng = s.eng ∧
    s.renderBand.nvs = s.nvs ∧ s.renderBand.strap = s.strap ∧ s.renderBand.pending = s.pending := by
  simp only [State.renderBand]
  (repeat' split) <;> simp

@[simp] theorem State.strobeLine_keeps (s : State) (i : Nat) (line : Line) (dots : Nat) :
    (s.strobeLine i line dots).hpu = s.hpu ∧ (s.strobeLine i line dots).csq = s.csq ∧
    (s.strobeLine i line dots).gst = s.gst ∧ (s.strobeLine i line dots).lbq = s.lbq ∧
    (s.strobeLine i line dots).ring = s.ring ∧ (s.strobeLine i line dots).fmu = s.fmu ∧
    (s.strobeLine i line dots).msu = s.msu ∧ (s.strobeLine i line dots).eng = s.eng ∧
    (s.strobeLine i line dots).nvs = s.nvs ∧ (s.strobeLine i line dots).ram = s.ram ∧
    (s.strobeLine i line dots).strap = s.strap ∧ (s.strobeLine i line dots).pending = s.pending := by
  simp only [State.strobeLine]
  simp

@[simp] theorem State.strobeNothing_keeps (s : State) :
    s.strobeNothing.hpu = s.hpu ∧ s.strobeNothing.csq = s.csq ∧ s.strobeNothing.gst = s.gst ∧
    s.strobeNothing.lbq = s.lbq ∧ s.strobeNothing.ring = s.ring ∧ s.strobeNothing.fmu = s.fmu ∧
    s.strobeNothing.msu = s.msu ∧ s.strobeNothing.eng = s.eng ∧ s.strobeNothing.nvs = s.nvs ∧
    s.strobeNothing.ram = s.ram ∧ s.strobeNothing.strap = s.strap ∧ s.strobeNothing.pending = s.pending := by
  simp only [State.strobeNothing]
  simp

@[simp] theorem State.sampleHead_keeps (s : State) (degrees : Int) :
    (s.sampleHead degrees).hpu = s.hpu ∧ (s.sampleHead degrees).csq = s.csq ∧ (s.sampleHead degrees).gst = s.gst ∧
    (s.sampleHead degrees).lbq = s.lbq ∧ (s.sampleHead degrees).ring = s.ring ∧ (s.sampleHead degrees).fmu = s.fmu ∧
    (s.sampleHead degrees).msu = s.msu ∧ (s.sampleHead degrees).eng = s.eng ∧ (s.sampleHead degrees).nvs = s.nvs ∧
    (s.sampleHead degrees).ram = s.ram ∧ (s.sampleHead degrees).strap = s.strap ∧
    (s.sampleHead degrees).pending = s.pending := by
  simp only [State.sampleHead]
  simp

@[simp] theorem State.vacate_keeps (s : State) (slot : Nat) (l : Label) :
    (s.vacate slot l).hpu = s.hpu ∧ (s.vacate slot l).csq = s.csq ∧ (s.vacate slot l).ring = s.ring ∧
    (s.vacate slot l).hdu = s.hdu ∧ (s.vacate slot l).msu = s.msu ∧ (s.vacate slot l).nvs = s.nvs ∧
    (s.vacate slot l).ram = s.ram ∧ (s.vacate slot l).strap = s.strap ∧ (s.vacate slot l).pending = s.pending ∧
    (s.vacate slot l).eng.cond = s.eng.cond ∧ (s.vacate slot l).eng.headOpen = s.eng.headOpen ∧
    (s.vacate slot l).eng.causes = s.eng.causes ∧ (s.vacate slot l).eng.primary = s.eng.primary ∧
    (s.vacate slot l).eng.haltPos = s.eng.haltPos ∧ (s.vacate slot l).eng.applied = s.eng.applied ∧
    (s.vacate slot l).eng.recLabel = s.eng.recLabel ∧ (s.vacate slot l).eng.settle = s.eng.settle ∧
    (s.vacate slot l).eng.cursor = s.eng.cursor ∧ (s.vacate slot l).fmu.pos = s.fmu.pos := by
  simp only [State.vacate]
  simp

@[simp] theorem State.removeLabel_keeps (s : State) (slot : Nat) (report : Option Event) :
    (s.removeLabel slot report).hpu = s.hpu ∧ (s.removeLabel slot report).csq = s.csq ∧
    (s.removeLabel slot report).ring = s.ring ∧ (s.removeLabel slot report).hdu = s.hdu ∧
    (s.removeLabel slot report).msu = s.msu ∧ (s.removeLabel slot report).nvs = s.nvs ∧
    (s.removeLabel slot report).ram = s.ram ∧ (s.removeLabel slot report).strap = s.strap ∧
    (s.removeLabel slot report).pending = s.pending ∧ (s.removeLabel slot report).eng.cond = s.eng.cond ∧
    (s.removeLabel slot report).eng.headOpen = s.eng.headOpen ∧
    (s.removeLabel slot report).eng.causes = s.eng.causes ∧
    (s.removeLabel slot report).eng.primary = s.eng.primary ∧
    (s.removeLabel slot report).eng.haltPos = s.eng.haltPos ∧
    (s.removeLabel slot report).eng.applied = s.eng.applied ∧
    (s.removeLabel slot report).eng.recLabel = s.eng.recLabel ∧
    (s.removeLabel slot report).eng.settle = s.eng.settle ∧ (s.removeLabel slot report).eng.cursor = s.eng.cursor ∧
    (s.removeLabel slot report).fmu.pos = s.fmu.pos := by
  simp only [State.removeLabel]
  (repeat' split) <;> simp

@[simp] theorem State.reportIdleQueue_keeps (s : State) (before : Lbq) :
    (s.reportIdleQueue before).hpu = s.hpu ∧ (s.reportIdleQueue before).csq = s.csq ∧
    (s.reportIdleQueue before).gst = s.gst ∧ (s.reportIdleQueue before).lbq = s.lbq ∧
    (s.reportIdleQueue before).ring = s.ring ∧ (s.reportIdleQueue before).hdu = s.hdu ∧
    (s.reportIdleQueue before).fmu = s.fmu ∧ (s.reportIdleQueue before).msu = s.msu ∧
    (s.reportIdleQueue before).nvs = s.nvs ∧ (s.reportIdleQueue before).ram = s.ram ∧
    (s.reportIdleQueue before).strap = s.strap ∧ (s.reportIdleQueue before).pending = s.pending ∧
    (s.reportIdleQueue before).eng.cond = s.eng.cond ∧ (s.reportIdleQueue before).eng.headOpen = s.eng.headOpen ∧
    (s.reportIdleQueue before).eng.causes = s.eng.causes ∧ (s.reportIdleQueue before).eng.primary = s.eng.primary ∧
    (s.reportIdleQueue before).eng.haltPos = s.eng.haltPos ∧
    (s.reportIdleQueue before).eng.interrupted = s.eng.interrupted ∧
    (s.reportIdleQueue before).eng.applied = s.eng.applied ∧
    (s.reportIdleQueue before).eng.recLabel = s.eng.recLabel ∧
    (s.reportIdleQueue before).eng.settle = s.eng.settle ∧
    (s.reportIdleQueue before).eng.cursor = s.eng.cursor := by
  simp only [State.reportIdleQueue]
  (repeat' split) <;> simp

@[simp] theorem State.storePlacement_keeps (s : State) (p : Placement) :
    (s.storePlacement p).hpu = s.hpu ∧ (s.storePlacement p).csq = s.csq ∧ (s.storePlacement p).ring = s.ring ∧
    (s.storePlacement p).hdu = s.hdu ∧ (s.storePlacement p).fmu = s.fmu ∧ (s.storePlacement p).msu = s.msu ∧
    (s.storePlacement p).eng = s.eng ∧ (s.storePlacement p).nvs = s.nvs ∧ (s.storePlacement p).ram = s.ram ∧
    (s.storePlacement p).strap = s.strap ∧ (s.storePlacement p).pending = s.pending := by
  simp only [State.storePlacement]
  (repeat' split) <;> simp

@[simp] theorem State.beginCopy_keeps (s : State) (c : Copy) :
    (s.beginCopy c).hpu = s.hpu ∧ (s.beginCopy c).csq = s.csq ∧ (s.beginCopy c).gst = s.gst ∧
    (s.beginCopy c).ring = s.ring ∧ (s.beginCopy c).hdu = s.hdu ∧ (s.beginCopy c).fmu = s.fmu ∧
    (s.beginCopy c).msu = s.msu ∧ (s.beginCopy c).eng = s.eng ∧ (s.beginCopy c).nvs = s.nvs ∧
    (s.beginCopy c).ram = s.ram ∧ (s.beginCopy c).strap = s.strap ∧ (s.beginCopy c).pending = s.pending := by
  simp only [State.beginCopy]
  simp

@[simp] theorem State.countLine_keeps (s : State) :
    s.countLine.hpu = s.hpu ∧ s.countLine.csq = s.csq ∧ s.countLine.gst = s.gst ∧ s.countLine.ring = s.ring ∧
    s.countLine.hdu = s.hdu ∧ s.countLine.fmu = s.fmu ∧ s.countLine.msu = s.msu ∧ s.countLine.eng = s.eng ∧
    s.countLine.nvs = s.nvs ∧ s.countLine.ram = s.ram ∧ s.countLine.strap = s.strap ∧
    s.countLine.pending = s.pending := by
  simp only [State.countLine]
  simp

@[simp] theorem State.copyDone_keeps (s : State) (slot : Nat) :
    (s.copyDone slot).hpu = s.hpu ∧ (s.copyDone slot).csq = s.csq ∧ (s.copyDone slot).ring = s.ring ∧
    (s.copyDone slot).hdu = s.hdu ∧ (s.copyDone slot).msu = s.msu ∧ (s.copyDone slot).nvs = s.nvs ∧
    (s.copyDone slot).ram = s.ram ∧ (s.copyDone slot).strap = s.strap ∧ (s.copyDone slot).pending = s.pending ∧
    (s.copyDone slot).eng.cond = s.eng.cond ∧ (s.copyDone slot).eng.headOpen = s.eng.headOpen ∧
    (s.copyDone slot).eng.causes = s.eng.causes ∧ (s.copyDone slot).eng.primary = s.eng.primary ∧
    (s.copyDone slot).eng.haltPos = s.eng.haltPos ∧ (s.copyDone slot).eng.applied = s.eng.applied ∧
    (s.copyDone slot).eng.recLabel = s.eng.recLabel ∧ (s.copyDone slot).eng.settle = s.eng.settle ∧
    (s.copyDone slot).eng.cursor = s.eng.cursor ∧ (s.copyDone slot).fmu.pos = s.fmu.pos := by
  simp only [State.copyDone]
  (repeat' split) <;> simp

@[simp] theorem State.cancelOne_keeps (s : State) (immediate : Bool) (slot : Nat) :
    (State.cancelOne immediate s slot).hpu = s.hpu ∧ (State.cancelOne immediate s slot).csq = s.csq ∧
    (State.cancelOne immediate s slot).ring = s.ring ∧ (State.cancelOne immediate s slot).hdu = s.hdu ∧
    (State.cancelOne immediate s slot).msu = s.msu ∧ (State.cancelOne immediate s slot).nvs = s.nvs ∧
    (State.cancelOne immediate s slot).ram = s.ram ∧ (State.cancelOne immediate s slot).strap = s.strap ∧
    (State.cancelOne immediate s slot).pending = s.pending ∧
    (State.cancelOne immediate s slot).eng.cond = s.eng.cond ∧
    (State.cancelOne immediate s slot).eng.headOpen = s.eng.headOpen ∧
    (State.cancelOne immediate s slot).eng.causes = s.eng.causes ∧
    (State.cancelOne immediate s slot).eng.primary = s.eng.primary ∧
    (State.cancelOne immediate s slot).eng.haltPos = s.eng.haltPos ∧
    (State.cancelOne immediate s slot).eng.applied = s.eng.applied ∧
    (State.cancelOne immediate s slot).eng.recLabel = s.eng.recLabel ∧
    (State.cancelOne immediate s slot).eng.settle = s.eng.settle ∧
    (State.cancelOne immediate s slot).eng.cursor = s.eng.cursor ∧
    (State.cancelOne immediate s slot).fmu.pos = s.fmu.pos := by
  simp only [State.cancelOne]
  (repeat' split) <;> simp

@[simp] theorem State.cancelTargets_keeps (s : State) (immediate : Bool) (targets : List Nat) :
    (s.cancelTargets immediate targets).hpu = s.hpu ∧ (s.cancelTargets immediate targets).csq = s.csq ∧
    (s.cancelTargets immediate targets).hdu = s.hdu ∧ (s.cancelTargets immediate targets).msu = s.msu ∧
    (s.cancelTargets immediate targets).nvs = s.nvs ∧ (s.cancelTargets immediate targets).ram = s.ram ∧
    (s.cancelTargets immediate targets).strap = s.strap ∧ (s.cancelTargets immediate targets).pending = s.pending ∧
    (s.cancelTargets immediate targets).eng.cond = s.eng.cond ∧
    (s.cancelTargets immediate targets).eng.headOpen = s.eng.headOpen ∧
    (s.cancelTargets immediate targets).eng.causes = s.eng.causes ∧
    (s.cancelTargets immediate targets).eng.primary = s.eng.primary ∧
    (s.cancelTargets immediate targets).eng.haltPos = s.eng.haltPos ∧
    (s.cancelTargets immediate targets).eng.applied = s.eng.applied ∧
    (s.cancelTargets immediate targets).eng.recLabel = s.eng.recLabel ∧
    (s.cancelTargets immediate targets).eng.settle = s.eng.settle ∧
    (s.cancelTargets immediate targets).eng.cursor = s.eng.cursor ∧
    (s.cancelTargets immediate targets).fmu.pos = s.fmu.pos := by
  have h : ∀ (l : List Nat) (s : State),
      (l.foldl (State.cancelOne immediate) s).hpu = s.hpu ∧ (l.foldl (State.cancelOne immediate) s).csq = s.csq ∧ (l.foldl (State.cancelOne immediate) s).hdu = s.hdu ∧ (l.foldl (State.cancelOne immediate) s).msu = s.msu ∧ (l.foldl (State.cancelOne immediate) s).nvs = s.nvs ∧ (l.foldl (State.cancelOne immediate) s).ram = s.ram ∧ (l.foldl (State.cancelOne immediate) s).strap = s.strap ∧ (l.foldl (State.cancelOne immediate) s).pending = s.pending ∧ (l.foldl (State.cancelOne immediate) s).eng.cond = s.eng.cond ∧ (l.foldl (State.cancelOne immediate) s).eng.headOpen = s.eng.headOpen ∧ (l.foldl (State.cancelOne immediate) s).eng.causes = s.eng.causes ∧ (l.foldl (State.cancelOne immediate) s).eng.primary = s.eng.primary ∧ (l.foldl (State.cancelOne immediate) s).eng.haltPos = s.eng.haltPos ∧ (l.foldl (State.cancelOne immediate) s).eng.applied = s.eng.applied ∧ (l.foldl (State.cancelOne immediate) s).eng.recLabel = s.eng.recLabel ∧ (l.foldl (State.cancelOne immediate) s).eng.settle = s.eng.settle ∧ (l.foldl (State.cancelOne immediate) s).eng.cursor = s.eng.cursor ∧ (l.foldl (State.cancelOne immediate) s).fmu.pos = s.fmu.pos := by
    intro l
    induction l with
    | nil => intro s; simp
    | cons a l ih => intro s; simpa using ih (State.cancelOne immediate s a)
  simpa [State.cancelTargets] using h targets s

@[simp] theorem State.discardInterrupted_keeps (s : State) (slot : Nat) :
    (s.discardInterrupted slot).hpu = s.hpu ∧ (s.discardInterrupted slot).csq = s.csq ∧
    (s.discardInterrupted slot).hdu = s.hdu ∧ (s.discardInterrupted slot).msu = s.msu ∧
    (s.discardInterrupted slot).nvs = s.nvs ∧ (s.discardInterrupted slot).ram = s.ram ∧
    (s.discardInterrupted slot).strap = s.strap ∧ (s.discardInterrupted slot).pending = s.pending ∧
    (s.discardInterrupted slot).eng.cond = s.eng.cond ∧ (s.discardInterrupted slot).eng.headOpen = s.eng.headOpen ∧
    (s.discardInterrupted slot).eng.causes = s.eng.causes ∧
    (s.discardInterrupted slot).eng.primary = s.eng.primary ∧
    (s.discardInterrupted slot).eng.haltPos = s.eng.haltPos ∧
    (s.discardInterrupted slot).eng.applied = s.eng.applied ∧
    (s.discardInterrupted slot).eng.recLabel = s.eng.recLabel ∧
    (s.discardInterrupted slot).eng.settle = s.eng.settle ∧ (s.discardInterrupted slot).eng.cursor = s.eng.cursor ∧
    (s.discardInterrupted slot).fmu.pos = s.fmu.pos := by
  simp only [State.discardInterrupted]
  (repeat' split) <;> simp

@[simp] theorem State.advanceClock_keeps (s : State) (micros : Nat) :
    (s.advanceClock micros).hpu = s.hpu ∧ (s.advanceClock micros).csq = s.csq ∧
    (s.advanceClock micros).gst = s.gst ∧ (s.advanceClock micros).lbq = s.lbq ∧
    (s.advanceClock micros).ring = s.ring ∧ (s.advanceClock micros).fmu = s.fmu ∧
    (s.advanceClock micros).msu = s.msu ∧ (s.advanceClock micros).eng = s.eng ∧
    (s.advanceClock micros).nvs = s.nvs ∧ (s.advanceClock micros).ram = s.ram ∧
    (s.advanceClock micros).strap = s.strap ∧ (s.advanceClock micros).pending = s.pending := by
  simp only [State.advanceClock]
  simp

@[simp] theorem State.toStopped_keeps (s : State) :
    s.toStopped.hpu = s.hpu ∧ s.toStopped.csq = s.csq ∧ s.toStopped.gst = s.gst ∧ s.toStopped.lbq = s.lbq ∧
    s.toStopped.ring = s.ring ∧ s.toStopped.hdu = s.hdu ∧ s.toStopped.msu = s.msu ∧ s.toStopped.eng = s.eng ∧
    s.toStopped.nvs = s.nvs ∧ s.toStopped.ram = s.ram ∧ s.toStopped.strap = s.strap ∧
    s.toStopped.pending = s.pending ∧ s.toStopped.fmu.pos = s.fmu.pos := by
  simp only [State.toStopped]
  simp

@[simp] theorem State.restHere_keeps (s : State) :
    s.restHere.hpu = s.hpu ∧ s.restHere.csq = s.csq ∧ s.restHere.gst = s.gst ∧ s.restHere.lbq = s.lbq ∧
    s.restHere.ring = s.ring ∧ s.restHere.hdu = s.hdu ∧ s.restHere.msu = s.msu ∧ s.restHere.eng = s.eng ∧
    s.restHere.nvs = s.nvs ∧ s.restHere.ram = s.ram ∧ s.restHere.strap = s.strap ∧ s.restHere.pending = s.pending ∧
    s.restHere.fmu.pos = s.fmu.pos := by
  simp only [State.restHere]
  simp

@[simp] theorem State.beginStop_keeps (s : State) (kind : StopKind) (why : StopWhy) :
    (s.beginStop kind why).hpu = s.hpu ∧ (s.beginStop kind why).csq = s.csq ∧ (s.beginStop kind why).gst = s.gst ∧
    (s.beginStop kind why).lbq = s.lbq ∧ (s.beginStop kind why).ring = s.ring ∧ (s.beginStop kind why).hdu = s.hdu ∧
    (s.beginStop kind why).msu = s.msu ∧ (s.beginStop kind why).eng = s.eng ∧ (s.beginStop kind why).nvs = s.nvs ∧
    (s.beginStop kind why).ram = s.ram ∧ (s.beginStop kind why).strap = s.strap ∧
    (s.beginStop kind why).pending = s.pending ∧ (s.beginStop kind why).fmu.pos = s.fmu.pos := by
  simp only [State.beginStop]
  simp

@[simp] theorem State.beginMove_keeps (s : State) (move : Move) (target : Option Pos) :
    (s.beginMove move target).hpu = s.hpu ∧ (s.beginMove move target).csq = s.csq ∧
    (s.beginMove move target).gst = s.gst ∧ (s.beginMove move target).lbq = s.lbq ∧
    (s.beginMove move target).ring = s.ring ∧ (s.beginMove move target).hdu = s.hdu ∧
    (s.beginMove move target).msu = s.msu ∧ (s.beginMove move target).eng = s.eng ∧
    (s.beginMove move target).nvs = s.nvs ∧ (s.beginMove move target).ram = s.ram ∧
    (s.beginMove move target).strap = s.strap ∧ (s.beginMove move target).pending = s.pending ∧
    (s.beginMove move target).fmu.pos = s.fmu.pos := by
  simp only [State.beginMove]
  simp

@[simp] theorem State.energise_keeps (s : State) :
    s.energise.hpu = s.hpu ∧ s.energise.csq = s.csq ∧ s.energise.gst = s.gst ∧ s.energise.lbq = s.lbq ∧
    s.energise.ring = s.ring ∧ s.energise.hdu = s.hdu ∧ s.energise.msu = s.msu ∧ s.energise.eng = s.eng ∧
    s.energise.nvs = s.nvs ∧ s.energise.ram = s.ram ∧ s.energise.strap = s.strap ∧ s.energise.pending = s.pending ∧
    s.energise.fmu.pos = s.fmu.pos := by
  simp only [State.energise]
  (repeat' split) <;> simp

@[simp] theorem State.idleSampling_keeps (s : State) :
    s.idleSampling.hpu = s.hpu ∧ s.idleSampling.csq = s.csq ∧ s.idleSampling.gst = s.gst ∧
    s.idleSampling.lbq = s.lbq ∧ s.idleSampling.ring = s.ring ∧ s.idleSampling.hdu = s.hdu ∧
    s.idleSampling.fmu = s.fmu ∧ s.idleSampling.eng = s.eng ∧ s.idleSampling.nvs = s.nvs ∧
    s.idleSampling.ram = s.ram ∧ s.idleSampling.strap = s.strap ∧ s.idleSampling.pending = s.pending := by
  simp only [State.idleSampling]
  (repeat' split) <;> simp

@[simp] theorem State.mediaOut_keeps (s : State) (attr : Byte) :
    (s.mediaOut attr).hpu = s.hpu ∧ (s.mediaOut attr).csq = s.csq ∧ (s.mediaOut attr).gst = s.gst ∧
    (s.mediaOut attr).lbq = s.lbq ∧ (s.mediaOut attr).ring = s.ring ∧ (s.mediaOut attr).hdu = s.hdu ∧
    (s.mediaOut attr).fmu = s.fmu ∧ (s.mediaOut attr).nvs = s.nvs ∧ (s.mediaOut attr).ram = s.ram ∧
    (s.mediaOut attr).strap = s.strap ∧ (s.mediaOut attr).pending = s.pending ∧
    (s.mediaOut attr).eng.cond = s.eng.cond ∧ (s.mediaOut attr).eng.headOpen = s.eng.headOpen ∧
    (s.mediaOut attr).eng.causes = s.eng.causes ∧ (s.mediaOut attr).eng.primary = s.eng.primary ∧
    (s.mediaOut attr).eng.haltPos = s.eng.haltPos ∧ (s.mediaOut attr).eng.interrupted = s.eng.interrupted ∧
    (s.mediaOut attr).eng.applied = s.eng.applied ∧ (s.mediaOut attr).eng.recLabel = s.eng.recLabel ∧
    (s.mediaOut attr).eng.settle = s.eng.settle ∧ (s.mediaOut attr).eng.cursor = s.eng.cursor := by
  simp only [State.mediaOut]
  simp

@[simp] theorem State.countEmpty_keeps (s : State) :
    s.countEmpty.1.hpu = s.hpu ∧ s.countEmpty.1.csq = s.csq ∧ s.countEmpty.1.gst = s.gst ∧
    s.countEmpty.1.lbq = s.lbq ∧ s.countEmpty.1.ring = s.ring ∧ s.countEmpty.1.hdu = s.hdu ∧
    s.countEmpty.1.fmu = s.fmu ∧ s.countEmpty.1.nvs = s.nvs ∧ s.countEmpty.1.ram = s.ram ∧
    s.countEmpty.1.strap = s.strap ∧ s.countEmpty.1.pending = s.pending ∧ s.countEmpty.1.eng.cond = s.eng.cond ∧
    s.countEmpty.1.eng.headOpen = s.eng.headOpen ∧ s.countEmpty.1.eng.causes = s.eng.causes ∧
    s.countEmpty.1.eng.primary = s.eng.primary ∧ s.countEmpty.1.eng.haltPos = s.eng.haltPos ∧
    s.countEmpty.1.eng.interrupted = s.eng.interrupted ∧ s.countEmpty.1.eng.applied = s.eng.applied ∧
    s.countEmpty.1.eng.recLabel = s.eng.recLabel ∧ s.countEmpty.1.eng.settle = s.eng.settle ∧
    s.countEmpty.1.eng.cursor = s.eng.cursor := by
  simp only [State.countEmpty]
  (repeat' split) <;> simp

@[simp] theorem State.acceptEdge_keeps (s : State) (e : Pos) :
    (s.acceptEdge e).hpu = s.hpu ∧ (s.acceptEdge e).csq = s.csq ∧ (s.acceptEdge e).gst = s.gst ∧
    (s.acceptEdge e).lbq = s.lbq ∧ (s.acceptEdge e).ring = s.ring ∧ (s.acceptEdge e).hdu = s.hdu ∧
    (s.acceptEdge e).fmu = s.fmu ∧ (s.acceptEdge e).eng = s.eng ∧ (s.acceptEdge e).nvs = s.nvs ∧
    (s.acceptEdge e).ram = s.ram ∧ (s.acceptEdge e).strap = s.strap ∧ (s.acceptEdge e).pending = s.pending := by
  simp only [State.acceptEdge]
  simp

@[simp] theorem State.takeEdge_keeps (s : State) (c : Option ClassChange) :
    (s.takeEdge c).hpu = s.hpu ∧ (s.takeEdge c).csq = s.csq ∧ (s.takeEdge c).gst = s.gst ∧
    (s.takeEdge c).lbq = s.lbq ∧ (s.takeEdge c).ring = s.ring ∧ (s.takeEdge c).hdu = s.hdu ∧
    (s.takeEdge c).fmu = s.fmu ∧ (s.takeEdge c).eng = s.eng ∧ (s.takeEdge c).nvs = s.nvs ∧
    (s.takeEdge c).ram = s.ram ∧ (s.takeEdge c).strap = s.strap ∧ (s.takeEdge c).pending = s.pending := by
  simp only [State.takeEdge]
  (repeat' split) <;> simp

@[simp] theorem State.stepSample_keeps (s : State) (level : Byte) :
    (s.stepSample level).state.hpu = s.hpu ∧ (s.stepSample level).state.csq = s.csq ∧
    (s.stepSample level).state.gst = s.gst ∧ (s.stepSample level).state.lbq = s.lbq ∧
    (s.stepSample level).state.ring = s.ring ∧ (s.stepSample level).state.hdu = s.hdu ∧
    (s.stepSample level).state.fmu = s.fmu ∧ (s.stepSample level).state.nvs = s.nvs ∧
    (s.stepSample level).state.ram = s.ram ∧ (s.stepSample level).state.strap = s.strap ∧
    (s.stepSample level).state.pending = s.pending ∧ (s.stepSample level).state.eng.cond = s.eng.cond ∧
    (s.stepSample level).state.eng.headOpen = s.eng.headOpen ∧
    (s.stepSample level).state.eng.causes = s.eng.causes ∧ (s.stepSample level).state.eng.primary = s.eng.primary ∧
    (s.stepSample level).state.eng.haltPos = s.eng.haltPos ∧
    (s.stepSample level).state.eng.interrupted = s.eng.interrupted ∧
    (s.stepSample level).state.eng.applied = s.eng.applied ∧
    (s.stepSample level).state.eng.recLabel = s.eng.recLabel ∧
    (s.stepSample level).state.eng.settle = s.eng.settle ∧
    (s.stepSample level).state.eng.cursor = s.eng.cursor := by
  simp only [State.stepSample]
  simp

@[simp] theorem State.idleSample_keeps (s : State) (level : Byte) :
    (s.idleSample level).1.hpu = s.hpu ∧ (s.idleSample level).1.csq = s.csq ∧ (s.idleSample level).1.gst = s.gst ∧
    (s.idleSample level).1.lbq = s.lbq ∧ (s.idleSample level).1.ring = s.ring ∧ (s.idleSample level).1.hdu = s.hdu ∧
    (s.idleSample level).1.fmu = s.fmu ∧ (s.idleSample level).1.nvs = s.nvs ∧ (s.idleSample level).1.ram = s.ram ∧
    (s.idleSample level).1.strap = s.strap ∧ (s.idleSample level).1.pending = s.pending ∧
    (s.idleSample level).1.eng.cond = s.eng.cond ∧ (s.idleSample level).1.eng.headOpen = s.eng.headOpen ∧
    (s.idleSample level).1.eng.causes = s.eng.causes ∧ (s.idleSample level).1.eng.primary = s.eng.primary ∧
    (s.idleSample level).1.eng.haltPos = s.eng.haltPos ∧
    (s.idleSample level).1.eng.interrupted = s.eng.interrupted ∧
    (s.idleSample level).1.eng.applied = s.eng.applied ∧ (s.idleSample level).1.eng.recLabel = s.eng.recLabel ∧
    (s.idleSample level).1.eng.settle = s.eng.settle ∧ (s.idleSample level).1.eng.cursor = s.eng.cursor := by
  simp only [State.idleSample]
  (repeat' split) <;> simp

@[simp] theorem State.resetSample_keeps (s : State) (level : Byte) :
    (s.resetSample level).hpu = s.hpu ∧ (s.resetSample level).csq = s.csq ∧ (s.resetSample level).gst = s.gst ∧
    (s.resetSample level).lbq = s.lbq ∧ (s.resetSample level).ring = s.ring ∧ (s.resetSample level).hdu = s.hdu ∧
    (s.resetSample level).fmu = s.fmu ∧ (s.resetSample level).eng = s.eng ∧ (s.resetSample level).nvs = s.nvs ∧
    (s.resetSample level).ram = s.ram ∧ (s.resetSample level).strap = s.strap ∧
    (s.resetSample level).pending = s.pending := by
  simp only [State.resetSample]
  simp

@[simp] theorem State.unregister_keeps (s : State) :
    s.unregister.hpu = s.hpu ∧ s.unregister.csq = s.csq ∧ s.unregister.gst = s.gst ∧ s.unregister.lbq = s.lbq ∧
    s.unregister.ring = s.ring ∧ s.unregister.hdu = s.hdu ∧ s.unregister.fmu = s.fmu ∧ s.unregister.eng = s.eng ∧
    s.unregister.nvs = s.nvs ∧ s.unregister.ram = s.ram ∧ s.unregister.strap = s.strap ∧
    s.unregister.pending = s.pending := by
  simp only [State.unregister]
  simp

@[simp] theorem State.emptyEdges_keeps (s : State) :
    s.emptyEdges.hpu = s.hpu ∧ s.emptyEdges.csq = s.csq ∧ s.emptyEdges.gst = s.gst ∧ s.emptyEdges.lbq = s.lbq ∧
    s.emptyEdges.ring = s.ring ∧ s.emptyEdges.hdu = s.hdu ∧ s.emptyEdges.fmu = s.fmu ∧ s.emptyEdges.eng = s.eng ∧
    s.emptyEdges.nvs = s.nvs ∧ s.emptyEdges.ram = s.ram ∧ s.emptyEdges.strap = s.strap ∧
    s.emptyEdges.pending = s.pending := by
  simp only [State.emptyEdges]
  simp

@[simp] theorem State.registerAt_keeps (s : State) (top : Pos) :
    (s.registerAt top).hpu = s.hpu ∧ (s.registerAt top).csq = s.csq ∧ (s.registerAt top).gst = s.gst ∧
    (s.registerAt top).lbq = s.lbq ∧ (s.registerAt top).ring = s.ring ∧ (s.registerAt top).hdu = s.hdu ∧
    (s.registerAt top).fmu = s.fmu ∧ (s.registerAt top).eng = s.eng ∧ (s.registerAt top).nvs = s.nvs ∧
    (s.registerAt top).ram = s.ram ∧ (s.registerAt top).strap = s.strap ∧
    (s.registerAt top).pending = s.pending := by
  simp only [State.registerAt]
  simp

@[simp] theorem State.prepareTop_keeps (s : State) (top : Pos) (length : Nat) :
    (s.prepareTop top length).hpu = s.hpu ∧ (s.prepareTop top length).csq = s.csq ∧
    (s.prepareTop top length).gst = s.gst ∧ (s.prepareTop top length).lbq = s.lbq ∧
    (s.prepareTop top length).ring = s.ring ∧ (s.prepareTop top length).hdu = s.hdu ∧
    (s.prepareTop top length).fmu = s.fmu ∧ (s.prepareTop top length).eng = s.eng ∧
    (s.prepareTop top length).nvs = s.nvs ∧ (s.prepareTop top length).ram = s.ram ∧
    (s.prepareTop top length).strap = s.strap ∧ (s.prepareTop top length).pending = s.pending := by
  simp only [State.prepareTop]
  simp

@[simp] theorem State.missTop_keeps (s : State) (t : Pos) :
    (s.missTop t).1.hpu = s.hpu ∧ (s.missTop t).1.csq = s.csq ∧ (s.missTop t).1.gst = s.gst ∧
    (s.missTop t).1.lbq = s.lbq ∧ (s.missTop t).1.ring = s.ring ∧ (s.missTop t).1.hdu = s.hdu ∧
    (s.missTop t).1.fmu = s.fmu ∧ (s.missTop t).1.nvs = s.nvs ∧ (s.missTop t).1.ram = s.ram ∧
    (s.missTop t).1.strap = s.strap ∧ (s.missTop t).1.pending = s.pending ∧ (s.missTop t).1.eng.cond = s.eng.cond ∧
    (s.missTop t).1.eng.headOpen = s.eng.headOpen ∧ (s.missTop t).1.eng.causes = s.eng.causes ∧
    (s.missTop t).1.eng.primary = s.eng.primary ∧ (s.missTop t).1.eng.haltPos = s.eng.haltPos ∧
    (s.missTop t).1.eng.interrupted = s.eng.interrupted ∧ (s.missTop t).1.eng.applied = s.eng.applied ∧
    (s.missTop t).1.eng.recLabel = s.eng.recLabel ∧ (s.missTop t).1.eng.settle = s.eng.settle ∧
    (s.missTop t).1.eng.cursor = s.eng.cursor := by
  simp only [State.missTop]
  (repeat' split) <;> simp

@[simp] theorem State.decideWindow_keeps (s : State) :
    s.decideWindow.1.hpu = s.hpu ∧ s.decideWindow.1.csq = s.csq ∧ s.decideWindow.1.gst = s.gst ∧
    s.decideWindow.1.lbq = s.lbq ∧ s.decideWindow.1.ring = s.ring ∧ s.decideWindow.1.hdu = s.hdu ∧
    s.decideWindow.1.fmu = s.fmu ∧ s.decideWindow.1.nvs = s.nvs ∧ s.decideWindow.1.ram = s.ram ∧
    s.decideWindow.1.strap = s.strap ∧ s.decideWindow.1.pending = s.pending ∧
    s.decideWindow.1.eng.cond = s.eng.cond ∧ s.decideWindow.1.eng.headOpen = s.eng.headOpen ∧
    s.decideWindow.1.eng.causes = s.eng.causes ∧ s.decideWindow.1.eng.primary = s.eng.primary ∧
    s.decideWindow.1.eng.haltPos = s.eng.haltPos ∧ s.decideWindow.1.eng.interrupted = s.eng.interrupted ∧
    s.decideWindow.1.eng.applied = s.eng.applied ∧ s.decideWindow.1.eng.recLabel = s.eng.recLabel ∧
    s.decideWindow.1.eng.settle = s.eng.settle ∧ s.decideWindow.1.eng.cursor = s.eng.cursor := by
  simp only [State.decideWindow]
  (repeat' split) <;> simp

@[simp] theorem State.countEdges_keeps (s : State) :
    s.countEdges.hpu = s.hpu ∧ s.countEdges.csq = s.csq ∧ s.countEdges.gst = s.gst ∧ s.countEdges.lbq = s.lbq ∧
    s.countEdges.ring = s.ring ∧ s.countEdges.hdu = s.hdu ∧ s.countEdges.eng = s.eng ∧ s.countEdges.nvs = s.nvs ∧
    s.countEdges.ram = s.ram ∧ s.countEdges.strap = s.strap ∧ s.countEdges.pending = s.pending ∧
    s.countEdges.fmu.pos = s.fmu.pos := by
  simp only [State.countEdges]
  (repeat' split) <;> simp

@[simp] theorem State.beginFind_keeps (s : State) (n : Nat) :
    (s.beginFind n).hpu = s.hpu ∧ (s.beginFind n).csq = s.csq ∧ (s.beginFind n).gst = s.gst ∧
    (s.beginFind n).lbq = s.lbq ∧ (s.beginFind n).ring = s.ring ∧ (s.beginFind n).hdu = s.hdu ∧
    (s.beginFind n).eng = s.eng ∧ (s.beginFind n).nvs = s.nvs ∧ (s.beginFind n).ram = s.ram ∧
    (s.beginFind n).strap = s.strap ∧ (s.beginFind n).pending = s.pending ∧
    (s.beginFind n).fmu.pos = s.fmu.pos := by
  simp only [State.beginFind]
  simp

@[simp] theorem State.takeFind_keeps (s : State) :
    s.takeFind.hpu = s.hpu ∧ s.takeFind.csq = s.csq ∧ s.takeFind.gst = s.gst ∧ s.takeFind.lbq = s.lbq ∧
    s.takeFind.ring = s.ring ∧ s.takeFind.hdu = s.hdu ∧ s.takeFind.eng = s.eng ∧ s.takeFind.nvs = s.nvs ∧
    s.takeFind.ram = s.ram ∧ s.takeFind.strap = s.strap ∧ s.takeFind.pending = s.pending ∧
    s.takeFind.fmu.pos = s.fmu.pos := by
  simp only [State.takeFind]
  simp

@[simp] theorem State.findStep_keeps (s : State) :
    s.findStep.1.hpu = s.hpu ∧ s.findStep.1.csq = s.csq ∧ s.findStep.1.gst = s.gst ∧ s.findStep.1.lbq = s.lbq ∧
    s.findStep.1.ring = s.ring ∧ s.findStep.1.hdu = s.hdu ∧ s.findStep.1.eng = s.eng ∧ s.findStep.1.nvs = s.nvs ∧
    s.findStep.1.ram = s.ram ∧ s.findStep.1.strap = s.strap ∧ s.findStep.1.pending = s.pending ∧
    s.findStep.1.fmu.pos = s.fmu.pos := by
  simp only [State.findStep]
  (repeat' split) <;> simp

@[simp] theorem State.surveyStep_keeps (s : State) (c : Calib) (level : Byte) :
    (s.surveyStep c level).1.hpu = s.hpu ∧ (s.surveyStep c level).1.csq = s.csq ∧
    (s.surveyStep c level).1.gst = s.gst ∧ (s.surveyStep c level).1.lbq = s.lbq ∧
    (s.surveyStep c level).1.ring = s.ring ∧ (s.surveyStep c level).1.hdu = s.hdu ∧
    (s.surveyStep c level).1.fmu = s.fmu ∧ (s.surveyStep c level).1.eng = s.eng ∧
    (s.surveyStep c level).1.nvs = s.nvs ∧ (s.surveyStep c level).1.ram = s.ram ∧
    (s.surveyStep c level).1.strap = s.strap ∧ (s.surveyStep c level).1.pending = s.pending := by
  simp only [State.surveyStep]
  (repeat' split) <;> simp

@[simp] theorem State.measured_keeps (s : State) (c : Calib) (e1 m e2 : Pos) :
    (s.measured c e1 m e2).1.hpu = s.hpu ∧ (s.measured c e1 m e2).1.csq = s.csq ∧
    (s.measured c e1 m e2).1.gst = s.gst ∧ (s.measured c e1 m e2).1.lbq = s.lbq ∧
    (s.measured c e1 m e2).1.ring = s.ring ∧ (s.measured c e1 m e2).1.hdu = s.hdu ∧
    (s.measured c e1 m e2).1.eng = s.eng ∧ (s.measured c e1 m e2).1.nvs = s.nvs ∧
    (s.measured c e1 m e2).1.ram = s.ram ∧ (s.measured c e1 m e2).1.strap = s.strap ∧
    (s.measured c e1 m e2).1.pending = s.pending ∧ (s.measured c e1 m e2).1.fmu.pos = s.fmu.pos := by
  simp only [State.measured]
  (repeat' split) <;> simp

@[simp] theorem State.measureStep_keeps (s : State) (c : Calib) (change : Option ClassChange) :
    (s.measureStep c change).1.hpu = s.hpu ∧ (s.measureStep c change).1.csq = s.csq ∧
    (s.measureStep c change).1.gst = s.gst ∧ (s.measureStep c change).1.lbq = s.lbq ∧
    (s.measureStep c change).1.ring = s.ring ∧ (s.measureStep c change).1.hdu = s.hdu ∧
    (s.measureStep c change).1.eng = s.eng ∧ (s.measureStep c change).1.nvs = s.nvs ∧
    (s.measureStep c change).1.ram = s.ram ∧ (s.measureStep c change).1.strap = s.strap ∧
    (s.measureStep c change).1.pending = s.pending ∧ (s.measureStep c change).1.fmu.pos = s.fmu.pos := by
  simp only [State.measureStep]
  (repeat' split) <;> simp

@[simp] theorem State.calibStep_keeps (s : State) (level : Byte) (change : Option ClassChange) :
    (s.calibStep level change).1.hpu = s.hpu ∧ (s.calibStep level change).1.csq = s.csq ∧
    (s.calibStep level change).1.gst = s.gst ∧ (s.calibStep level change).1.lbq = s.lbq ∧
    (s.calibStep level change).1.ring = s.ring ∧ (s.calibStep level change).1.hdu = s.hdu ∧
    (s.calibStep level change).1.eng = s.eng ∧ (s.calibStep level change).1.nvs = s.nvs ∧
    (s.calibStep level change).1.ram = s.ram ∧ (s.calibStep level change).1.strap = s.strap ∧
    (s.calibStep level change).1.pending = s.pending ∧ (s.calibStep level change).1.fmu.pos = s.fmu.pos := by
  simp only [State.calibStep]
  (repeat' split) <;> simp

@[simp] theorem State.takeCalibration_keeps (s : State) :
    s.takeCalibration.hpu = s.hpu ∧ s.takeCalibration.csq = s.csq ∧ s.takeCalibration.gst = s.gst ∧
    s.takeCalibration.lbq = s.lbq ∧ s.takeCalibration.ring = s.ring ∧ s.takeCalibration.hdu = s.hdu ∧
    s.takeCalibration.fmu = s.fmu ∧ s.takeCalibration.eng = s.eng ∧ s.takeCalibration.ram = s.ram ∧
    s.takeCalibration.strap = s.strap ∧ s.takeCalibration.pending = s.pending ∧
    s.takeCalibration.nvs.mech = s.nvs.mech ∧ s.takeCalibration.nvs.store = s.nvs.store := by
  simp only [State.takeCalibration]
  (repeat' split) <;> simp

@[simp] theorem State.searchStep_keeps (s : State) (level : Byte) (change : Option ClassChange) :
    (s.searchStep level change).1.hpu = s.hpu ∧ (s.searchStep level change).1.csq = s.csq ∧
    (s.searchStep level change).1.gst = s.gst ∧ (s.searchStep level change).1.lbq = s.lbq ∧
    (s.searchStep level change).1.ring = s.ring ∧ (s.searchStep level change).1.hdu = s.hdu ∧
    (s.searchStep level change).1.eng = s.eng ∧ (s.searchStep level change).1.nvs = s.nvs ∧
    (s.searchStep level change).1.ram = s.ram ∧ (s.searchStep level change).1.strap = s.strap ∧
    (s.searchStep level change).1.pending = s.pending ∧ (s.searchStep level change).1.fmu.pos = s.fmu.pos := by
  simp only [State.searchStep]
  (repeat' split) <;> simp

@[simp] theorem State.endMotion_keeps (s : State) (e : Ending) :
    (s.endMotion e).gst = s.gst ∧ (s.endMotion e).lbq = s.lbq ∧ (s.endMotion e).ring = s.ring ∧
    (s.endMotion e).hdu = s.hdu ∧ (s.endMotion e).msu = s.msu ∧ (s.endMotion e).nvs = s.nvs ∧
    (s.endMotion e).ram = s.ram ∧ (s.endMotion e).strap = s.strap ∧ (s.endMotion e).pending = s.pending ∧
    (s.endMotion e).eng.cond = s.eng.cond ∧ (s.endMotion e).eng.headOpen = s.eng.headOpen ∧
    (s.endMotion e).eng.causes = s.eng.causes ∧ (s.endMotion e).eng.primary = s.eng.primary ∧
    (s.endMotion e).eng.haltPos = s.eng.haltPos ∧ (s.endMotion e).eng.interrupted = s.eng.interrupted ∧
    (s.endMotion e).eng.applied = s.eng.applied ∧ (s.endMotion e).eng.recLabel = s.eng.recLabel ∧
    (s.endMotion e).eng.settle = s.eng.settle ∧ (s.endMotion e).eng.cursor = s.eng.cursor ∧
    (s.endMotion e).fmu.pos = s.fmu.pos ∧ (s.endMotion e).hpu.service = s.hpu.service := by
  simp only [State.endMotion]
  (repeat' split) <;> simp

@[simp] theorem State.cutShort_keeps (s : State) :
    s.cutShort.hpu = s.hpu ∧ s.cutShort.csq = s.csq ∧ s.cutShort.gst = s.gst ∧ s.cutShort.lbq = s.lbq ∧
    s.cutShort.ring = s.ring ∧ s.cutShort.hdu = s.hdu ∧ s.cutShort.eng = s.eng ∧ s.cutShort.nvs = s.nvs ∧
    s.cutShort.ram = s.ram ∧ s.cutShort.strap = s.strap ∧ s.cutShort.pending = s.pending ∧
    s.cutShort.fmu.pos = s.fmu.pos := by
  simp only [State.cutShort]
  (repeat' split) <;> simp

@[simp] theorem State.failFreeMove_keeps (s : State) (code : SenseCode) :
    (s.failFreeMove code).gst = s.gst ∧ (s.failFreeMove code).lbq = s.lbq ∧ (s.failFreeMove code).ring = s.ring ∧
    (s.failFreeMove code).hdu = s.hdu ∧ (s.failFreeMove code).nvs = s.nvs ∧ (s.failFreeMove code).ram = s.ram ∧
    (s.failFreeMove code).strap = s.strap ∧ (s.failFreeMove code).pending = s.pending ∧
    (s.failFreeMove code).eng.cond = s.eng.cond ∧ (s.failFreeMove code).eng.headOpen = s.eng.headOpen ∧
    (s.failFreeMove code).eng.causes = s.eng.causes ∧ (s.failFreeMove code).eng.primary = s.eng.primary ∧
    (s.failFreeMove code).eng.haltPos = s.eng.haltPos ∧ (s.failFreeMove code).eng.interrupted = s.eng.interrupted ∧
    (s.failFreeMove code).eng.applied = s.eng.applied ∧ (s.failFreeMove code).eng.recLabel = s.eng.recLabel ∧
    (s.failFreeMove code).eng.settle = s.eng.settle ∧ (s.failFreeMove code).eng.cursor = s.eng.cursor ∧
    (s.failFreeMove code).fmu.pos = s.fmu.pos ∧ (s.failFreeMove code).hpu.service = s.hpu.service := by
  simp only [State.failFreeMove]
  simp

@[simp] theorem State.abortFreeMove_keeps (s : State) :
    s.abortFreeMove.gst = s.gst ∧ s.abortFreeMove.lbq = s.lbq ∧ s.abortFreeMove.ring = s.ring ∧
    s.abortFreeMove.hdu = s.hdu ∧ s.abortFreeMove.nvs = s.nvs ∧ s.abortFreeMove.ram = s.ram ∧
    s.abortFreeMove.strap = s.strap ∧ s.abortFreeMove.pending = s.pending ∧ s.abortFreeMove.eng.cond = s.eng.cond ∧
    s.abortFreeMove.eng.headOpen = s.eng.headOpen ∧ s.abortFreeMove.eng.causes = s.eng.causes ∧
    s.abortFreeMove.eng.primary = s.eng.primary ∧ s.abortFreeMove.eng.haltPos = s.eng.haltPos ∧
    s.abortFreeMove.eng.interrupted = s.eng.interrupted ∧ s.abortFreeMove.eng.applied = s.eng.applied ∧
    s.abortFreeMove.eng.recLabel = s.eng.recLabel ∧ s.abortFreeMove.eng.settle = s.eng.settle ∧
    s.abortFreeMove.eng.cursor = s.eng.cursor ∧ s.abortFreeMove.fmu.pos = s.fmu.pos ∧
    s.abortFreeMove.hpu.service = s.hpu.service := by
  simp only [State.abortFreeMove]
  simp

@[simp] theorem State.failSearch_keeps (s : State) :
    s.failSearch.gst = s.gst ∧ s.failSearch.lbq = s.lbq ∧ s.failSearch.ring = s.ring ∧ s.failSearch.hdu = s.hdu ∧
    s.failSearch.nvs = s.nvs ∧ s.failSearch.ram = s.ram ∧ s.failSearch.strap = s.strap ∧
    s.failSearch.pending = s.pending ∧ s.failSearch.eng.cond = s.eng.cond ∧
    s.failSearch.eng.headOpen = s.eng.headOpen ∧ s.failSearch.eng.causes = s.eng.causes ∧
    s.failSearch.eng.primary = s.eng.primary ∧ s.failSearch.eng.haltPos = s.eng.haltPos ∧
    s.failSearch.eng.interrupted = s.eng.interrupted ∧ s.failSearch.eng.applied = s.eng.applied ∧
    s.failSearch.eng.recLabel = s.eng.recLabel ∧ s.failSearch.eng.settle = s.eng.settle ∧
    s.failSearch.eng.cursor = s.eng.cursor ∧ s.failSearch.fmu.pos = s.fmu.pos ∧
    s.failSearch.hpu.service = s.hpu.service := by
  simp only [State.failSearch]
  simp

@[simp] theorem State.stopForMediaOut_keeps (s : State) :
    s.stopForMediaOut.gst = s.gst ∧ s.stopForMediaOut.lbq = s.lbq ∧ s.stopForMediaOut.ring = s.ring ∧
    s.stopForMediaOut.hdu = s.hdu ∧ s.stopForMediaOut.nvs = s.nvs ∧ s.stopForMediaOut.ram = s.ram ∧
    s.stopForMediaOut.strap = s.strap ∧ s.stopForMediaOut.pending = s.pending ∧
    s.stopForMediaOut.eng.cond = s.eng.cond ∧ s.stopForMediaOut.eng.headOpen = s.eng.headOpen ∧
    s.stopForMediaOut.eng.causes = s.eng.causes ∧ s.stopForMediaOut.eng.primary = s.eng.primary ∧
    s.stopForMediaOut.eng.haltPos = s.eng.haltPos ∧ s.stopForMediaOut.eng.interrupted = s.eng.interrupted ∧
    s.stopForMediaOut.eng.applied = s.eng.applied ∧ s.stopForMediaOut.eng.recLabel = s.eng.recLabel ∧
    s.stopForMediaOut.eng.settle = s.eng.settle ∧ s.stopForMediaOut.eng.cursor = s.eng.cursor ∧
    s.stopForMediaOut.fmu.pos = s.fmu.pos ∧ s.stopForMediaOut.hpu.service = s.hpu.service := by
  simp only [State.stopForMediaOut]
  (repeat' split) <;> simp

@[simp] theorem State.stopForHalt_keeps (s : State) (cs : List Cause) :
    (s.stopForHalt cs).hpu = s.hpu ∧ (s.stopForHalt cs).csq = s.csq ∧ (s.stopForHalt cs).gst = s.gst ∧
    (s.stopForHalt cs).lbq = s.lbq ∧ (s.stopForHalt cs).ring = s.ring ∧ (s.stopForHalt cs).hdu = s.hdu ∧
    (s.stopForHalt cs).msu = s.msu ∧ (s.stopForHalt cs).eng = s.eng ∧ (s.stopForHalt cs).nvs = s.nvs ∧
    (s.stopForHalt cs).ram = s.ram ∧ (s.stopForHalt cs).strap = s.strap ∧ (s.stopForHalt cs).pending = s.pending ∧
    (s.stopForHalt cs).fmu.pos = s.fmu.pos := by
  simp only [State.stopForHalt]
  (repeat' split) <;> simp

@[simp] theorem State.spoil_keeps (s : State) :
    s.spoil.hpu = s.hpu ∧ s.spoil.csq = s.csq ∧ s.spoil.gst = s.gst ∧ s.spoil.ring = s.ring ∧ s.spoil.hdu = s.hdu ∧
    s.spoil.fmu = s.fmu ∧ s.spoil.msu = s.msu ∧ s.spoil.nvs = s.nvs ∧ s.spoil.ram = s.ram ∧
    s.spoil.strap = s.strap ∧ s.spoil.pending = s.pending ∧ s.spoil.eng.headOpen = s.eng.headOpen := by
  simp only [State.spoil]
  (repeat' split) <;> simp

@[simp] theorem State.recordHalt_keeps (s : State) (cs : List Cause) (primary : Cause) :
    (s.recordHalt cs primary).hpu = s.hpu ∧ (s.recordHalt cs primary).csq = s.csq ∧
    (s.recordHalt cs primary).gst = s.gst ∧ (s.recordHalt cs primary).lbq = s.lbq ∧
    (s.recordHalt cs primary).ring = s.ring ∧ (s.recordHalt cs primary).hdu = s.hdu ∧
    (s.recordHalt cs primary).msu = s.msu ∧ (s.recordHalt cs primary).nvs = s.nvs ∧
    (s.recordHalt cs primary).ram = s.ram ∧ (s.recordHalt cs primary).strap = s.strap ∧
    (s.recordHalt cs primary).pending = s.pending ∧ (s.recordHalt cs primary).fmu.pos = s.fmu.pos ∧
    (s.recordHalt cs primary).eng.headOpen = s.eng.headOpen := by
  simp only [State.recordHalt]
  simp

@[simp] theorem State.halt_keeps (s : State) (cs : List Cause) :
    (s.halt cs).gst = s.gst ∧ (s.halt cs).hdu = s.hdu ∧ (s.halt cs).nvs = s.nvs ∧ (s.halt cs).ram = s.ram ∧
    (s.halt cs).strap = s.strap ∧ (s.halt cs).pending = s.pending ∧ (s.halt cs).fmu.pos = s.fmu.pos ∧
    (s.halt cs).hpu.service = s.hpu.service ∧ (s.halt cs).eng.headOpen = s.eng.headOpen := by
  simp only [State.halt]
  simp

@[simp] theorem State.addCause_keeps (s : State) (c : Cause) :
    (s.addCause c).hpu = s.hpu ∧ (s.addCause c).csq = s.csq ∧ (s.addCause c).gst = s.gst ∧
    (s.addCause c).lbq = s.lbq ∧ (s.addCause c).ring = s.ring ∧ (s.addCause c).hdu = s.hdu ∧
    (s.addCause c).msu = s.msu ∧ (s.addCause c).nvs = s.nvs ∧ (s.addCause c).ram = s.ram ∧
    (s.addCause c).strap = s.strap ∧ (s.addCause c).pending = s.pending ∧ (s.addCause c).fmu.pos = s.fmu.pos ∧
    (s.addCause c).eng.headOpen = s.eng.headOpen := by
  simp only [State.addCause]
  (repeat' split) <;> simp

@[simp] theorem State.headOpens_keeps (s : State) :
    s.headOpens.gst = s.gst ∧ s.headOpens.hdu = s.hdu ∧ s.headOpens.nvs = s.nvs ∧ s.headOpens.ram = s.ram ∧
    s.headOpens.strap = s.strap ∧ s.headOpens.pending = s.pending ∧ s.headOpens.fmu.pos = s.fmu.pos ∧
    s.headOpens.hpu.service = s.hpu.service ∧ s.headOpens.eng.headOpen = s.eng.headOpen := by
  simp only [State.headOpens]
  (repeat' split) <;> simp

@[simp] theorem State.mediaGone_keeps (s : State) :
    s.mediaGone.gst = s.gst ∧ s.mediaGone.hdu = s.hdu ∧ s.mediaGone.nvs = s.nvs ∧ s.mediaGone.ram = s.ram ∧
    s.mediaGone.strap = s.strap ∧ s.mediaGone.pending = s.pending ∧ s.mediaGone.fmu.pos = s.fmu.pos ∧
    s.mediaGone.hpu.service = s.hpu.service ∧ s.mediaGone.eng.headOpen = s.eng.headOpen := by
  simp only [State.mediaGone]
  (repeat' split) <;> simp

@[simp] theorem State.runOn_keeps (s : State) :
    s.runOn.hpu = s.hpu ∧ s.runOn.csq = s.csq ∧ s.runOn.gst = s.gst ∧ s.runOn.lbq = s.lbq ∧ s.runOn.ring = s.ring ∧
    s.runOn.hdu = s.hdu ∧ s.runOn.eng = s.eng ∧ s.runOn.nvs = s.nvs ∧ s.runOn.ram = s.ram ∧
    s.runOn.strap = s.strap ∧ s.runOn.pending = s.pending ∧ s.runOn.fmu.pos = s.fmu.pos := by
  simp only [State.runOn]
  (repeat' split) <;> simp

@[simp] theorem State.beginRun_keeps (s : State) :
    s.beginRun.hpu = s.hpu ∧ s.beginRun.csq = s.csq ∧ s.beginRun.gst = s.gst ∧ s.beginRun.lbq = s.lbq ∧
    s.beginRun.ring = s.ring ∧ s.beginRun.hdu = s.hdu ∧ s.beginRun.eng = s.eng ∧ s.beginRun.nvs = s.nvs ∧
    s.beginRun.ram = s.ram ∧ s.beginRun.strap = s.strap ∧ s.beginRun.pending = s.pending ∧
    s.beginRun.fmu.pos = s.fmu.pos := by
  simp only [State.beginRun]
  (repeat' split) <;> simp

@[simp] theorem State.autoPresent_keeps (s : State) :
    s.autoPresent.hpu = s.hpu ∧ s.autoPresent.csq = s.csq ∧ s.autoPresent.gst = s.gst ∧ s.autoPresent.lbq = s.lbq ∧
    s.autoPresent.ring = s.ring ∧ s.autoPresent.hdu = s.hdu ∧ s.autoPresent.msu = s.msu ∧
    s.autoPresent.eng = s.eng ∧ s.autoPresent.nvs = s.nvs ∧ s.autoPresent.ram = s.ram ∧
    s.autoPresent.strap = s.strap ∧ s.autoPresent.pending = s.pending ∧ s.autoPresent.fmu.pos = s.fmu.pos := by
  simp only [State.autoPresent]
  (repeat' split) <;> simp

@[simp] theorem State.endRun_keeps (s : State) :
    s.endRun.hpu = s.hpu ∧ s.endRun.csq = s.csq ∧ s.endRun.gst = s.gst ∧ s.endRun.lbq = s.lbq ∧
    s.endRun.ring = s.ring ∧ s.endRun.hdu = s.hdu ∧ s.endRun.msu = s.msu ∧ s.endRun.nvs = s.nvs ∧
    s.endRun.ram = s.ram ∧ s.endRun.strap = s.strap ∧ s.endRun.pending = s.pending ∧ s.endRun.fmu.pos = s.fmu.pos ∧
    s.endRun.eng.headOpen = s.eng.headOpen ∧ s.endRun.eng.events = s.eng.events := by
  simp only [State.endRun]
  simp

@[simp] theorem State.restReason_keeps (s : State) :
    s.restReason.hpu = s.hpu ∧ s.restReason.csq = s.csq ∧ s.restReason.gst = s.gst ∧ s.restReason.lbq = s.lbq ∧
    s.restReason.ring = s.ring ∧ s.restReason.hdu = s.hdu ∧ s.restReason.msu = s.msu ∧ s.restReason.eng = s.eng ∧
    s.restReason.nvs = s.nvs ∧ s.restReason.ram = s.ram ∧ s.restReason.strap = s.strap ∧
    s.restReason.pending = s.pending ∧ s.restReason.fmu.pos = s.fmu.pos := by
  simp only [State.restReason]
  (repeat' split) <;> simp

@[simp] theorem State.actOnRest_keeps (s : State) :
    s.actOnRest.hpu = s.hpu ∧ s.actOnRest.csq = s.csq ∧ s.actOnRest.gst = s.gst ∧ s.actOnRest.lbq = s.lbq ∧
    s.actOnRest.ring = s.ring ∧ s.actOnRest.hdu = s.hdu ∧ s.actOnRest.nvs = s.nvs ∧ s.actOnRest.ram = s.ram ∧
    s.actOnRest.strap = s.strap ∧ s.actOnRest.pending = s.pending ∧ s.actOnRest.fmu.pos = s.fmu.pos ∧
    s.actOnRest.eng.headOpen = s.eng.headOpen ∧ s.actOnRest.eng.events = s.eng.events := by
  simp only [State.actOnRest]
  (repeat' split) <;> simp

@[simp] theorem State.weighRest_keeps (s : State) :
    s.weighRest.hpu = s.hpu ∧ s.weighRest.csq = s.csq ∧ s.weighRest.gst = s.gst ∧ s.weighRest.lbq = s.lbq ∧
    s.weighRest.ring = s.ring ∧ s.weighRest.hdu = s.hdu ∧ s.weighRest.nvs = s.nvs ∧ s.weighRest.ram = s.ram ∧
    s.weighRest.strap = s.strap ∧ s.weighRest.pending = s.pending ∧ s.weighRest.fmu.pos = s.fmu.pos ∧
    s.weighRest.eng.headOpen = s.eng.headOpen ∧ s.weighRest.eng.events = s.eng.events := by
  simp only [State.weighRest]
  (repeat' split) <;> simp

@[simp] theorem State.reviewRun_keeps (s : State) :
    s.reviewRun.hpu = s.hpu ∧ s.reviewRun.csq = s.csq ∧ s.reviewRun.gst = s.gst ∧ s.reviewRun.lbq = s.lbq ∧
    s.reviewRun.ring = s.ring ∧ s.reviewRun.hdu = s.hdu ∧ s.reviewRun.nvs = s.nvs ∧ s.reviewRun.ram = s.ram ∧
    s.reviewRun.strap = s.strap ∧ s.reviewRun.pending = s.pending ∧ s.reviewRun.fmu.pos = s.fmu.pos ∧
    s.reviewRun.eng.headOpen = s.eng.headOpen ∧ s.reviewRun.eng.events = s.eng.events := by
  simp only [State.reviewRun]
  simp

@[simp] theorem State.leavePause_keeps (s : State) :
    s.leavePause.hpu = s.hpu ∧ s.leavePause.csq = s.csq ∧ s.leavePause.gst = s.gst ∧ s.leavePause.lbq = s.lbq ∧
    s.leavePause.ring = s.ring ∧ s.leavePause.hdu = s.hdu ∧ s.leavePause.fmu = s.fmu ∧ s.leavePause.msu = s.msu ∧
    s.leavePause.nvs = s.nvs ∧ s.leavePause.ram = s.ram ∧ s.leavePause.strap = s.strap ∧
    s.leavePause.pending = s.pending ∧ s.leavePause.eng.headOpen = s.eng.headOpen ∧
    s.leavePause.eng.events = s.eng.events := by
  simp only [State.leavePause]
  (repeat' split) <;> simp

@[simp] theorem State.startRun_keeps (s : State) :
    s.startRun.hpu = s.hpu ∧ s.startRun.csq = s.csq ∧ s.startRun.gst = s.gst ∧ s.startRun.lbq = s.lbq ∧
    s.startRun.ring = s.ring ∧ s.startRun.hdu = s.hdu ∧ s.startRun.nvs = s.nvs ∧ s.startRun.ram = s.ram ∧
    s.startRun.strap = s.strap ∧ s.startRun.pending = s.pending ∧ s.startRun.fmu.pos = s.fmu.pos ∧
    s.startRun.eng.headOpen = s.eng.headOpen ∧ s.startRun.eng.events = s.eng.events := by
  simp only [State.startRun]
  (repeat' split) <;> simp

@[simp] theorem State.enterHold_keeps (s : State) :
    s.enterHold.hpu = s.hpu ∧ s.enterHold.csq = s.csq ∧ s.enterHold.gst = s.gst ∧ s.enterHold.lbq = s.lbq ∧
    s.enterHold.ring = s.ring ∧ s.enterHold.hdu = s.hdu ∧ s.enterHold.nvs = s.nvs ∧ s.enterHold.ram = s.ram ∧
    s.enterHold.strap = s.strap ∧ s.enterHold.pending = s.pending ∧ s.enterHold.fmu.pos = s.fmu.pos ∧
    s.enterHold.eng.headOpen = s.eng.headOpen := by
  simp only [State.enterHold]
  (repeat' split) <;> simp

@[simp] theorem State.releaseHold_keeps (s : State) :
    s.releaseHold.hpu = s.hpu ∧ s.releaseHold.csq = s.csq ∧ s.releaseHold.gst = s.gst ∧ s.releaseHold.lbq = s.lbq ∧
    s.releaseHold.ring = s.ring ∧ s.releaseHold.hdu = s.hdu ∧ s.releaseHold.nvs = s.nvs ∧
    s.releaseHold.ram = s.ram ∧ s.releaseHold.strap = s.strap ∧ s.releaseHold.pending = s.pending ∧
    s.releaseHold.fmu.pos = s.fmu.pos ∧ s.releaseHold.eng.headOpen = s.eng.headOpen := by
  simp only [State.releaseHold]
  (repeat' split) <;> simp

@[simp] theorem State.enterRecovery_keeps (s : State) (discard : Bool) :
    (s.enterRecovery discard).hpu = s.hpu ∧ (s.enterRecovery discard).csq = s.csq ∧
    (s.enterRecovery discard).hdu = s.hdu ∧ (s.enterRecovery discard).msu = s.msu ∧
    (s.enterRecovery discard).nvs = s.nvs ∧ (s.enterRecovery discard).ram = s.ram ∧
    (s.enterRecovery discard).strap = s.strap ∧ (s.enterRecovery discard).pending = s.pending ∧
    (s.enterRecovery discard).fmu.pos = s.fmu.pos ∧ (s.enterRecovery discard).eng.headOpen = s.eng.headOpen := by
  simp only [State.enterRecovery]
  (repeat' split) <;> simp

@[simp] theorem State.recovered_keeps (s : State) :
    s.recovered.gst = s.gst ∧ s.recovered.lbq = s.lbq ∧ s.recovered.ring = s.ring ∧ s.recovered.hdu = s.hdu ∧
    s.recovered.nvs = s.nvs ∧ s.recovered.ram = s.ram ∧ s.recovered.strap = s.strap ∧
    s.recovered.pending = s.pending ∧ s.recovered.fmu.pos = s.fmu.pos ∧ s.recovered.hpu.service = s.hpu.service ∧
    s.recovered.eng.headOpen = s.eng.headOpen := by
  simp only [State.recovered]
  (repeat' split) <;> simp

@[simp] theorem State.recoveryFind_keeps (s : State) :
    s.recoveryFind.gst = s.gst ∧ s.recoveryFind.lbq = s.lbq ∧ s.recoveryFind.ring = s.ring ∧
    s.recoveryFind.hdu = s.hdu ∧ s.recoveryFind.nvs = s.nvs ∧ s.recoveryFind.ram = s.ram ∧
    s.recoveryFind.strap = s.strap ∧ s.recoveryFind.pending = s.pending ∧ s.recoveryFind.fmu.pos = s.fmu.pos ∧
    s.recoveryFind.hpu.service = s.hpu.service ∧ s.recoveryFind.eng.headOpen = s.eng.headOpen := by
  simp only [State.recoveryFind]
  (repeat' split) <;> simp

@[simp] theorem State.beginRecoveryFind_keeps (s : State) :
    s.beginRecoveryFind.gst = s.gst ∧ s.beginRecoveryFind.lbq = s.lbq ∧ s.beginRecoveryFind.ring = s.ring ∧
    s.beginRecoveryFind.hdu = s.hdu ∧ s.beginRecoveryFind.nvs = s.nvs ∧ s.beginRecoveryFind.ram = s.ram ∧
    s.beginRecoveryFind.strap = s.strap ∧ s.beginRecoveryFind.pending = s.pending ∧
    s.beginRecoveryFind.fmu.pos = s.fmu.pos ∧ s.beginRecoveryFind.hpu.service = s.hpu.service ∧
    s.beginRecoveryFind.eng.headOpen = s.eng.headOpen := by
  simp only [State.beginRecoveryFind]
  (repeat' split) <;> simp

@[simp] theorem State.breakRecovery_keeps (s : State) :
    s.breakRecovery.gst = s.gst ∧ s.breakRecovery.hdu = s.hdu ∧ s.breakRecovery.nvs = s.nvs ∧
    s.breakRecovery.ram = s.ram ∧ s.breakRecovery.strap = s.strap ∧ s.breakRecovery.pending = s.pending ∧
    s.breakRecovery.fmu.pos = s.fmu.pos ∧ s.breakRecovery.hpu.service = s.hpu.service ∧
    s.breakRecovery.eng.headOpen = s.eng.headOpen := by
  simp only [State.breakRecovery]
  simp

@[simp] theorem State.stopEnded_keeps (s : State) :
    s.stopEnded.gst = s.gst ∧ s.stopEnded.hdu = s.hdu ∧ s.stopEnded.nvs = s.nvs ∧ s.stopEnded.ram = s.ram ∧
    s.stopEnded.strap = s.strap ∧ s.stopEnded.pending = s.pending ∧ s.stopEnded.fmu.pos = s.fmu.pos ∧
    s.stopEnded.hpu.service = s.hpu.service ∧ s.stopEnded.eng.headOpen = s.eng.headOpen := by
  simp only [State.stopEnded]
  (repeat' split) <;> simp

@[simp] theorem State.breakMotion_keeps (s : State) :
    s.breakMotion.gst = s.gst ∧ s.breakMotion.hdu = s.hdu ∧ s.breakMotion.nvs = s.nvs ∧ s.breakMotion.ram = s.ram ∧
    s.breakMotion.strap = s.strap ∧ s.breakMotion.pending = s.pending ∧ s.breakMotion.fmu.pos = s.fmu.pos ∧
    s.breakMotion.hpu.service = s.hpu.service ∧ s.breakMotion.eng.headOpen = s.eng.headOpen := by
  simp only [State.breakMotion]
  (repeat' split) <;> simp

@[simp] theorem State.accept_keeps (s : State) (code : Byte) :
    (s.accept code).gst = s.gst ∧ (s.accept code).lbq = s.lbq ∧ (s.accept code).ring = s.ring ∧
    (s.accept code).hdu = s.hdu ∧ (s.accept code).msu = s.msu ∧ (s.accept code).eng = s.eng ∧
    (s.accept code).nvs = s.nvs ∧ (s.accept code).ram = s.ram ∧ (s.accept code).strap = s.strap ∧
    (s.accept code).pending = s.pending ∧ (s.accept code).fmu.pos = s.fmu.pos ∧
    (s.accept code).hpu.service = s.hpu.service := by
  simp only [State.accept]
  (repeat' split) <;> simp

@[simp] theorem State.atPrintLine_keeps (s : State) :
    s.atPrintLine.hpu = s.hpu ∧ s.atPrintLine.csq = s.csq ∧ s.atPrintLine.gst = s.gst ∧ s.atPrintLine.lbq = s.lbq ∧
    s.atPrintLine.ring = s.ring ∧ s.atPrintLine.hdu = s.hdu ∧ s.atPrintLine.msu = s.msu ∧
    s.atPrintLine.eng = s.eng ∧ s.atPrintLine.nvs = s.nvs ∧ s.atPrintLine.ram = s.ram ∧
    s.atPrintLine.strap = s.strap ∧ s.atPrintLine.pending = s.pending ∧ s.atPrintLine.fmu.pos = s.fmu.pos := by
  simp only [State.atPrintLine]
  simp

@[simp] theorem State.commitFeed_keeps (s : State) :
    s.commitFeed.gst = s.gst ∧ s.commitFeed.lbq = s.lbq ∧ s.commitFeed.ring = s.ring ∧ s.commitFeed.hdu = s.hdu ∧
    s.commitFeed.eng = s.eng ∧ s.commitFeed.nvs = s.nvs ∧ s.commitFeed.ram = s.ram ∧ s.commitFeed.strap = s.strap ∧
    s.commitFeed.pending = s.pending ∧ s.commitFeed.fmu.pos = s.fmu.pos ∧
    s.commitFeed.hpu.service = s.hpu.service := by
  simp only [State.commitFeed]
  (repeat' split) <;> simp

@[simp] theorem State.commitAdvance_keeps (s : State) :
    s.commitAdvance.gst = s.gst ∧ s.commitAdvance.lbq = s.lbq ∧ s.commitAdvance.ring = s.ring ∧
    s.commitAdvance.hdu = s.hdu ∧ s.commitAdvance.eng = s.eng ∧ s.commitAdvance.nvs = s.nvs ∧
    s.commitAdvance.ram = s.ram ∧ s.commitAdvance.strap = s.strap ∧ s.commitAdvance.pending = s.pending ∧
    s.commitAdvance.fmu.pos = s.fmu.pos ∧ s.commitAdvance.hpu.service = s.hpu.service := by
  simp only [State.commitAdvance]
  (repeat' split) <;> simp

@[simp] theorem State.commitCalibrate_keeps (s : State) :
    s.commitCalibrate.gst = s.gst ∧ s.commitCalibrate.lbq = s.lbq ∧ s.commitCalibrate.ring = s.ring ∧
    s.commitCalibrate.hdu = s.hdu ∧ s.commitCalibrate.eng = s.eng ∧ s.commitCalibrate.nvs = s.nvs ∧
    s.commitCalibrate.ram = s.ram ∧ s.commitCalibrate.strap = s.strap ∧ s.commitCalibrate.pending = s.pending ∧
    s.commitCalibrate.fmu.pos = s.fmu.pos ∧ s.commitCalibrate.hpu.service = s.hpu.service := by
  simp only [State.commitCalibrate]
  simp

@[simp] theorem State.commitPresent_keeps (s : State) :
    s.commitPresent.gst = s.gst ∧ s.commitPresent.lbq = s.lbq ∧ s.commitPresent.ring = s.ring ∧
    s.commitPresent.hdu = s.hdu ∧ s.commitPresent.eng = s.eng ∧ s.commitPresent.nvs = s.nvs ∧
    s.commitPresent.ram = s.ram ∧ s.commitPresent.strap = s.strap ∧ s.commitPresent.pending = s.pending ∧
    s.commitPresent.fmu.pos = s.fmu.pos ∧ s.commitPresent.hpu.service = s.hpu.service := by
  simp only [State.commitPresent]
  (repeat' split) <;> simp

@[simp] theorem State.commitRetract_keeps (s : State) :
    s.commitRetract.gst = s.gst ∧ s.commitRetract.lbq = s.lbq ∧ s.commitRetract.ring = s.ring ∧
    s.commitRetract.hdu = s.hdu ∧ s.commitRetract.eng = s.eng ∧ s.commitRetract.nvs = s.nvs ∧
    s.commitRetract.ram = s.ram ∧ s.commitRetract.strap = s.strap ∧ s.commitRetract.pending = s.pending ∧
    s.commitRetract.fmu.pos = s.fmu.pos ∧ s.commitRetract.hpu.service = s.hpu.service := by
  simp only [State.commitRetract]
  (repeat' split) <;> simp

@[simp] theorem State.commitResume_keeps (s : State) :
    s.commitResume.hdu = s.hdu ∧ s.commitResume.nvs = s.nvs ∧ s.commitResume.ram = s.ram ∧
    s.commitResume.strap = s.strap ∧ s.commitResume.pending = s.pending ∧ s.commitResume.fmu.pos = s.fmu.pos ∧
    s.commitResume.hpu.service = s.hpu.service ∧ s.commitResume.eng.headOpen = s.eng.headOpen := by
  simp only [State.commitResume]
  (repeat' split) <;> simp

@[simp] theorem State.commitMotion_keeps (s : State) :
    s.commitMotion.hdu = s.hdu ∧ s.commitMotion.nvs = s.nvs ∧ s.commitMotion.ram = s.ram ∧
    s.commitMotion.strap = s.strap ∧ s.commitMotion.pending = s.pending ∧ s.commitMotion.fmu.pos = s.fmu.pos ∧
    s.commitMotion.hpu.service = s.hpu.service ∧ s.commitMotion.eng.headOpen = s.eng.headOpen := by
  simp only [State.commitMotion]
  (repeat' split) <;> simp

@[simp] theorem State.motionStep5_keeps (s : State) :
    s.motionStep5.hdu = s.hdu ∧ s.motionStep5.nvs = s.nvs ∧ s.motionStep5.ram = s.ram ∧
    s.motionStep5.strap = s.strap ∧ s.motionStep5.pending = s.pending ∧ s.motionStep5.fmu.pos = s.fmu.pos ∧
    s.motionStep5.hpu.service = s.hpu.service ∧ s.motionStep5.eng.headOpen = s.eng.headOpen := by
  simp only [State.motionStep5, State.act]
  (repeat' split) <;> simp

@[simp] theorem State.endWait_keeps (s : State) :
    s.endWait.hdu = s.hdu ∧ s.endWait.nvs = s.nvs ∧ s.endWait.ram = s.ram ∧ s.endWait.strap = s.strap ∧
    s.endWait.pending = s.pending ∧ s.endWait.fmu.pos = s.fmu.pos ∧ s.endWait.hpu.service = s.hpu.service ∧
    s.endWait.eng.headOpen = s.eng.headOpen := by
  simp only [State.endWait]
  (repeat' split) <;> simp

@[simp] theorem State.compactOn_keeps (s : State) :
    s.compactOn.lbq = s.lbq ∧ s.compactOn.ring = s.ring ∧ s.compactOn.hdu = s.hdu ∧ s.compactOn.fmu = s.fmu ∧
    s.compactOn.msu = s.msu ∧ s.compactOn.eng = s.eng ∧ s.compactOn.nvs = s.nvs ∧ s.compactOn.ram = s.ram ∧
    s.compactOn.strap = s.strap ∧ s.compactOn.pending = s.pending ∧ s.compactOn.hpu.service = s.hpu.service := by
  simp only [State.compactOn]
  (repeat' split) <;> simp

@[simp] theorem State.conclude_keeps (s : State) :
    s.conclude.hdu = s.hdu ∧ s.conclude.nvs = s.nvs ∧ s.conclude.ram = s.ram ∧ s.conclude.strap = s.strap ∧
    s.conclude.pending = s.pending ∧ s.conclude.fmu.pos = s.fmu.pos ∧ s.conclude.hpu.service = s.hpu.service ∧
    s.conclude.eng.headOpen = s.eng.headOpen := by
  simp only [State.conclude]
  simp

@[simp] theorem State.motion_keeps (s : State) (code : Byte) :
    (s.motion code).hdu = s.hdu ∧ (s.motion code).nvs = s.nvs ∧ (s.motion code).ram = s.ram ∧
    (s.motion code).strap = s.strap ∧ (s.motion code).pending = s.pending ∧ (s.motion code).fmu.pos = s.fmu.pos ∧
    (s.motion code).hpu.service = s.hpu.service ∧ (s.motion code).eng.headOpen = s.eng.headOpen := by
  simp only [State.motion, State.act]
  (repeat' split) <;> simp

@[simp] theorem State.passLine_keeps (s : State) (l : LabelLine) :
    (s.passLine l).hpu = s.hpu ∧ (s.passLine l).csq = s.csq ∧ (s.passLine l).nvs = s.nvs ∧
    (s.passLine l).ram = s.ram ∧ (s.passLine l).strap = s.strap ∧ (s.passLine l).pending = s.pending ∧
    (s.passLine l).eng.cond = s.eng.cond ∧ (s.passLine l).eng.headOpen = s.eng.headOpen ∧
    (s.passLine l).eng.causes = s.eng.causes ∧ (s.passLine l).eng.primary = s.eng.primary ∧
    (s.passLine l).eng.haltPos = s.eng.haltPos ∧ (s.passLine l).eng.applied = s.eng.applied ∧
    (s.passLine l).eng.recLabel = s.eng.recLabel ∧ (s.passLine l).eng.settle = s.eng.settle ∧
    (s.passLine l).eng.cursor = s.eng.cursor ∧ (s.passLine l).fmu.pos = s.fmu.pos := by
  simp only [State.passLine]
  (repeat' split) <;> simp

@[simp] theorem State.loseRegistration_keeps (s : State) :
    s.loseRegistration.hpu = s.hpu ∧ s.loseRegistration.csq = s.csq ∧ s.loseRegistration.gst = s.gst ∧
    s.loseRegistration.lbq = s.lbq ∧ s.loseRegistration.ring = s.ring ∧ s.loseRegistration.hdu = s.hdu ∧
    s.loseRegistration.fmu = s.fmu ∧ s.loseRegistration.nvs = s.nvs ∧ s.loseRegistration.ram = s.ram ∧
    s.loseRegistration.strap = s.strap ∧ s.loseRegistration.pending = s.pending ∧
    s.loseRegistration.eng.cond = s.eng.cond ∧ s.loseRegistration.eng.headOpen = s.eng.headOpen ∧
    s.loseRegistration.eng.causes = s.eng.causes ∧ s.loseRegistration.eng.primary = s.eng.primary ∧
    s.loseRegistration.eng.haltPos = s.eng.haltPos ∧ s.loseRegistration.eng.interrupted = s.eng.interrupted ∧
    s.loseRegistration.eng.applied = s.eng.applied ∧ s.loseRegistration.eng.recLabel = s.eng.recLabel ∧
    s.loseRegistration.eng.settle = s.eng.settle ∧ s.loseRegistration.eng.cursor = s.eng.cursor := by
  simp only [State.loseRegistration]
  simp

@[simp] theorem State.decide4_keeps (s : State) (under : Bool) (level : Byte) (change : Option ClassChange) :
    (s.decide4 under level change).state.hpu = s.hpu ∧ (s.decide4 under level change).state.csq = s.csq ∧
    (s.decide4 under level change).state.gst = s.gst ∧ (s.decide4 under level change).state.lbq = s.lbq ∧
    (s.decide4 under level change).state.ring = s.ring ∧ (s.decide4 under level change).state.hdu = s.hdu ∧
    (s.decide4 under level change).state.nvs = s.nvs ∧ (s.decide4 under level change).state.ram = s.ram ∧
    (s.decide4 under level change).state.strap = s.strap ∧
    (s.decide4 under level change).state.pending = s.pending ∧
    (s.decide4 under level change).state.fmu.pos = s.fmu.pos ∧
    (s.decide4 under level change).state.eng.cond = s.eng.cond ∧
    (s.decide4 under level change).state.eng.headOpen = s.eng.headOpen ∧
    (s.decide4 under level change).state.eng.causes = s.eng.causes ∧
    (s.decide4 under level change).state.eng.primary = s.eng.primary ∧
    (s.decide4 under level change).state.eng.haltPos = s.eng.haltPos ∧
    (s.decide4 under level change).state.eng.interrupted = s.eng.interrupted ∧
    (s.decide4 under level change).state.eng.applied = s.eng.applied ∧
    (s.decide4 under level change).state.eng.recLabel = s.eng.recLabel ∧
    (s.decide4 under level change).state.eng.settle = s.eng.settle ∧
    (s.decide4 under level change).state.eng.cursor = s.eng.cursor := by
  simp only [State.decide4]
  (repeat' split) <;> simp

@[simp] theorem State.stopForFault_keeps (s : State) (absent lost : Bool) :
    (s.stopForFault absent lost).gst = s.gst ∧ (s.stopForFault absent lost).hdu = s.hdu ∧
    (s.stopForFault absent lost).nvs = s.nvs ∧ (s.stopForFault absent lost).ram = s.ram ∧
    (s.stopForFault absent lost).strap = s.strap ∧ (s.stopForFault absent lost).pending = s.pending ∧
    (s.stopForFault absent lost).fmu.pos = s.fmu.pos ∧ (s.stopForFault absent lost).hpu.service = s.hpu.service ∧
    (s.stopForFault absent lost).eng.headOpen = s.eng.headOpen := by
  simp only [State.stopForFault]
  (repeat' split) <;> simp

@[simp] theorem State.endFreeMove_keeps (s : State) :
    s.endFreeMove.gst = s.gst ∧ s.endFreeMove.lbq = s.lbq ∧ s.endFreeMove.ring = s.ring ∧
    s.endFreeMove.hdu = s.hdu ∧ s.endFreeMove.nvs = s.nvs ∧ s.endFreeMove.ram = s.ram ∧
    s.endFreeMove.strap = s.strap ∧ s.endFreeMove.pending = s.pending ∧ s.endFreeMove.eng.cond = s.eng.cond ∧
    s.endFreeMove.eng.headOpen = s.eng.headOpen ∧ s.endFreeMove.eng.causes = s.eng.causes ∧
    s.endFreeMove.eng.primary = s.eng.primary ∧ s.endFreeMove.eng.haltPos = s.eng.haltPos ∧
    s.endFreeMove.eng.interrupted = s.eng.interrupted ∧ s.endFreeMove.eng.applied = s.eng.applied ∧
    s.endFreeMove.eng.recLabel = s.eng.recLabel ∧ s.endFreeMove.eng.settle = s.eng.settle ∧
    s.endFreeMove.eng.cursor = s.eng.cursor ∧ s.endFreeMove.fmu.pos = s.fmu.pos ∧
    s.endFreeMove.hpu.service = s.hpu.service := by
  simp only [State.endFreeMove]
  simp

@[simp] theorem State.targetReached_keeps (s : State) :
    s.targetReached.gst = s.gst ∧ s.targetReached.lbq = s.lbq ∧ s.targetReached.ring = s.ring ∧
    s.targetReached.hdu = s.hdu ∧ s.targetReached.nvs = s.nvs ∧ s.targetReached.ram = s.ram ∧
    s.targetReached.strap = s.strap ∧ s.targetReached.pending = s.pending ∧ s.targetReached.eng.cond = s.eng.cond ∧
    s.targetReached.eng.headOpen = s.eng.headOpen ∧ s.targetReached.eng.causes = s.eng.causes ∧
    s.targetReached.eng.primary = s.eng.primary ∧ s.targetReached.eng.haltPos = s.eng.haltPos ∧
    s.targetReached.eng.interrupted = s.eng.interrupted ∧ s.targetReached.eng.applied = s.eng.applied ∧
    s.targetReached.eng.recLabel = s.eng.recLabel ∧ s.targetReached.eng.settle = s.eng.settle ∧
    s.targetReached.eng.cursor = s.eng.cursor ∧ s.targetReached.fmu.pos = s.fmu.pos ∧
    s.targetReached.hpu.service = s.hpu.service := by
  simp only [State.targetReached]
  (repeat' split) <;> simp

@[simp] theorem State.searchFails_keeps (s : State) :
    s.searchFails.gst = s.gst ∧ s.searchFails.lbq = s.lbq ∧ s.searchFails.ring = s.ring ∧
    s.searchFails.hdu = s.hdu ∧ s.searchFails.nvs = s.nvs ∧ s.searchFails.ram = s.ram ∧
    s.searchFails.strap = s.strap ∧ s.searchFails.pending = s.pending ∧ s.searchFails.eng.cond = s.eng.cond ∧
    s.searchFails.eng.headOpen = s.eng.headOpen ∧ s.searchFails.eng.causes = s.eng.causes ∧
    s.searchFails.eng.primary = s.eng.primary ∧ s.searchFails.eng.haltPos = s.eng.haltPos ∧
    s.searchFails.eng.interrupted = s.eng.interrupted ∧ s.searchFails.eng.applied = s.eng.applied ∧
    s.searchFails.eng.recLabel = s.eng.recLabel ∧ s.searchFails.eng.settle = s.eng.settle ∧
    s.searchFails.eng.cursor = s.eng.cursor ∧ s.searchFails.fmu.pos = s.fmu.pos ∧
    s.searchFails.hpu.service = s.hpu.service := by
  simp only [State.searchFails]
  (repeat' split) <;> simp

@[simp] theorem State.calibrationEnds_keeps (s : State) (e : Ending) :
    (s.calibrationEnds e).gst = s.gst ∧ (s.calibrationEnds e).lbq = s.lbq ∧ (s.calibrationEnds e).ring = s.ring ∧
    (s.calibrationEnds e).hdu = s.hdu ∧ (s.calibrationEnds e).nvs = s.nvs ∧ (s.calibrationEnds e).ram = s.ram ∧
    (s.calibrationEnds e).strap = s.strap ∧ (s.calibrationEnds e).pending = s.pending ∧
    (s.calibrationEnds e).eng.cond = s.eng.cond ∧ (s.calibrationEnds e).eng.headOpen = s.eng.headOpen ∧
    (s.calibrationEnds e).eng.causes = s.eng.causes ∧ (s.calibrationEnds e).eng.primary = s.eng.primary ∧
    (s.calibrationEnds e).eng.haltPos = s.eng.haltPos ∧ (s.calibrationEnds e).eng.interrupted = s.eng.interrupted ∧
    (s.calibrationEnds e).eng.applied = s.eng.applied ∧ (s.calibrationEnds e).eng.recLabel = s.eng.recLabel ∧
    (s.calibrationEnds e).eng.settle = s.eng.settle ∧ (s.calibrationEnds e).eng.cursor = s.eng.cursor ∧
    (s.calibrationEnds e).fmu.pos = s.fmu.pos ∧ (s.calibrationEnds e).hpu.service = s.hpu.service := by
  simp only [State.calibrationEnds]
  simp

@[simp] theorem State.endOfFreeStep_keeps (s : State) (m : MoveEnd) :
    (s.endOfFreeStep m).gst = s.gst ∧ (s.endOfFreeStep m).lbq = s.lbq ∧ (s.endOfFreeStep m).ring = s.ring ∧
    (s.endOfFreeStep m).hdu = s.hdu ∧ (s.endOfFreeStep m).ram = s.ram ∧ (s.endOfFreeStep m).strap = s.strap ∧
    (s.endOfFreeStep m).pending = s.pending ∧ (s.endOfFreeStep m).fmu.pos = s.fmu.pos ∧
    (s.endOfFreeStep m).hpu.service = s.hpu.service ∧ (s.endOfFreeStep m).eng.headOpen = s.eng.headOpen ∧
    (s.endOfFreeStep m).nvs.mech = s.nvs.mech ∧ (s.endOfFreeStep m).nvs.store = s.nvs.store := by
  simp only [State.endOfFreeStep]
  (repeat' split) <;> simp

@[simp] theorem State.reportUnderrun_keeps (s : State) :
    s.reportUnderrun.hpu = s.hpu ∧ s.reportUnderrun.csq = s.csq ∧ s.reportUnderrun.gst = s.gst ∧
    s.reportUnderrun.lbq = s.lbq ∧ s.reportUnderrun.ring = s.ring ∧ s.reportUnderrun.hdu = s.hdu ∧
    s.reportUnderrun.msu = s.msu ∧ s.reportUnderrun.nvs = s.nvs ∧ s.reportUnderrun.ram = s.ram ∧
    s.reportUnderrun.strap = s.strap ∧ s.reportUnderrun.pending = s.pending ∧ s.reportUnderrun.fmu.pos = s.fmu.pos ∧
    s.reportUnderrun.eng.cond = s.eng.cond ∧ s.reportUnderrun.eng.headOpen = s.eng.headOpen ∧
    s.reportUnderrun.eng.causes = s.eng.causes ∧ s.reportUnderrun.eng.primary = s.eng.primary ∧
    s.reportUnderrun.eng.haltPos = s.eng.haltPos ∧ s.reportUnderrun.eng.interrupted = s.eng.interrupted ∧
    s.reportUnderrun.eng.applied = s.eng.applied ∧ s.reportUnderrun.eng.recLabel = s.eng.recLabel ∧
    s.reportUnderrun.eng.settle = s.eng.settle ∧ s.reportUnderrun.eng.cursor = s.eng.cursor := by
  simp only [State.reportUnderrun]
  (repeat' split) <;> simp

@[simp] theorem State.endOfRunStep_keeps (s : State) (m : MoveEnd) :
    (s.endOfRunStep m).hpu = s.hpu ∧ (s.endOfRunStep m).csq = s.csq ∧ (s.endOfRunStep m).gst = s.gst ∧
    (s.endOfRunStep m).lbq = s.lbq ∧ (s.endOfRunStep m).ring = s.ring ∧ (s.endOfRunStep m).hdu = s.hdu ∧
    (s.endOfRunStep m).nvs = s.nvs ∧ (s.endOfRunStep m).ram = s.ram ∧ (s.endOfRunStep m).strap = s.strap ∧
    (s.endOfRunStep m).pending = s.pending ∧ (s.endOfRunStep m).fmu.pos = s.fmu.pos ∧
    (s.endOfRunStep m).eng.cond = s.eng.cond ∧ (s.endOfRunStep m).eng.headOpen = s.eng.headOpen ∧
    (s.endOfRunStep m).eng.causes = s.eng.causes ∧ (s.endOfRunStep m).eng.primary = s.eng.primary ∧
    (s.endOfRunStep m).eng.haltPos = s.eng.haltPos ∧ (s.endOfRunStep m).eng.interrupted = s.eng.interrupted ∧
    (s.endOfRunStep m).eng.applied = s.eng.applied ∧ (s.endOfRunStep m).eng.recLabel = s.eng.recLabel ∧
    (s.endOfRunStep m).eng.settle = s.eng.settle ∧ (s.endOfRunStep m).eng.cursor = s.eng.cursor := by
  simp only [State.endOfRunStep]
  (repeat' split) <;> simp

@[simp] theorem State.endOfStep_keeps (s : State) (m : MoveEnd) :
    (s.endOfStep m).gst = s.gst ∧ (s.endOfStep m).hdu = s.hdu ∧ (s.endOfStep m).ram = s.ram ∧
    (s.endOfStep m).strap = s.strap ∧ (s.endOfStep m).pending = s.pending ∧ (s.endOfStep m).fmu.pos = s.fmu.pos ∧
    (s.endOfStep m).hpu.service = s.hpu.service ∧ (s.endOfStep m).eng.headOpen = s.eng.headOpen ∧
    (s.endOfStep m).nvs.mech = s.nvs.mech ∧ (s.endOfStep m).nvs.store = s.nvs.store := by
  simp only [State.endOfStep]
  (repeat' split) <;> simp

@[simp] theorem State.backAtTarget_keeps (s : State) :
    s.backAtTarget.gst = s.gst ∧ s.backAtTarget.lbq = s.lbq ∧ s.backAtTarget.ring = s.ring ∧
    s.backAtTarget.hdu = s.hdu ∧ s.backAtTarget.nvs = s.nvs ∧ s.backAtTarget.ram = s.ram ∧
    s.backAtTarget.strap = s.strap ∧ s.backAtTarget.pending = s.pending ∧ s.backAtTarget.fmu.pos = s.fmu.pos ∧
    s.backAtTarget.hpu.service = s.hpu.service ∧ s.backAtTarget.eng.headOpen = s.eng.headOpen := by
  simp only [State.backAtTarget]
  (repeat' split) <;> simp

@[simp] theorem State.readRequests_keeps (s : State) (before : Bool) :
    (s.readRequests before).gst = s.gst ∧ (s.readRequests before).hdu = s.hdu ∧
    (s.readRequests before).nvs = s.nvs ∧ (s.readRequests before).ram = s.ram ∧
    (s.readRequests before).strap = s.strap ∧ (s.readRequests before).pending = s.pending ∧
    (s.readRequests before).fmu.pos = s.fmu.pos ∧ (s.readRequests before).hpu.service = s.hpu.service ∧
    (s.readRequests before).eng.headOpen = s.eng.headOpen := by
  simp only [State.readRequests]
  (repeat' split) <;> simp

@[simp] theorem State.startSettle_keeps (s : State) :
    s.startSettle.hpu = s.hpu ∧ s.startSettle.csq = s.csq ∧ s.startSettle.gst = s.gst ∧ s.startSettle.lbq = s.lbq ∧
    s.startSettle.ring = s.ring ∧ s.startSettle.hdu = s.hdu ∧ s.startSettle.fmu = s.fmu ∧
    s.startSettle.msu = s.msu ∧ s.startSettle.nvs = s.nvs ∧ s.startSettle.ram = s.ram ∧
    s.startSettle.strap = s.strap ∧ s.startSettle.pending = s.pending ∧
    s.startSettle.eng.headOpen = s.eng.headOpen ∧ s.startSettle.eng.events = s.eng.events ∧
    s.startSettle.eng.cond = s.eng.cond := by
  simp only [State.startSettle]
  (repeat' split) <;> simp

@[simp] theorem State.headChanges_keeps (s : State) :
    s.headChanges.gst = s.gst ∧ s.headChanges.hdu = s.hdu ∧ s.headChanges.nvs = s.nvs ∧ s.headChanges.ram = s.ram ∧
    s.headChanges.strap = s.strap ∧ s.headChanges.pending = s.pending ∧ s.headChanges.fmu.pos = s.fmu.pos ∧
    s.headChanges.hpu.service = s.hpu.service := by
  simp only [State.headChanges]
  (repeat' split) <;> simp

@[simp] theorem State.idleStep_keeps (s : State) (level : Byte) :
    (s.idleStep level).gst = s.gst ∧ (s.idleStep level).hdu = s.hdu ∧ (s.idleStep level).nvs = s.nvs ∧
    (s.idleStep level).ram = s.ram ∧ (s.idleStep level).strap = s.strap ∧ (s.idleStep level).pending = s.pending ∧
    (s.idleStep level).fmu.pos = s.fmu.pos ∧ (s.idleStep level).hpu.service = s.hpu.service ∧
    (s.idleStep level).eng.headOpen = s.eng.headOpen := by
  simp only [State.idleStep]
  (repeat' split) <;> simp

@[simp] theorem State.releaseMotor_keeps (s : State) :
    s.releaseMotor.hpu = s.hpu ∧ s.releaseMotor.csq = s.csq ∧ s.releaseMotor.gst = s.gst ∧
    s.releaseMotor.lbq = s.lbq ∧ s.releaseMotor.ring = s.ring ∧ s.releaseMotor.hdu = s.hdu ∧
    s.releaseMotor.msu = s.msu ∧ s.releaseMotor.eng = s.eng ∧ s.releaseMotor.nvs = s.nvs ∧
    s.releaseMotor.ram = s.ram ∧ s.releaseMotor.strap = s.strap ∧ s.releaseMotor.pending = s.pending ∧
    s.releaseMotor.fmu.pos = s.fmu.pos := by
  simp only [State.releaseMotor]
  simp

@[simp] theorem State.commitPlacement_keeps (s : State) (p : Placement) :
    (s.commitPlacement p).1.hpu = s.hpu ∧ (s.commitPlacement p).1.csq = s.csq ∧
    (s.commitPlacement p).1.ring = s.ring ∧ (s.commitPlacement p).1.hdu = s.hdu ∧
    (s.commitPlacement p).1.fmu = s.fmu ∧ (s.commitPlacement p).1.msu = s.msu ∧
    (s.commitPlacement p).1.eng = s.eng ∧ (s.commitPlacement p).1.nvs = s.nvs ∧
    (s.commitPlacement p).1.ram = s.ram ∧ (s.commitPlacement p).1.strap = s.strap ∧
    (s.commitPlacement p).1.pending = s.pending := by
  simp only [State.commitPlacement]
  simp

@[simp] theorem State.commitDefine_keeps (s : State) :
    s.commitDefine.1.hpu = s.hpu ∧ s.commitDefine.1.csq = s.csq ∧ s.commitDefine.1.lbq = s.lbq ∧
    s.commitDefine.1.ring = s.ring ∧ s.commitDefine.1.hdu = s.hdu ∧ s.commitDefine.1.fmu = s.fmu ∧
    s.commitDefine.1.msu = s.msu ∧ s.commitDefine.1.eng = s.eng ∧ s.commitDefine.1.nvs = s.nvs ∧
    s.commitDefine.1.strap = s.strap ∧ s.commitDefine.1.pending = s.pending := by
  simp only [State.commitDefine]
  simp

@[simp] theorem State.commitDelete_keeps (s : State) :
    s.commitDelete.1.hpu = s.hpu ∧ s.commitDelete.1.csq = s.csq ∧ s.commitDelete.1.lbq = s.lbq ∧
    s.commitDelete.1.ring = s.ring ∧ s.commitDelete.1.hdu = s.hdu ∧ s.commitDelete.1.fmu = s.fmu ∧
    s.commitDelete.1.msu = s.msu ∧ s.commitDelete.1.eng = s.eng ∧ s.commitDelete.1.nvs = s.nvs ∧
    s.commitDelete.1.ram = s.ram ∧ s.commitDelete.1.strap = s.strap ∧ s.commitDelete.1.pending = s.pending := by
  simp only [State.commitDelete]
  (repeat' split) <;> simp

@[simp] theorem State.commitOpen_keeps (s : State) :
    s.commitOpen.1.hpu = s.hpu ∧ s.commitOpen.1.csq = s.csq ∧ s.commitOpen.1.gst = s.gst ∧
    s.commitOpen.1.ring = s.ring ∧ s.commitOpen.1.hdu = s.hdu ∧ s.commitOpen.1.fmu = s.fmu ∧
    s.commitOpen.1.msu = s.msu ∧ s.commitOpen.1.eng = s.eng ∧ s.commitOpen.1.nvs = s.nvs ∧
    s.commitOpen.1.ram = s.ram ∧ s.commitOpen.1.strap = s.strap ∧ s.commitOpen.1.pending = s.pending := by
  simp only [State.commitOpen]
  (repeat' split) <;> simp

@[simp] theorem State.commitClose_keeps (s : State) :
    s.commitClose.1.hpu = s.hpu ∧ s.commitClose.1.csq = s.csq ∧ s.commitClose.1.gst = s.gst ∧
    s.commitClose.1.hdu = s.hdu ∧ s.commitClose.1.fmu = s.fmu ∧ s.commitClose.1.msu = s.msu ∧
    s.commitClose.1.eng = s.eng ∧ s.commitClose.1.nvs = s.nvs ∧ s.commitClose.1.ram = s.ram ∧
    s.commitClose.1.strap = s.strap ∧ s.commitClose.1.pending = s.pending := by
  simp only [State.commitClose]
  (repeat' split) <;> simp

@[simp] theorem State.commitDiscard_keeps (s : State) :
    s.commitDiscard.1.hpu = s.hpu ∧ s.commitDiscard.1.csq = s.csq ∧ s.commitDiscard.1.ring = s.ring ∧
    s.commitDiscard.1.hdu = s.hdu ∧ s.commitDiscard.1.msu = s.msu ∧ s.commitDiscard.1.nvs = s.nvs ∧
    s.commitDiscard.1.ram = s.ram ∧ s.commitDiscard.1.strap = s.strap ∧ s.commitDiscard.1.pending = s.pending ∧
    s.commitDiscard.1.eng.cond = s.eng.cond ∧ s.commitDiscard.1.eng.headOpen = s.eng.headOpen ∧
    s.commitDiscard.1.eng.causes = s.eng.causes ∧ s.commitDiscard.1.eng.primary = s.eng.primary ∧
    s.commitDiscard.1.eng.haltPos = s.eng.haltPos ∧ s.commitDiscard.1.eng.applied = s.eng.applied ∧
    s.commitDiscard.1.eng.recLabel = s.eng.recLabel ∧ s.commitDiscard.1.eng.settle = s.eng.settle ∧
    s.commitDiscard.1.eng.cursor = s.eng.cursor ∧ s.commitDiscard.1.fmu.pos = s.fmu.pos := by
  simp only [State.commitDiscard]
  (repeat' split) <;> simp

@[simp] theorem State.commitCancel_keeps (s : State) :
    s.commitCancel.1.hpu = s.hpu ∧ s.commitCancel.1.csq = s.csq ∧ s.commitCancel.1.hdu = s.hdu ∧
    s.commitCancel.1.msu = s.msu ∧ s.commitCancel.1.nvs = s.nvs ∧ s.commitCancel.1.ram = s.ram ∧
    s.commitCancel.1.strap = s.strap ∧ s.commitCancel.1.pending = s.pending ∧
    s.commitCancel.1.eng.cond = s.eng.cond ∧ s.commitCancel.1.eng.headOpen = s.eng.headOpen ∧
    s.commitCancel.1.eng.causes = s.eng.causes ∧ s.commitCancel.1.eng.primary = s.eng.primary ∧
    s.commitCancel.1.eng.haltPos = s.eng.haltPos ∧ s.commitCancel.1.eng.applied = s.eng.applied ∧
    s.commitCancel.1.eng.recLabel = s.eng.recLabel ∧ s.commitCancel.1.eng.settle = s.eng.settle ∧
    s.commitCancel.1.eng.cursor = s.eng.cursor ∧ s.commitCancel.1.fmu.pos = s.fmu.pos := by
  simp only [State.commitCancel]
  (repeat' split) <;> simp

@[simp] theorem State.cancelNow_keeps (s : State) :
    s.cancelNow.hdu = s.hdu ∧ s.cancelNow.nvs = s.nvs ∧ s.cancelNow.ram = s.ram ∧ s.cancelNow.strap = s.strap ∧
    s.cancelNow.pending = s.pending ∧ s.cancelNow.eng.headOpen = s.eng.headOpen ∧
    s.cancelNow.fmu.pos = s.fmu.pos ∧ s.cancelNow.hpu.service = s.hpu.service := by
  simp only [State.cancelNow, State.completeAfter]
  split <;> simp

@[simp] theorem State.useProfile_keeps (s : State) (p : Profile) :
    (s.useProfile p).hpu = s.hpu ∧ (s.useProfile p).csq = s.csq ∧ (s.useProfile p).gst = s.gst ∧
    (s.useProfile p).lbq = s.lbq ∧ (s.useProfile p).ring = s.ring ∧ (s.useProfile p).hdu = s.hdu ∧
    (s.useProfile p).fmu = s.fmu ∧ (s.useProfile p).eng = s.eng ∧ (s.useProfile p).ram = s.ram ∧
    (s.useProfile p).strap = s.strap ∧ (s.useProfile p).pending = s.pending ∧
    (s.useProfile p).nvs.mech = s.nvs.mech ∧ (s.useProfile p).nvs.store = s.nvs.store := by
  simp only [State.useProfile]
  simp

@[simp] theorem State.useMechanism_keeps (s : State) (m : Mechanism) :
    (s.useMechanism m).hpu = s.hpu ∧ (s.useMechanism m).csq = s.csq ∧ (s.useMechanism m).gst = s.gst ∧
    (s.useMechanism m).lbq = s.lbq ∧ (s.useMechanism m).ring = s.ring ∧ (s.useMechanism m).hdu = s.hdu ∧
    (s.useMechanism m).fmu = s.fmu ∧ (s.useMechanism m).eng = s.eng ∧ (s.useMechanism m).ram = s.ram ∧
    (s.useMechanism m).strap = s.strap ∧ (s.useMechanism m).pending = s.pending ∧
    (s.useMechanism m).nvs.profile = s.nvs.profile ∧ (s.useMechanism m).nvs.store = s.nvs.store := by
  simp only [State.useMechanism]
  (repeat' split) <;> simp

@[simp] theorem State.beginWrite_keeps (s : State) (record : Nat) (value : List Byte) :
    (s.beginWrite record value).hpu = s.hpu ∧ (s.beginWrite record value).gst = s.gst ∧
    (s.beginWrite record value).lbq = s.lbq ∧ (s.beginWrite record value).ring = s.ring ∧
    (s.beginWrite record value).hdu = s.hdu ∧ (s.beginWrite record value).fmu = s.fmu ∧
    (s.beginWrite record value).msu = s.msu ∧ (s.beginWrite record value).eng = s.eng ∧
    (s.beginWrite record value).nvs = s.nvs ∧ (s.beginWrite record value).ram = s.ram ∧
    (s.beginWrite record value).strap = s.strap ∧ (s.beginWrite record value).pending = s.pending := by
  simp only [State.beginWrite]
  simp

@[simp] theorem State.sampleStrap_keeps (s : State) (strap : Bool) :
    (s.sampleStrap strap).hpu = s.hpu ∧ (s.sampleStrap strap).csq = s.csq ∧ (s.sampleStrap strap).gst = s.gst ∧
    (s.sampleStrap strap).lbq = s.lbq ∧ (s.sampleStrap strap).ring = s.ring ∧ (s.sampleStrap strap).hdu = s.hdu ∧
    (s.sampleStrap strap).fmu = s.fmu ∧ (s.sampleStrap strap).msu = s.msu ∧ (s.sampleStrap strap).eng = s.eng ∧
    (s.sampleStrap strap).nvs = s.nvs ∧ (s.sampleStrap strap).ram = s.ram ∧
    (s.sampleStrap strap).pending = s.pending := by
  simp only [State.sampleStrap]
  simp

@[simp] theorem State.readStore_keeps (s : State) (decay : List Decay) :
    (s.readStore decay).hpu = s.hpu ∧ (s.readStore decay).csq = s.csq ∧ (s.readStore decay).gst = s.gst ∧
    (s.readStore decay).lbq = s.lbq ∧ (s.readStore decay).ring = s.ring ∧ (s.readStore decay).hdu = s.hdu ∧
    (s.readStore decay).fmu = s.fmu ∧ (s.readStore decay).msu = s.msu ∧ (s.readStore decay).eng = s.eng ∧
    (s.readStore decay).ram = s.ram ∧ (s.readStore decay).strap = s.strap ∧
    (s.readStore decay).pending = s.pending ∧ (s.readStore decay).nvs.profile = s.nvs.profile ∧
    (s.readStore decay).nvs.mech = s.nvs.mech := by
  simp only [State.readStore]
  simp

@[simp] theorem State.loadProfile_keeps (s : State) (record : Nat) :
    (s.loadProfile record).hpu = s.hpu ∧ (s.loadProfile record).csq = s.csq ∧ (s.loadProfile record).gst = s.gst ∧
    (s.loadProfile record).lbq = s.lbq ∧ (s.loadProfile record).ring = s.ring ∧ (s.loadProfile record).hdu = s.hdu ∧
    (s.loadProfile record).fmu = s.fmu ∧ (s.loadProfile record).eng = s.eng ∧ (s.loadProfile record).ram = s.ram ∧
    (s.loadProfile record).strap = s.strap ∧ (s.loadProfile record).pending = s.pending ∧
    (s.loadProfile record).nvs.mech = s.nvs.mech ∧ (s.loadProfile record).nvs.store = s.nvs.store := by
  simp only [State.loadProfile]
  (repeat' split) <;> simp

@[simp] theorem State.commitMechanism_keeps (s : State) :
    s.commitMechanism.hdu = s.hdu ∧ s.commitMechanism.ram = s.ram ∧ s.commitMechanism.strap = s.strap ∧
    s.commitMechanism.pending = s.pending ∧ s.commitMechanism.fmu.pos = s.fmu.pos ∧
    s.commitMechanism.hpu.service = s.hpu.service ∧ s.commitMechanism.eng.headOpen = s.eng.headOpen ∧
    s.commitMechanism.nvs.profile = s.nvs.profile ∧ s.commitMechanism.nvs.store = s.nvs.store := by
  simp only [State.commitMechanism]
  simp

@[simp] theorem State.attemptEnds_keeps (s : State) (differs : List Byte) :
    (s.attemptEnds differs).gst = s.gst ∧ (s.attemptEnds differs).lbq = s.lbq ∧
    (s.attemptEnds differs).ring = s.ring ∧ (s.attemptEnds differs).hdu = s.hdu ∧
    (s.attemptEnds differs).fmu = s.fmu ∧ (s.attemptEnds differs).msu = s.msu ∧
    (s.attemptEnds differs).eng = s.eng ∧ (s.attemptEnds differs).ram = s.ram ∧
    (s.attemptEnds differs).strap = s.strap ∧ (s.attemptEnds differs).pending = s.pending ∧
    (s.attemptEnds differs).hpu.service = s.hpu.service ∧ (s.attemptEnds differs).nvs.profile = s.nvs.profile ∧
    (s.attemptEnds differs).nvs.mech = s.nvs.mech := by
  simp only [State.attemptEnds]
  (repeat' split) <;> simp

@[simp] theorem State.takePayloadByte_keeps (s : State) (b : Byte) :
    (s.takePayloadByte b).gst = s.gst ∧ (s.takePayloadByte b).lbq = s.lbq ∧ (s.takePayloadByte b).ring = s.ring ∧
    (s.takePayloadByte b).hdu = s.hdu ∧ (s.takePayloadByte b).fmu = s.fmu ∧ (s.takePayloadByte b).msu = s.msu ∧
    (s.takePayloadByte b).eng = s.eng ∧ (s.takePayloadByte b).nvs = s.nvs ∧ (s.takePayloadByte b).ram = s.ram ∧
    (s.takePayloadByte b).strap = s.strap ∧ (s.takePayloadByte b).pending = s.pending ∧
    (s.takePayloadByte b).hpu.service = s.hpu.service := by
  simp only [State.takePayloadByte]
  (repeat' split) <;> simp

@[simp] theorem State.giveResultByte_keeps (s : State) :
    s.giveResultByte.gst = s.gst ∧ s.giveResultByte.lbq = s.lbq ∧ s.giveResultByte.ring = s.ring ∧
    s.giveResultByte.hdu = s.hdu ∧ s.giveResultByte.fmu = s.fmu ∧ s.giveResultByte.msu = s.msu ∧
    s.giveResultByte.eng = s.eng ∧ s.giveResultByte.nvs = s.nvs ∧ s.giveResultByte.ram = s.ram ∧
    s.giveResultByte.strap = s.strap ∧ s.giveResultByte.pending = s.pending ∧
    s.giveResultByte.hpu.service = s.hpu.service := by
  simp only [State.giveResultByte]
  (repeat' split) <;> simp

@[simp] theorem State.endEarly_keeps (s : State) (e : Ending) :
    (s.endEarly e).gst = s.gst ∧ (s.endEarly e).lbq = s.lbq ∧ (s.endEarly e).ring = s.ring ∧
    (s.endEarly e).hdu = s.hdu ∧ (s.endEarly e).fmu = s.fmu ∧ (s.endEarly e).msu = s.msu ∧
    (s.endEarly e).eng = s.eng ∧ (s.endEarly e).nvs = s.nvs ∧ (s.endEarly e).ram = s.ram ∧
    (s.endEarly e).strap = s.strap ∧ (s.endEarly e).pending = s.pending ∧
    (s.endEarly e).hpu.service = s.hpu.service := by
  simp only [State.endEarly]
  simp

@[simp] theorem State.handOver_keeps (s : State) (block : List Byte) :
    (s.handOver block).gst = s.gst ∧ (s.handOver block).lbq = s.lbq ∧ (s.handOver block).ring = s.ring ∧
    (s.handOver block).hdu = s.hdu ∧ (s.handOver block).fmu = s.fmu ∧ (s.handOver block).msu = s.msu ∧
    (s.handOver block).eng = s.eng ∧ (s.handOver block).nvs = s.nvs ∧ (s.handOver block).ram = s.ram ∧
    (s.handOver block).strap = s.strap ∧ (s.handOver block).pending = s.pending ∧
    (s.handOver block).hpu.service = s.hpu.service := by
  simp only [State.handOver]
  (repeat' split) <;> simp

@[simp] theorem State.takeCommandByte_keeps (s : State) (b : Byte) :
    (s.takeCommandByte b).gst = s.gst ∧ (s.takeCommandByte b).lbq = s.lbq ∧ (s.takeCommandByte b).ring = s.ring ∧
    (s.takeCommandByte b).hdu = s.hdu ∧ (s.takeCommandByte b).fmu = s.fmu ∧ (s.takeCommandByte b).msu = s.msu ∧
    (s.takeCommandByte b).eng = s.eng ∧ (s.takeCommandByte b).nvs = s.nvs ∧ (s.takeCommandByte b).ram = s.ram ∧
    (s.takeCommandByte b).strap = s.strap ∧ (s.takeCommandByte b).pending = s.pending ∧
    (s.takeCommandByte b).hpu.service = s.hpu.service := by
  simp only [State.takeCommandByte]
  (repeat' split) <;> simp

@[simp] theorem State.giveCompletionByte_keeps (s : State) :
    s.giveCompletionByte.csq = s.csq ∧ s.giveCompletionByte.gst = s.gst ∧ s.giveCompletionByte.lbq = s.lbq ∧
    s.giveCompletionByte.ring = s.ring ∧ s.giveCompletionByte.hdu = s.hdu ∧ s.giveCompletionByte.fmu = s.fmu ∧
    s.giveCompletionByte.msu = s.msu ∧ s.giveCompletionByte.eng = s.eng ∧ s.giveCompletionByte.nvs = s.nvs ∧
    s.giveCompletionByte.ram = s.ram ∧ s.giveCompletionByte.strap = s.strap ∧
    s.giveCompletionByte.pending = s.pending ∧ s.giveCompletionByte.hpu.service = s.hpu.service := by
  simp only [State.giveCompletionByte]
  simp

@[simp] theorem State.refuseWrite_keeps (s : State) :
    s.refuseWrite.csq = s.csq ∧ s.refuseWrite.gst = s.gst ∧ s.refuseWrite.lbq = s.lbq ∧
    s.refuseWrite.ring = s.ring ∧ s.refuseWrite.hdu = s.hdu ∧ s.refuseWrite.fmu = s.fmu ∧
    s.refuseWrite.msu = s.msu ∧ s.refuseWrite.nvs = s.nvs ∧ s.refuseWrite.ram = s.ram ∧
    s.refuseWrite.strap = s.strap ∧ s.refuseWrite.pending = s.pending ∧ s.refuseWrite.hpu.service = s.hpu.service ∧
    s.refuseWrite.eng.cond = s.eng.cond ∧ s.refuseWrite.eng.headOpen = s.eng.headOpen ∧
    s.refuseWrite.eng.causes = s.eng.causes ∧ s.refuseWrite.eng.primary = s.eng.primary ∧
    s.refuseWrite.eng.haltPos = s.eng.haltPos ∧ s.refuseWrite.eng.interrupted = s.eng.interrupted ∧
    s.refuseWrite.eng.applied = s.eng.applied ∧ s.refuseWrite.eng.recLabel = s.eng.recLabel ∧
    s.refuseWrite.eng.settle = s.eng.settle ∧ s.refuseWrite.eng.cursor = s.eng.cursor := by
  simp only [State.refuseWrite]
  simp

@[simp] theorem State.refuseRead_keeps (s : State) :
    s.refuseRead.csq = s.csq ∧ s.refuseRead.gst = s.gst ∧ s.refuseRead.lbq = s.lbq ∧ s.refuseRead.ring = s.ring ∧
    s.refuseRead.hdu = s.hdu ∧ s.refuseRead.fmu = s.fmu ∧ s.refuseRead.msu = s.msu ∧ s.refuseRead.nvs = s.nvs ∧
    s.refuseRead.ram = s.ram ∧ s.refuseRead.strap = s.strap ∧ s.refuseRead.pending = s.pending ∧
    s.refuseRead.hpu.service = s.hpu.service ∧ s.refuseRead.eng.cond = s.eng.cond ∧
    s.refuseRead.eng.headOpen = s.eng.headOpen ∧ s.refuseRead.eng.causes = s.eng.causes ∧
    s.refuseRead.eng.primary = s.eng.primary ∧ s.refuseRead.eng.haltPos = s.eng.haltPos ∧
    s.refuseRead.eng.interrupted = s.eng.interrupted ∧ s.refuseRead.eng.applied = s.eng.applied ∧
    s.refuseRead.eng.recLabel = s.eng.recLabel ∧ s.refuseRead.eng.settle = s.eng.settle ∧
    s.refuseRead.eng.cursor = s.eng.cursor := by
  simp only [State.refuseRead]
  simp

@[simp] theorem State.dataWrite_keeps (s : State) (b : Byte) :
    (s.dataWrite b).gst = s.gst ∧ (s.dataWrite b).lbq = s.lbq ∧ (s.dataWrite b).ring = s.ring ∧
    (s.dataWrite b).hdu = s.hdu ∧ (s.dataWrite b).fmu = s.fmu ∧ (s.dataWrite b).msu = s.msu ∧
    (s.dataWrite b).nvs = s.nvs ∧ (s.dataWrite b).ram = s.ram ∧ (s.dataWrite b).strap = s.strap ∧
    (s.dataWrite b).pending = s.pending ∧ (s.dataWrite b).hpu.service = s.hpu.service ∧
    (s.dataWrite b).eng.cond = s.eng.cond ∧ (s.dataWrite b).eng.headOpen = s.eng.headOpen ∧
    (s.dataWrite b).eng.causes = s.eng.causes ∧ (s.dataWrite b).eng.primary = s.eng.primary ∧
    (s.dataWrite b).eng.haltPos = s.eng.haltPos ∧ (s.dataWrite b).eng.interrupted = s.eng.interrupted ∧
    (s.dataWrite b).eng.applied = s.eng.applied ∧ (s.dataWrite b).eng.recLabel = s.eng.recLabel ∧
    (s.dataWrite b).eng.settle = s.eng.settle ∧ (s.dataWrite b).eng.cursor = s.eng.cursor := by
  simp only [State.dataWrite]
  (repeat' split) <;> simp

@[simp] theorem State.dataRead_keeps (s : State) :
    s.dataRead.gst = s.gst ∧ s.dataRead.lbq = s.lbq ∧ s.dataRead.ring = s.ring ∧ s.dataRead.hdu = s.hdu ∧
    s.dataRead.fmu = s.fmu ∧ s.dataRead.msu = s.msu ∧ s.dataRead.nvs = s.nvs ∧ s.dataRead.ram = s.ram ∧
    s.dataRead.strap = s.strap ∧ s.dataRead.pending = s.pending ∧ s.dataRead.hpu.service = s.hpu.service ∧
    s.dataRead.eng.cond = s.eng.cond ∧ s.dataRead.eng.headOpen = s.eng.headOpen ∧
    s.dataRead.eng.causes = s.eng.causes ∧ s.dataRead.eng.primary = s.eng.primary ∧
    s.dataRead.eng.haltPos = s.eng.haltPos ∧ s.dataRead.eng.interrupted = s.eng.interrupted ∧
    s.dataRead.eng.applied = s.eng.applied ∧ s.dataRead.eng.recLabel = s.eng.recLabel ∧
    s.dataRead.eng.settle = s.eng.settle ∧ s.dataRead.eng.cursor = s.eng.cursor := by
  simp only [State.dataRead]
  (repeat' split) <;> simp

@[simp] theorem State.dack_keeps (s : State) (a : Access) :
    (s.dack a).gst = s.gst ∧ (s.dack a).lbq = s.lbq ∧ (s.dack a).ring = s.ring ∧ (s.dack a).hdu = s.hdu ∧
    (s.dack a).fmu = s.fmu ∧ (s.dack a).msu = s.msu ∧ (s.dack a).nvs = s.nvs ∧ (s.dack a).ram = s.ram ∧
    (s.dack a).strap = s.strap ∧ (s.dack a).pending = s.pending ∧ (s.dack a).hpu.service = s.hpu.service ∧
    (s.dack a).eng.cond = s.eng.cond ∧ (s.dack a).eng.headOpen = s.eng.headOpen ∧
    (s.dack a).eng.causes = s.eng.causes ∧ (s.dack a).eng.primary = s.eng.primary ∧
    (s.dack a).eng.haltPos = s.eng.haltPos ∧ (s.dack a).eng.interrupted = s.eng.interrupted ∧
    (s.dack a).eng.applied = s.eng.applied ∧ (s.dack a).eng.recLabel = s.eng.recLabel ∧
    (s.dack a).eng.settle = s.eng.settle ∧ (s.dack a).eng.cursor = s.eng.cursor := by
  simp only [State.dack]
  (repeat' split) <;> simp

@[simp] theorem State.breakExecute_keeps (s : State) :
    s.breakExecute.gst = s.gst ∧ s.breakExecute.hdu = s.hdu ∧ s.breakExecute.nvs = s.nvs ∧
    s.breakExecute.ram = s.ram ∧ s.breakExecute.strap = s.strap ∧ s.breakExecute.pending = s.pending ∧
    s.breakExecute.fmu.pos = s.fmu.pos ∧ s.breakExecute.hpu.service = s.hpu.service ∧
    s.breakExecute.eng.headOpen = s.eng.headOpen := by
  simp only [State.breakExecute]
  (repeat' split) <;> simp

@[simp] theorem State.breakNow_keeps (s : State) :
    s.breakNow.hdu = s.hdu ∧ s.breakNow.nvs = s.nvs ∧ s.breakNow.ram = s.ram ∧ s.breakNow.strap = s.strap ∧
    s.breakNow.pending = s.pending ∧ s.breakNow.fmu.pos = s.fmu.pos ∧ s.breakNow.hpu.service = s.hpu.service ∧
    s.breakNow.eng.headOpen = s.eng.headOpen := by
  simp only [State.breakNow]
  (repeat' split) <;> simp

@[simp] theorem State.readEvent_keeps (s : State) :
    s.readEvent.csq = s.csq ∧ s.readEvent.gst = s.gst ∧ s.readEvent.lbq = s.lbq ∧ s.readEvent.ring = s.ring ∧
    s.readEvent.hdu = s.hdu ∧ s.readEvent.fmu = s.fmu ∧ s.readEvent.msu = s.msu ∧ s.readEvent.nvs = s.nvs ∧
    s.readEvent.ram = s.ram ∧ s.readEvent.strap = s.strap ∧ s.readEvent.pending = s.pending ∧
    s.readEvent.hpu.service = s.hpu.service ∧ s.readEvent.eng.cond = s.eng.cond ∧
    s.readEvent.eng.headOpen = s.eng.headOpen ∧ s.readEvent.eng.causes = s.eng.causes ∧
    s.readEvent.eng.primary = s.eng.primary ∧ s.readEvent.eng.haltPos = s.eng.haltPos ∧
    s.readEvent.eng.interrupted = s.eng.interrupted ∧ s.readEvent.eng.settle = s.eng.settle := by
  simp only [State.readEvent]
  (repeat' split) <;> simp

@[simp] theorem State.selectNow_keeps (s : State) :
    s.selectNow.csq = s.csq ∧ s.selectNow.gst = s.gst ∧ s.selectNow.lbq = s.lbq ∧ s.selectNow.ring = s.ring ∧
    s.selectNow.hdu = s.hdu ∧ s.selectNow.fmu = s.fmu ∧ s.selectNow.msu = s.msu ∧ s.selectNow.nvs = s.nvs ∧
    s.selectNow.ram = s.ram ∧ s.selectNow.strap = s.strap ∧ s.selectNow.pending = s.pending ∧
    s.selectNow.hpu.service = s.hpu.service ∧ s.selectNow.eng.cond = s.eng.cond ∧
    s.selectNow.eng.headOpen = s.eng.headOpen ∧ s.selectNow.eng.causes = s.eng.causes ∧
    s.selectNow.eng.primary = s.eng.primary ∧ s.selectNow.eng.haltPos = s.eng.haltPos ∧
    s.selectNow.eng.interrupted = s.eng.interrupted ∧ s.selectNow.eng.applied = s.eng.applied ∧
    s.selectNow.eng.recLabel = s.eng.recLabel ∧ s.selectNow.eng.settle = s.eng.settle ∧
    s.selectNow.eng.cursor = s.eng.cursor := by
  simp only [State.selectNow]
  (repeat' split) <;> simp

@[simp] theorem State.writeMask_keeps (s : State) (value : Byte) :
    (s.writeMask value).csq = s.csq ∧ (s.writeMask value).gst = s.gst ∧ (s.writeMask value).lbq = s.lbq ∧
    (s.writeMask value).ring = s.ring ∧ (s.writeMask value).hdu = s.hdu ∧ (s.writeMask value).fmu = s.fmu ∧
    (s.writeMask value).msu = s.msu ∧ (s.writeMask value).eng = s.eng ∧ (s.writeMask value).nvs = s.nvs ∧
    (s.writeMask value).ram = s.ram ∧ (s.writeMask value).strap = s.strap ∧
    (s.writeMask value).pending = s.pending ∧ (s.writeMask value).hpu.service = s.hpu.service ∧
    (s.writeMask value).hpu.phase = s.hpu.phase := by
  simp only [State.writeMask]
  simp

@[simp] theorem State.timeoutNow_keeps (s : State) :
    s.timeoutNow.gst = s.gst ∧ s.timeoutNow.lbq = s.lbq ∧ s.timeoutNow.ring = s.ring ∧ s.timeoutNow.hdu = s.hdu ∧
    s.timeoutNow.fmu = s.fmu ∧ s.timeoutNow.msu = s.msu ∧ s.timeoutNow.eng = s.eng ∧ s.timeoutNow.nvs = s.nvs ∧
    s.timeoutNow.ram = s.ram ∧ s.timeoutNow.strap = s.strap ∧ s.timeoutNow.pending = s.pending ∧
    s.timeoutNow.hpu.service = s.hpu.service := by
  simp only [State.timeoutNow]
  (repeat' split) <;> simp

@[simp] theorem State.waitExpires_keeps (s : State) :
    s.waitExpires.gst = s.gst ∧ s.waitExpires.lbq = s.lbq ∧ s.waitExpires.ring = s.ring ∧
    s.waitExpires.hdu = s.hdu ∧ s.waitExpires.fmu = s.fmu ∧ s.waitExpires.msu = s.msu ∧ s.waitExpires.eng = s.eng ∧
    s.waitExpires.nvs = s.nvs ∧ s.waitExpires.ram = s.ram ∧ s.waitExpires.strap = s.strap ∧
    s.waitExpires.pending = s.pending ∧ s.waitExpires.hpu.service = s.hpu.service := by
  simp only [State.waitExpires]
  (repeat' split) <;> simp

@[simp] theorem State.moveEnds_keeps (s : State) :
    s.moveEnds.hdu = s.hdu ∧ s.moveEnds.nvs = s.nvs ∧ s.moveEnds.strap = s.strap ∧ s.moveEnds.pending = s.pending ∧
    s.moveEnds.fmu.pos = s.fmu.pos ∧ s.moveEnds.hpu.service = s.hpu.service ∧
    s.moveEnds.eng.headOpen = s.eng.headOpen := by
  simp only [State.moveEnds]
  (repeat' split) <;> simp

@[simp] theorem State.bytePasses_keeps (s : State) (offset : Nat) :
    (s.bytePasses offset).gst = s.gst ∧ (s.bytePasses offset).lbq = s.lbq ∧ (s.bytePasses offset).ring = s.ring ∧
    (s.bytePasses offset).hdu = s.hdu ∧ (s.bytePasses offset).fmu = s.fmu ∧ (s.bytePasses offset).msu = s.msu ∧
    (s.bytePasses offset).eng = s.eng ∧ (s.bytePasses offset).nvs = s.nvs ∧ (s.bytePasses offset).ram = s.ram ∧
    (s.bytePasses offset).strap = s.strap ∧ (s.bytePasses offset).pending = s.pending ∧
    (s.bytePasses offset).hpu.service = s.hpu.service := by
  simp only [State.bytePasses]
  (repeat' split) <;> simp

@[simp] theorem State.byteFails_keeps (s : State) (offset : Nat) (left : Byte) :
    (s.byteFails offset left).gst = s.gst ∧ (s.byteFails offset left).lbq = s.lbq ∧
    (s.byteFails offset left).ring = s.ring ∧ (s.byteFails offset left).hdu = s.hdu ∧
    (s.byteFails offset left).fmu = s.fmu ∧ (s.byteFails offset left).msu = s.msu ∧
    (s.byteFails offset left).eng = s.eng ∧ (s.byteFails offset left).nvs = s.nvs ∧
    (s.byteFails offset left).strap = s.strap ∧ (s.byteFails offset left).pending = s.pending ∧
    (s.byteFails offset left).hpu.service = s.hpu.service := by
  simp only [State.byteFails]
  simp

@[simp] theorem State.testByte_keeps (s : State) (offset : Nat) (answer : ByteTest) :
    (s.testByte offset answer).gst = s.gst ∧ (s.testByte offset answer).lbq = s.lbq ∧
    (s.testByte offset answer).ring = s.ring ∧ (s.testByte offset answer).hdu = s.hdu ∧
    (s.testByte offset answer).fmu = s.fmu ∧ (s.testByte offset answer).msu = s.msu ∧
    (s.testByte offset answer).eng = s.eng ∧ (s.testByte offset answer).nvs = s.nvs ∧
    (s.testByte offset answer).strap = s.strap ∧ (s.testByte offset answer).pending = s.pending ∧
    (s.testByte offset answer).hpu.service = s.hpu.service := by
  simp only [State.testByte]
  (repeat' split) <;> simp

@[simp] theorem State.tearWrite_keeps (s : State) (left : List Byte) :
    (s.tearWrite left).hpu = s.hpu ∧ (s.tearWrite left).csq = s.csq ∧ (s.tearWrite left).gst = s.gst ∧
    (s.tearWrite left).lbq = s.lbq ∧ (s.tearWrite left).ring = s.ring ∧ (s.tearWrite left).hdu = s.hdu ∧
    (s.tearWrite left).fmu = s.fmu ∧ (s.tearWrite left).msu = s.msu ∧ (s.tearWrite left).eng = s.eng ∧
    (s.tearWrite left).ram = s.ram ∧ (s.tearWrite left).strap = s.strap ∧ (s.tearWrite left).pending = s.pending ∧
    (s.tearWrite left).nvs.profile = s.nvs.profile ∧ (s.tearWrite left).nvs.mech = s.nvs.mech := by
  simp only [State.tearWrite]
  (repeat' split) <;> simp

@[simp] theorem State.finishMove_keeps (s : State) :
    s.finishMove.hpu = s.hpu ∧ s.finishMove.csq = s.csq ∧ s.finishMove.lbq = s.lbq ∧ s.finishMove.ring = s.ring ∧
    s.finishMove.hdu = s.hdu ∧ s.finishMove.fmu = s.fmu ∧ s.finishMove.msu = s.msu ∧ s.finishMove.eng = s.eng ∧
    s.finishMove.nvs = s.nvs ∧ s.finishMove.strap = s.strap ∧ s.finishMove.pending = s.pending := by
  simp only [State.finishMove]
  (repeat' split) <;> simp

@[simp] theorem State.dealFirst_keeps (s : State) (torn : List Byte) :
    (s.dealFirst torn).hpu = s.hpu ∧ (s.dealFirst torn).csq = s.csq ∧ (s.dealFirst torn).lbq = s.lbq ∧
    (s.dealFirst torn).hdu = s.hdu ∧ (s.dealFirst torn).fmu = s.fmu ∧ (s.dealFirst torn).msu = s.msu ∧
    (s.dealFirst torn).eng = s.eng ∧ (s.dealFirst torn).nvs = (s.tearWrite torn).nvs ∧
    (s.dealFirst torn).strap = s.strap ∧ (s.dealFirst torn).pending = s.pending := by
  simp [State.dealFirst]

@[simp] theorem State.readInputs_keeps (s : State) (i : Inputs) :
    (s.readInputs i).hpu = s.hpu ∧ (s.readInputs i).csq = s.csq ∧ (s.readInputs i).gst = s.gst ∧
    (s.readInputs i).lbq = s.lbq ∧ (s.readInputs i).ring = s.ring ∧ (s.readInputs i).fmu = s.fmu ∧
    (s.readInputs i).nvs = s.nvs ∧ (s.readInputs i).ram = s.ram ∧ (s.readInputs i).strap = s.strap ∧
    (s.readInputs i).pending = s.pending ∧ (s.readInputs i).eng.cond = s.eng.cond ∧
    (s.readInputs i).eng.events = s.eng.events ∧ (s.readInputs i).eng.overflow = s.eng.overflow ∧
    (s.readInputs i).eng.cursor = s.eng.cursor := by
  simp only [State.readInputs]
  simp

@[simp] theorem State.reportReset_keeps (s : State) (kind : Byte) (own : List Event) :
    (s.reportReset kind own).hpu = s.hpu ∧ (s.reportReset kind own).csq = s.csq ∧
    (s.reportReset kind own).gst = s.gst ∧ (s.reportReset kind own).lbq = s.lbq ∧
    (s.reportReset kind own).ring = s.ring ∧ (s.reportReset kind own).hdu = s.hdu ∧
    (s.reportReset kind own).fmu = s.fmu ∧ (s.reportReset kind own).msu = s.msu ∧
    (s.reportReset kind own).nvs = s.nvs ∧ (s.reportReset kind own).ram = s.ram ∧
    (s.reportReset kind own).strap = s.strap ∧ (s.reportReset kind own).pending = s.pending ∧
    (s.reportReset kind own).eng.cond = s.eng.cond ∧ (s.reportReset kind own).eng.headOpen = s.eng.headOpen ∧
    (s.reportReset kind own).eng.causes = s.eng.causes ∧ (s.reportReset kind own).eng.primary = s.eng.primary ∧
    (s.reportReset kind own).eng.haltPos = s.eng.haltPos ∧
    (s.reportReset kind own).eng.interrupted = s.eng.interrupted ∧
    (s.reportReset kind own).eng.applied = s.eng.applied ∧ (s.reportReset kind own).eng.recLabel = s.eng.recLabel ∧
    (s.reportReset kind own).eng.settle = s.eng.settle ∧ (s.reportReset kind own).eng.cursor = s.eng.cursor := by
  have h : ∀ (l : List Event) (s : State), (s.postAll l).hpu = s.hpu ∧ (s.postAll l).csq = s.csq ∧ (s.postAll l).gst = s.gst ∧ (s.postAll l).lbq = s.lbq ∧ (s.postAll l).ring = s.ring ∧ (s.postAll l).hdu = s.hdu ∧ (s.postAll l).fmu = s.fmu ∧ (s.postAll l).msu = s.msu ∧ (s.postAll l).nvs = s.nvs ∧ (s.postAll l).ram = s.ram ∧ (s.postAll l).strap = s.strap ∧ (s.postAll l).pending = s.pending ∧ (s.postAll l).eng.cond = s.eng.cond ∧ (s.postAll l).eng.headOpen = s.eng.headOpen ∧ (s.postAll l).eng.causes = s.eng.causes ∧ (s.postAll l).eng.primary = s.eng.primary ∧ (s.postAll l).eng.haltPos = s.eng.haltPos ∧ (s.postAll l).eng.interrupted = s.eng.interrupted ∧ (s.postAll l).eng.applied = s.eng.applied ∧ (s.postAll l).eng.recLabel = s.eng.recLabel ∧ (s.postAll l).eng.settle = s.eng.settle ∧ (s.postAll l).eng.cursor = s.eng.cursor := by
    intro l
    induction l with
    | nil => intro s; simp [State.postAll]
    | cons a l ih => intro s; simpa [State.postAll] using ih (s.post a)
  simp [State.reportReset, h]

@[simp] theorem State.clearBlocks_keeps (s : State) (sense : Sense) :
    (s.clearBlocks sense).gst = s.gst ∧ (s.clearBlocks sense).ring = s.ring ∧ (s.clearBlocks sense).nvs = s.nvs ∧
    (s.clearBlocks sense).ram = s.ram ∧ (s.clearBlocks sense).strap = s.strap ∧
    (s.clearBlocks sense).pending = s.pending ∧ (s.clearBlocks sense).eng.cond = s.eng.cond := by
  simp only [State.clearBlocks]
  simp

@[simp] theorem State.portReset_keeps (s : State) (i : Inputs) :
    (s.portReset i).strap = s.strap ∧ (s.portReset i).pending = s.pending ∧
    (s.portReset i).nvs.profile = s.nvs.profile ∧ (s.portReset i).nvs.mech = s.nvs.mech := by
  simp only [State.portReset]
  simp

@[simp] theorem State.powerUp_keeps (s : State) (kind : Nat) (p : PowerUp) :
    (s.powerUp kind p).pending = s.pending := by
  simp only [State.powerUp]
  simp

@[simp] theorem State.outOfService_keeps (s : State) (service : Service) :
    (s.outOfService service).lbq = s.lbq ∧ (s.outOfService service).hdu = s.hdu ∧
    (s.outOfService service).eng = s.eng ∧ (s.outOfService service).strap = s.strap ∧
    (s.outOfService service).pending = s.pending ∧ (s.outOfService service).fmu.pos = s.fmu.pos ∧
    (s.outOfService service).nvs = s.nvs := by
  simp only [State.outOfService]
  simp

@[simp] theorem State.powerUpNow_keeps (s : State) (kind : Nat) (p : PowerUp) :
    (s.powerUpNow kind p).pending = s.pending := by
  simp only [State.powerUpNow]
  split <;> simp

end Sys2Proof.Machine
end

