-- ==== Sys2Proof/Laws/Conclude.lean ====
section
/-! SUPPORT. What may follow from a change of state in its own step (`State.conclude`), said once: with no command waiting
and no compaction in hand, the port, the sequencer and everything that `OnlyFollows` names are as they were. -/

namespace Sys2Proof.Machine

theorem Eng.OnlyCond.refl (a : Eng) : a.OnlyCond a := ⟨rfl, .inl rfl⟩

theorem Eng.OnlyCond.trans {a b c : Eng} (h : a.OnlyCond b) (g : b.OnlyCond c) : a.OnlyCond c := by
  obtain ⟨h1, h2⟩ := h
  obtain ⟨g1, g2⟩ := g
  refine ⟨by rw [g1, h1], ?_⟩
  rcases h2 with h2 | h2 <;> rcases g2 with g2 | g2
  · exact .inl (g2.trans h2)
  · exact .inr (h2 ▸ g2)
  · exact .inr ⟨h2.1, g2 ▸ h2.2⟩
  · exact .inr ⟨h2.1, g2.2⟩

/-- A new condition among the three, from one of the three. -/
theorem Eng.OnlyCond.of_set {a b : Eng} (c : Condition) (h : b = { a with cond := c })
    (ha : a.cond ∈ [Condition.idle, .running, .paused]) (hc : c ∈ [Condition.idle, .running, .paused]) :
    a.OnlyCond b := by
  subst h
  exact ⟨rfl, .inr ⟨ha, hc⟩⟩

theorem State.endRun_cond {s : State} (h : s.eng.cond = .running) : s.eng.OnlyCond s.endRun.eng :=
  .of_set .idle (by simp [State.endRun]) (by simp [h]) (by simp)

theorem State.actOnRest_cond {s : State} (h : s.eng.cond = .running) : s.eng.OnlyCond s.actOnRest.eng := by
  simp only [State.actOnRest]
  (repeat' split) <;>
    first
    | exact Eng.OnlyCond.refl _
    | exact State.endRun_cond h
    | simpa using Eng.OnlyCond.refl _
    | exact .of_set .paused (by simp) (by simp [h]) (by simp)

theorem State.weighRest_cond (s : State) : s.eng.OnlyCond s.weighRest.eng := by
  simp only [State.weighRest]
  split
  · rename_i h
    have r : s.restReason.eng.cond = .running := by
      simp only [State.inRun, Bool.and_eq_true, beq_iff_eq] at h
      simpa using h.1.1
    simpa using State.actOnRest_cond r
  · exact Eng.OnlyCond.refl _

theorem State.reviewRun_cond (s : State) : s.eng.OnlyCond s.reviewRun.eng :=
  s.weighRest_cond.trans s.weighRest.weighRest_cond

theorem State.leavePause_cond (s : State) : s.eng.OnlyCond s.leavePause.eng := by
  simp only [State.leavePause]
  split
  · rename_i h
    exact .of_set .idle rfl (by simp [h.1]) (by simp)
  · exact Eng.OnlyCond.refl _

theorem State.startRun_cond (s : State) : s.eng.OnlyCond s.startRun.eng := by
  simp only [State.startRun]
  split
  · rename_i h
    refine .of_set .running (by simp) ?_ (by simp)
    simp only [State.mayRun, Bool.and_eq_true, Bool.or_eq_true, beq_iff_eq] at h
    rcases h.1.1.1.1.1.1 with h | h <;> simp [h]
  · exact Eng.OnlyCond.refl _

/-- The run's part of what follows. -/
theorem State.follow_cond (s : State) :
    s.eng.OnlyCond s.reviewRun.leavePause.startRun.reviewRun.energise.idleSampling.eng := by
  have h := ((s.reviewRun_cond.trans s.reviewRun.leavePause_cond).trans (State.startRun_cond _)).trans
    (State.reviewRun_cond _)
  simpa using h

theorem State.endWait_idle {s : State} (h : s.csq.stage ≠ .waiting) : s.endWait = s := by
  simp [State.endWait, h]

theorem State.compactOn_idle {s : State} (h : s.csq.stage ≠ .compacting) : s.compactOn = s := by
  simp [State.compactOn, h]

theorem State.reviewRun_still {s : State} (h : s.inRun = false) : s.reviewRun = s := by
  have w : s.weighRest = s := by simp [State.weighRest, h]
  rw [State.reviewRun, w, w]

theorem State.startRun_still {s : State} (h : s.mayRun = false) : s.startRun = s := by
  simp [State.startRun, h]

/-- R125: a motor in a free move has a step to take. -/
theorem State.due_freeMove {s : State} (h : s.fmu.mode = .freeMove) : (s.forwardDue || s.backwardDue) = true := by
  simp [State.forwardDue, State.backwardDue, h]

theorem State.energise_rests (s : State) :
    (s.energise.fmu = s.fmu ∧ (s.fmu.mode = .freeMove → s.fmu.energised = true)) ∨
    (s.fmu.energised = false ∧
      s.energise.fmu = { s.fmu with energised := true, settling := true, idleTimer := some 2000 }) := by
  simp only [State.energise]
  split
  · rename_i h
    simp only [Bool.and_eq_true, Bool.not_eq_true'] at h
    exact .inr ⟨h.2, rfl⟩
  · rename_i h
    refine .inl ⟨rfl, fun m => ?_⟩
    simpa [State.due_freeMove m] using h

theorem State.idleSampling_msu (s : State) :
    s.idleSampling.msu = { s.msu with
      idleTimer := if s.fmu.speed = 0 then some (s.msu.idleTimer.getD 50) else none } := by
  simp only [State.idleSampling]
  split <;> simp_all

theorem State.leavePause_idle {s : State} (r : s.inRun = false) (m : s.mayRun = false) :
    s.leavePause.inRun = false ∧ s.leavePause.mayRun = false := by
  simp only [State.leavePause]
  split
  · rename_i q
    simp [State.mayRun, State.inRun, q.2]
  · exact ⟨r, m⟩

/-- Where no run is on and none may start, nothing of the run follows. -/
theorem State.engine_rests {s : State} (r : s.inRun = false) (m : s.mayRun = false) :
    let t := s.claim.reviewRun.leavePause.startRun.reviewRun.energise.idleSampling
    s.MotorRests t ∧ s.CondRests t := by
  have r' : s.claim.inRun = false := by simpa [State.inRun] using r
  have m' : s.claim.mayRun = false := by simpa [State.mayRun] using m
  have l := State.leavePause_idle r' m'
  simp only [State.reviewRun_still r', State.startRun_still l.2, State.reviewRun_still l.1]
  refine ⟨⟨?_, ?_⟩, ?_⟩
  · have g := s.claim.leavePause.energise_rests
    simpa using g
  · have g := s.claim.leavePause.energise.idleSampling_msu
    rcases s.claim.leavePause.energise_rests with ⟨e, -⟩ | ⟨-, e⟩ <;> simpa [e] using g
  · simp only [State.CondRests, State.idleSampling_keeps, State.energise_keeps, State.leavePause, State.claim_keeps]
    split <;> simp

/-- The engine's part of what follows: the claim and the run. -/
theorem State.engine_follows (s : State) :
    let t := s.claim.reviewRun.leavePause.startRun.reviewRun.energise.idleSampling
    t.hpu = s.hpu ∧ t.csq = s.csq ∧ s.OnlyFollows t := by
  have h := s.claim.follow_cond
  simp only [State.claim_keeps] at h
  refine ⟨by simp, by simp, ?_⟩
  refine ⟨?_, ?_, ?_, ?_, ?_, ?_, ?_, ?_, h, ?_, State.engine_rests⟩ <;> simp

/-- The sequencer's part comes first; what is left is the engine's. -/
theorem State.conclude_eq (s : State) :
    s.conclude = s.endWait.compactOn.claim.reviewRun.leavePause.startRun.reviewRun.energise.idleSampling := rfl

/-- What may follow in the same step, when no command waits and no compaction is in hand. -/
theorem State.conclude_follows {s : State} (w : s.csq.stage ≠ .waiting) (c : s.csq.stage ≠ .compacting) :
    s.conclude.hpu = s.hpu ∧ s.conclude.csq = s.csq ∧ s.OnlyFollows s.conclude := by
  rw [State.conclude_eq, State.endWait_idle w, State.compactOn_idle c]
  exact s.engine_follows

/-- The same after the sequencer has ended or gone on with a compaction. -/
theorem State.conclude_compacting {s : State} (w : s.csq.stage ≠ .waiting) :
    s.conclude.hpu = s.compactOn.hpu ∧ s.conclude.csq = s.compactOn.csq ∧ s.compactOn.OnlyFollows s.conclude := by
  rw [State.conclude_eq, State.endWait_idle w]
  exact s.compactOn.engine_follows

/-- Where no run is on and none may start, nothing of the run follows. -/
theorem State.conclude_rests {s : State} (w : s.csq.stage ≠ .waiting) (c : s.csq.stage ≠ .compacting)
    (r : s.inRun = false) (m : s.mayRun = false) : s.OnlyRests s.conclude := by
  refine ⟨(State.conclude_follows w c).2.2, ?_⟩
  rw [State.conclude_eq, State.endWait_idle w, State.compactOn_idle c]
  exact State.engine_rests r m

/-- R86: a claim looks at the label queue and the ring alone. -/
theorem State.claim_ring_congr {u v : State} (l : v.lbq = u.lbq) (r : v.ring = u.ring) : v.claim.ring = u.claim.ring := by
  simp only [State.claim, l, r]
  (repeat' split) <;> simp_all

/-- What follows is said of the engine alone: the port and the sequencer may differ. -/
theorem State.MotorRests.congr {u v t w : State} (h : u.MotorRests t) (a : u.SameEngine v) (b : t.SameEngine w) :
    v.MotorRests w := by
  obtain ⟨-, -, -, -, fu, mu, -⟩ := a
  obtain ⟨-, -, -, -, ft, mt, -⟩ := b
  simpa only [State.MotorRests, fu, mu, ft, mt] using h

theorem State.CondRests.congr {u v t w : State} (h : u.CondRests t) (a : u.SameEngine v) (b : t.SameEngine w) :
    v.CondRests w := by
  obtain ⟨-, lu, -, -, -, -, eu, -⟩ := a
  obtain ⟨-, -, -, -, -, -, et, -⟩ := b
  simpa only [State.CondRests, lu, eu, et] using h

theorem State.OnlyFollows.congr {u v t w : State} (h : u.OnlyFollows t) (a : u.SameEngine v) (b : t.SameEngine w) :
    v.OnlyFollows w := by
  obtain ⟨h1, h2, h3, h4, h5, h6, h7, h8, h9, h10, h11⟩ := h
  have a' := a
  have b' := b
  obtain ⟨a1, a2, a3, a4, a5, a6, a7, a8, a9, a10, a11⟩ := a
  obtain ⟨b1, b2, b3, b4, b5, b6, b7, b8, b9, b10, b11⟩ := b
  refine ⟨by rw [b1, h1, a1], by rw [b2, h2, a2], by rw [b4, h3, a4], by rw [b8, h4, a8], by rw [b9, h5, a9],
    by rw [b10, h6, a10], by rw [b11, h7, a11], by rw [b5, h8, a5], by rwa [b7, a7],
    by rw [b3, h10, State.claim_ring_congr a2 a3], fun r m => ⟨(h11 ?_ ?_).1.congr a' b', (h11 ?_ ?_).2.congr a' b'⟩⟩
  all_goals first
    | simpa only [State.inRun, a5, a7] using r
    | simpa only [State.mayRun, a2, a4, a5, a6, a7] using m

theorem State.OnlyRests.congr {u v t w : State} (h : u.OnlyRests t) (a : u.SameEngine v) (b : t.SameEngine w) :
    v.OnlyRests w := ⟨h.1.congr a b, h.2.1.congr a b, h.2.2.congr a b⟩

end Sys2Proof.Machine
end

