-- ==== Sys2Proof/Laws/Memory.lean ====
section
/-! SUPPORT. The laws of memory: a run of bytes written is what a read finds there and nothing else changes, and every
memory operation keeps the canonical form. -/

namespace Sys2Proof.Machine

/-- The cells of a run lie within it and are not 0x00. -/
theorem mem_cellsOf {c : Host.Cell} {bytes : List Byte} : ∀ {a : Nat}, c ∈ cellsOf a bytes →
    a ≤ c.1 ∧ c.1 < a + bytes.length ∧ c.2 ≠ 0 := by
  induction bytes with
  | nil => intro a h; simp [cellsOf] at h
  | cons b bs ih =>
    intro a h
    simp only [cellsOf] at h
    split at h
    · obtain ⟨h1, h2, h3⟩ := ih h
      exact ⟨by omega, by simp only [List.length_cons]; omega, h3⟩
    · rename_i hb
      rcases List.mem_cons.1 h with rfl | h
      · exact ⟨Nat.le_refl _, by simp, hb⟩
      · obtain ⟨h1, h2, h3⟩ := ih h
        exact ⟨by omega, by simp only [List.length_cons]; omega, h3⟩

/-- The cells of a run are in rising order. -/
theorem cellsOf_rising (bytes : List Byte) : ∀ a, (cellsOf a bytes).Pairwise fun x y => x.1 < y.1 := by
  induction bytes with
  | nil => intro a; simp [cellsOf]
  | cons b bs ih =>
    intro a
    simp only [cellsOf]
    split
    · exact ih _
    · refine List.pairwise_cons.2 ⟨fun c hc => ?_, ih _⟩
      have := mem_cellsOf hc
      simp only
      omega

theorem Memory.wf_iff (m : Memory) :
    m.wf = true ↔ (m.cells.Pairwise fun a b => a.1 < b.1) ∧ ∀ c ∈ m.cells, c.2 ≠ 0 := by
  simp [Memory.wf]

/-- Nothing listed is in canonical form. -/
@[simp] theorem Memory.wf_empty : (⟨[]⟩ : Memory).wf = true := rfl

/-- A write of a run keeps the canonical form. -/
theorem Memory.wf_writeBlock {m : Memory} (h : m.wf = true) (base : Nat) (bytes : List Byte) :
    (m.writeBlock base bytes).wf = true := by
  rw [Memory.wf_iff] at h ⊢
  obtain ⟨rising, full⟩ := h
  constructor
  · simp only [Memory.writeBlock, List.pairwise_append]
    refine ⟨⟨rising.filter _, cellsOf_rising _ _, fun x hx y hy => ?_⟩, rising.filter _, fun x hx y hy => ?_⟩
    · have := mem_cellsOf hy
      simp only [List.mem_filter, decide_eq_true_eq] at hx
      omega
    · simp only [List.mem_filter, decide_eq_true_eq] at hy
      rcases List.mem_append.1 hx with hx | hx
      · simp only [List.mem_filter, decide_eq_true_eq] at hx; omega
      · have := mem_cellsOf hx; omega
  · intro c hc
    simp only [Memory.writeBlock, List.mem_append, List.mem_filter] at hc
    rcases hc with (hc | hc) | hc
    · exact full c hc.1
    · exact (mem_cellsOf hc).2.2
    · exact full c hc.1

/-- The byte that the cells of a run list at an offset. -/
theorem find_cellsOf (bytes : List Byte) : ∀ (base a : Nat),
    ((cellsOf base bytes).find? fun c => c.1 == a) =
      if base ≤ a ∧ a < base + bytes.length ∧ bytes.getD (a - base) 0 ≠ 0 then some (a, bytes.getD (a - base) 0)
      else none := by
  induction bytes with
  | nil => intro base a; simp [cellsOf]
  | cons b bs ih =>
    intro base a
    simp only [cellsOf]
    rcases Nat.lt_trichotomy a base with h | h | h
    · have n1 : ¬ base ≤ a := by omega
      have n2 : ¬ base + 1 ≤ a := by omega
      have n3 : (base == a) = false := by simp; omega
      split <;> simp [ih, n1, n2, n3]
    · subst h
      have n2 : ¬ a + 1 ≤ a := by omega
      split
      · rename_i hb; simp [ih, n2, hb]
      · rename_i hb; simpa using hb
    · obtain ⟨k, rfl⟩ : ∃ k, a = base + 1 + k := ⟨a - base - 1, by omega⟩
      have e1 : base + 1 + k - base = k + 1 := by omega
      have e2 : base + 1 + k - (base + 1) = k := by omega
      have n3 : (base == base + 1 + k) = false := by simp; omega
      have e3 : (base ≤ base + 1 + k) = True := by simp; omega
      have e4 : (base + 1 ≤ base + 1 + k) = True := by simp
      have e5 : (base + 1 + k < base + (bs.length + 1)) = (base + 1 + k < base + 1 + bs.length) := by
        congr 1; omega
      split <;> simp [ih, e1, e2, e3, e4, e5, n3]

/-- A cell at `a` that a filter keeps is found through it. -/
theorem find_filter {l : List Host.Cell} {p : Host.Cell → Bool} {a : Nat} (h : ∀ c : Host.Cell, c.1 = a → p c = true) :
    ((l.filter p).find? fun c => c.1 == a) = l.find? fun c => c.1 == a := by
  rw [List.find?_filter]
  congr 1
  funext c
  by_cases hc : c.1 = a
  · simp [hc, h c hc]
  · simp [hc]

/-- No cell at `a` is found through a filter that drops them. -/
theorem find_filter_none {l : List Host.Cell} {p : Host.Cell → Bool} {a : Nat}
    (h : ∀ c : Host.Cell, c.1 = a → p c = false) : ((l.filter p).find? fun c => c.1 == a) = none := by
  rw [List.find?_eq_none]
  intro c hc
  simp only [List.mem_filter] at hc
  intro e
  simp only [beq_iff_eq] at e
  simp [h c e] at hc

/-- What a read finds after a run of bytes has been written. -/
theorem Memory.read_writeBlock (m : Memory) (base : Nat) (bytes : List Byte) (a : Nat) :
    (m.writeBlock base bytes).read a =
      if base ≤ a ∧ a < base + bytes.length then bytes.getD (a - base) 0 else m.read a := by
  simp only [Memory.read, Memory.writeBlock, List.find?_append, find_cellsOf]
  rcases Nat.lt_or_ge a base with h | h
  · rw [find_filter (fun c hc => by simp; omega), find_filter_none (fun c hc => by simp; omega)]
    have n : ¬ base ≤ a := by omega
    simp [n]
  · rw [find_filter_none (l := m.cells) (p := fun c => decide (c.1 < base)) (fun c hc => by simp; omega)]
    rcases Nat.lt_or_ge a (base + bytes.length) with g | g
    · rw [find_filter_none (fun c hc => by simp; omega)]
      by_cases z : bytes.getD (a - base) 0 = 0
      · rw [if_neg (by tauto), if_pos ⟨h, g⟩, z]; rfl
      · rw [if_pos ⟨h, g, z⟩, if_pos ⟨h, g⟩]; rfl
    · rw [find_filter (fun c hc => by simp; omega)]
      have n : ¬ a < base + bytes.length := by omega
      simp [n]

/-- A read of a byte just written finds it. -/
theorem Memory.read_written (m : Memory) {base : Nat} {bytes : List Byte} {i : Nat} (h : i < bytes.length) :
    (m.writeBlock base bytes).read (base + i) = bytes.getD i 0 := by
  rw [Memory.read_writeBlock, if_pos ⟨by omega, by omega⟩]
  simp

/-- A write leaves every other byte alone. -/
theorem Memory.read_elsewhere (m : Memory) {base : Nat} {bytes : List Byte} {a : Nat}
    (h : a < base ∨ base + bytes.length ≤ a) : (m.writeBlock base bytes).read a = m.read a := by
  rw [Memory.read_writeBlock, if_neg (by omega)]

/-! ### Every operation that writes memory keeps the canonical form -/

/-- R87: the render of a band. -/
theorem State.renderBand_ram_wf {s : State} (h : s.ram.wf = true) : s.renderBand.ram.wf = true := by
  simp only [State.renderBand]
  (repeat' split) <;> first | exact h | exact Memory.wf_writeBlock h _ _

/-- R51, R52: the storing of a glyph. -/
theorem State.defineGlyph_ram_wf {s : State} (h : s.ram.wf = true) (id width height : Nat) (bitmap : List Byte) :
    (s.defineGlyph id width height bitmap).ram.wf = true := by
  simp only [State.defineGlyph]
  split
  · exact h
  · exact Memory.wf_writeBlock h _ _

/-- R54: a compaction move. -/
theorem State.moveGlyph_ram_wf {s : State} (h : s.ram.wf = true) (cursor id : Nat) :
    (s.moveGlyph cursor id).ram.wf = true := Memory.wf_writeBlock h _ _

/-- R167: a byte that failed its test. -/
theorem State.byteFails_ram_wf {s : State} (h : s.ram.wf = true) (offset : Nat) (left : Byte) :
    (s.byteFails offset left).ram.wf = true := Memory.wf_writeBlock h _ _

/-- R165: the power-up test. -/
theorem memoryAfterTest_wf (l : List Misread) (r : RamOutcome) : (memoryAfterTest l r).wf = true := by
  cases r
  · rfl
  · exact Memory.wf_writeBlock Memory.wf_empty _ _

/-- The memory of the machine after reset is in canonical form. -/
theorem State.reset_ram_wf : State.reset.ram.wf = true := rfl

end Sys2Proof.Machine
end

