-- ==== Sys2Proof/WellFormed.lean ====
section
/-! DEFINITION. Which operands a step may carry: what the inputs of the part can supply. -/

namespace Sys2Proof

/-- A decayed byte lies in one of the ten copies of the five records (R158): 14 bytes for record 0, 20 for the others. -/
def Decay.wellFormed (d : Decay) : Bool :=
  decide (d.record < 5) && decide (d.index < if d.record = 0 then 14 else 20)

/-- A misread is of one of the four passes of R165, at an offset of Table 11-2. -/
def Misread.wellFormed (m : Misread) : Bool := decide (m.pass < 4) && decide (m.offset < Config.ramBytes)

/-- A torn copy is no longer than the copies of R158. -/
def Inputs.wellFormed (i : Inputs) : Bool := decide (i.torn.length ≤ 20)

def PowerUp.wellFormed (p : PowerUp) : Bool :=
  p.misreads.all Misread.wellFormed && p.decay.all Decay.wellFormed && p.inputs.wellFormed

/-- The operands lie in what the inputs can supply. Rows without operands, and rows whose operands may take
every value of their type, are always well formed. -/
def Instr.wellFormed : Instr → Bool
  | .pinReset found | .powerOnReset found => found.wellFormed
  | .setMechanismParameters _ decay | .storeProfile _ decay | .loadProfile decay | .verifyProfiles decay =>
      decay.all Decay.wellFormed
  | .recordCopyWrite differs => decide (differs.length ≤ 20)
  | .portReset _ inputs => inputs.wellFormed
  | .ramByteTest answer => decide (answer.differs.length ≤ 18)
  | .select | .breakRequest | .notifyMaskWrite _ | .commandByte _ | .payloadByte _
  | .resultByteRead | .completionByteRead | .dackCycle _ | .byteTimeout | .eventPortRead | .testReady
  | .requestSense | .readEngineState | .sensorRead | .setMediaParameters | .readMediaParameters
  | .defineGlyph | .deleteGlyph | .compactGlyphs | .glyphMove | .readGlyphEntry | .openLabel | .placeGlyph
  | .placeText | .placeRule | .placeImage | .closeLabel | .discardLabel | .cancelLabels | .setRunGate | .feed
  | .advanceToEdge | .calibrateMedia | .present | .retract | .resume | .ramTest
  | .motionWaitTimeout | .bandRender | .lineStep _ _ | .backwardStep _ | .runStart | .temperatureSample _
  | .headStateChange | .idleSample _ | .autoRecover | .motorRelease | .refusedDataPortAccess _ | .resetInputHeld => true

end Sys2Proof
end

