-- ==== Sys2Proof/Laws/PerInstr.lean ====
section
/-! SUPPORT. The rows as syntax, one lemma for each constructor: no word of the table spells the row (log 6), and a
well-formed row names decayed bytes only where the store has bytes (R158). -/

namespace Sys2Proof.Laws.Shape

/-- The decayed bytes of the store that a row carries. -/
def decayOf : Instr → List Decay
  | .pinReset found | .powerOnReset found => found.decay
  | .setMechanismParameters _ decay | .storeProfile _ decay | .loadProfile decay | .verifyProfiles decay => decay
  | _ => []

/-- A decayed byte of a well-formed row lies in one of the ten copies. -/
def InStore (d : Decay) : Prop := d.record < 5 ∧ d.index < 20 ∧ (d.record = 0 → d.index < 14)

/-- What is said of each row. -/
def Statement (i : Instr) : Prop :=
  (∀ nbits w, decodeTableWord nbits w ≠ some i) ∧ (i.wellFormed = true → ∀ d ∈ decayOf i, InStore d)

theorem inStore {d : Decay} (h : d.wellFormed = true) : InStore d := by
  simp only [Decay.wellFormed, Bool.and_eq_true, decide_eq_true_eq] at h
  obtain ⟨h1, h2⟩ := h
  refine ⟨h1, ?_, fun z => by simpa [z] using h2⟩
  split at h2 <;> omega

theorem of_none {i : Instr} (h : decayOf i = []) : Statement i :=
  ⟨fun _ _ => nofun, fun _ d hd => by simp [h] at hd⟩

theorem of_all {i : Instr} (h : i.wellFormed = true → (decayOf i).all Decay.wellFormed = true) : Statement i :=
  ⟨fun _ _ => nofun, fun w d hd => inStore (List.all_eq_true.1 (h w) d hd)⟩

theorem select : Statement .select := of_none rfl
theorem breakRequest : Statement .breakRequest := of_none rfl
theorem notifyMaskWrite (value : Byte) : Statement (.notifyMaskWrite value) := of_none rfl
theorem portReset (value : Byte) (inputs : Inputs) : Statement (.portReset value inputs) := of_none rfl
theorem pinReset (found : PowerUp) : Statement (.pinReset found) :=
  of_all fun h => (Bool.and_eq_true_iff.1 (Bool.and_eq_true_iff.1 h).1).2
theorem powerOnReset (found : PowerUp) : Statement (.powerOnReset found) :=
  of_all fun h => (Bool.and_eq_true_iff.1 (Bool.and_eq_true_iff.1 h).1).2
theorem commandByte (value : Byte) : Statement (.commandByte value) := of_none rfl
theorem payloadByte (value : Byte) : Statement (.payloadByte value) := of_none rfl
theorem resultByteRead : Statement .resultByteRead := of_none rfl
theorem completionByteRead : Statement .completionByteRead := of_none rfl
theorem dackCycle (access : Access) : Statement (.dackCycle access) := of_none rfl
theorem byteTimeout : Statement .byteTimeout := of_none rfl
theorem eventPortRead : Statement .eventPortRead := of_none rfl
theorem testReady : Statement .testReady := of_none rfl
theorem requestSense : Statement .requestSense := of_none rfl
theorem readEngineState : Statement .readEngineState := of_none rfl
theorem sensorRead : Statement .sensorRead := of_none rfl
theorem setMediaParameters : Statement .setMediaParameters := of_none rfl
theorem readMediaParameters : Statement .readMediaParameters := of_none rfl
theorem setMechanismParameters (strap : Bool) (decay : List Decay) : Statement (.setMechanismParameters strap decay) := of_all id
theorem storeProfile (strap : Bool) (decay : List Decay) : Statement (.storeProfile strap decay) := of_all id
theorem loadProfile (decay : List Decay) : Statement (.loadProfile decay) := of_all id
theorem verifyProfiles (decay : List Decay) : Statement (.verifyProfiles decay) := of_all id
theorem recordCopyWrite (differs : List Byte) : Statement (.recordCopyWrite differs) := of_none rfl
theorem defineGlyph : Statement .defineGlyph := of_none rfl
theorem deleteGlyph : Statement .deleteGlyph := of_none rfl
theorem compactGlyphs : Statement .compactGlyphs := of_none rfl
theorem glyphMove : Statement .glyphMove := of_none rfl
theorem readGlyphEntry : Statement .readGlyphEntry := of_none rfl
theorem openLabel : Statement .openLabel := of_none rfl
theorem placeGlyph : Statement .placeGlyph := of_none rfl
theorem placeText : Statement .placeText := of_none rfl
theorem placeRule : Statement .placeRule := of_none rfl
theorem placeImage : Statement .placeImage := of_none rfl
theorem closeLabel : Statement .closeLabel := of_none rfl
theorem discardLabel : Statement .discardLabel := of_none rfl
theorem cancelLabels : Statement .cancelLabels := of_none rfl
theorem setRunGate : Statement .setRunGate := of_none rfl
theorem feed : Statement .feed := of_none rfl
theorem advanceToEdge : Statement .advanceToEdge := of_none rfl
theorem calibrateMedia : Statement .calibrateMedia := of_none rfl
theorem present : Statement .present := of_none rfl
theorem retract : Statement .retract := of_none rfl
theorem resume : Statement .resume := of_none rfl
theorem ramTest : Statement .ramTest := of_none rfl
theorem ramByteTest (answer : ByteTest) : Statement (.ramByteTest answer) := of_none rfl
theorem motionWaitTimeout : Statement .motionWaitTimeout := of_none rfl
theorem bandRender : Statement .bandRender := of_none rfl
theorem lineStep (level : Byte) (elapsed : Nat) : Statement (.lineStep level elapsed) := of_none rfl
theorem backwardStep (elapsed : Nat) : Statement (.backwardStep elapsed) := of_none rfl
theorem runStart : Statement .runStart := of_none rfl
theorem temperatureSample (degrees : Int) : Statement (.temperatureSample degrees) := of_none rfl
theorem headStateChange : Statement .headStateChange := of_none rfl
theorem idleSample (level : Byte) : Statement (.idleSample level) := of_none rfl
theorem autoRecover : Statement .autoRecover := of_none rfl
theorem motorRelease : Statement .motorRelease := of_none rfl
theorem refusedDataPortAccess (access : Access) : Statement (.refusedDataPortAccess access) := of_none rfl
theorem resetInputHeld : Statement .resetInputHeld := of_none rfl

end Sys2Proof.Laws.Shape
end

