-- ==== Sys2Proof/Laws/PowerUp.lean ====
section
/-! SUPPORT. The power-up test and torn copies, said once: the offset that a pass reports is the first that fails (R165),
a soundness test reads back every byte, and a torn copy is never valid (R160). -/

namespace Sys2Proof.Machine

/-- R165: a byte that fails in a pass is one that the list of misreads names. -/
theorem passFailsAt_named {l : List Misread} {pass offset : Nat} (h : passFailsAt l pass offset = true) :
    ∃ m ∈ l, m.offset = offset := by
  simp only [passFailsAt, passReadBack, bne_iff_ne, ne_eq] at h
  cases f : l.find? fun m => m.pass == pass && m.offset == offset with
  | none => simp [f] at h
  | some m =>
    have p := List.find?_some f
    simp only [Bool.and_eq_true, beq_iff_eq] at p
    exact ⟨m, List.mem_of_find?_eq_some f, p.2⟩

/-- R165 step 1: what a pass reports is the first offset, in increasing order, whose read-back differs. -/
theorem passFailure_eq (l : List Misread) (pass : Nat) :
    passFailure l pass = (List.range Config.ramBytes).find? (passFailsAt l pass) := by
  cases r : (List.range Config.ramBytes).find? (passFailsAt l pass) with
  | none =>
    rw [List.find?_eq_none] at r
    simp only [passFailure, List.min?_eq_none_iff, List.map_eq_nil_iff, List.filter_eq_nil_iff, Bool.and_eq_true,
      decide_eq_true_eq, not_and]
    exact fun m _ b => r m.offset (List.mem_range.2 b)
  | some k =>
    rw [List.find?_range_eq_some] at r
    obtain ⟨hk, hr, low⟩ := r
    obtain ⟨m, hm, e⟩ := passFailsAt_named hk
    simp only [passFailure]
    rw [List.min?_eq_some_iff]
    refine ⟨List.mem_map.2 ⟨m, List.mem_filter.2 ⟨hm, ?_⟩, e⟩, ?_⟩
    · simp [e, hk, List.mem_range.1 hr]
    · intro b hb
      obtain ⟨n, hn, rfl⟩ := List.mem_map.1 hb
      have f := (List.mem_filter.1 hn).2
      simp only [Bool.and_eq_true, decide_eq_true_eq] at f
      by_contra c
      have := low n.offset (by omega)
      simp [f.2] at this

/-- R165 step 1: the test passes exactly when every byte reads back as written in every pass. -/
theorem ramOutcome_passed (l : List Misread) :
    ramOutcome l = .passed ↔ ∀ pass < 4, ∀ offset < Config.ramBytes, passFailsAt l pass offset = false := by
  have one (pass : Nat) : passFailure l pass = none ↔ ∀ offset < Config.ramBytes, passFailsAt l pass offset = false := by
    simp [passFailure_eq, List.find?_eq_none]
  constructor
  · intro h pass hp
    rw [← one]
    simp only [ramOutcome, testPasses] at h
    (repeat' split at h) <;> first | contradiction | skip
    interval_cases pass <;> assumption
  · intro h
    simp [ramOutcome, testPasses, (one 0).2 (h 0 (by omega)), (one 1).2 (h 1 (by omega)), (one 2).2 (h 2 (by omega)),
      (one 3).2 (h 3 (by omega))]

/-- R158: a copy has as many bytes as its record, and four more. -/
theorem tornBytes_length (record : Nat) (left : List Byte) : (tornBytes record left).length = copyLength record := by
  simp only [tornBytes]
  split <;> simp

/-- R160: the CRC of a torn copy does not match. -/
theorem crcMatches_tornBytes (record : Nat) (left : List Byte) : crcMatches record (tornBytes record left) = false := by
  simp only [tornBytes]
  generalize hb : (left ++ List.replicate (copyLength record) 0xFF).take (copyLength record) = b
  have hl : b.length = copyLength record := by simp [← hb]
  split
  · rename_i m
    simp only [crcMatches, beq_iff_eq] at m
    have last : copyLength record - 1 = recordLength record + 3 := by simp [copyLength]
    have inb : recordLength record + 3 < b.length := by simp [hl, copyLength]
    generalize hx : ~~~ byteAt b (copyLength record - 1) = x
    have take : (b.set (copyLength record - 1) x).take (recordLength record + 2) = b.take (recordLength record + 2) := by
      rw [List.take_set_of_le (by omega)]
    simp only [crcMatches, take, ← m, beq_eq_false_iff_ne, ne_eq]
    intro c
    have h := congrArg (fun h : Half => h.getLsbD 8) c
    have new : byteAt (b.set (copyLength record - 1) x) (recordLength record + 2 + 1) = x := by
      simp [byteAt, last, inb]
    have old : byteAt b (recordLength record + 2 + 1) = ~~~ x := by simp [← hx, last]
    simp only [half, new, old, BitVec.getLsbD_append] at h
    simp at h
  · rename_i m
    simpa using m

/-- R160: a torn copy is invalid. -/
theorem torn_invalid (record : Nat) (left : List Byte) : (⟨tornBytes record left⟩ : StoredCopy).valid record = false := by
  simp [StoredCopy.valid, crcMatches_tornBytes]

end Sys2Proof.Machine
end

