-- ==== Sys2Proof/Laws/State.lean ====
section
/-! SUPPORT. The fields of the state after the plain updates, one lemma a field, each true by unfolding: the queue, the
port's orders, and the motor's and the sensor's updates. What an update leaves alone beyond its own block is said in
Sys2Proof/Laws/Frames.lean. -/

namespace Sys2Proof.Machine


/-! The queue -/

@[simp] theorem State.withPending_hpu (s : State) (l : List Instr) : (s.withPending l).hpu = s.hpu := rfl
@[simp] theorem State.withPending_csq (s : State) (l : List Instr) : (s.withPending l).csq = s.csq := rfl
@[simp] theorem State.withPending_gst (s : State) (l : List Instr) : (s.withPending l).gst = s.gst := rfl
@[simp] theorem State.withPending_lbq (s : State) (l : List Instr) : (s.withPending l).lbq = s.lbq := rfl
@[simp] theorem State.withPending_ring (s : State) (l : List Instr) : (s.withPending l).ring = s.ring := rfl
@[simp] theorem State.withPending_hdu (s : State) (l : List Instr) : (s.withPending l).hdu = s.hdu := rfl
@[simp] theorem State.withPending_fmu (s : State) (l : List Instr) : (s.withPending l).fmu = s.fmu := rfl
@[simp] theorem State.withPending_msu (s : State) (l : List Instr) : (s.withPending l).msu = s.msu := rfl
@[simp] theorem State.withPending_eng (s : State) (l : List Instr) : (s.withPending l).eng = s.eng := rfl
@[simp] theorem State.withPending_nvs (s : State) (l : List Instr) : (s.withPending l).nvs = s.nvs := rfl
@[simp] theorem State.withPending_ram (s : State) (l : List Instr) : (s.withPending l).ram = s.ram := rfl
@[simp] theorem State.withPending_strap (s : State) (l : List Instr) : (s.withPending l).strap = s.strap := rfl
@[simp] theorem State.withPending_pending (s : State) (l : List Instr) : (s.withPending l).pending = l := rfl

/-! A row put first -/

@[simp] theorem State.enqueueFront_hpu (s : State) (i : Instr) : (s.enqueueFront i).hpu = s.hpu := rfl
@[simp] theorem State.enqueueFront_csq (s : State) (i : Instr) : (s.enqueueFront i).csq = s.csq := rfl
@[simp] theorem State.enqueueFront_gst (s : State) (i : Instr) : (s.enqueueFront i).gst = s.gst := rfl
@[simp] theorem State.enqueueFront_lbq (s : State) (i : Instr) : (s.enqueueFront i).lbq = s.lbq := rfl
@[simp] theorem State.enqueueFront_ring (s : State) (i : Instr) : (s.enqueueFront i).ring = s.ring := rfl
@[simp] theorem State.enqueueFront_hdu (s : State) (i : Instr) : (s.enqueueFront i).hdu = s.hdu := rfl
@[simp] theorem State.enqueueFront_fmu (s : State) (i : Instr) : (s.enqueueFront i).fmu = s.fmu := rfl
@[simp] theorem State.enqueueFront_msu (s : State) (i : Instr) : (s.enqueueFront i).msu = s.msu := rfl
@[simp] theorem State.enqueueFront_eng (s : State) (i : Instr) : (s.enqueueFront i).eng = s.eng := rfl
@[simp] theorem State.enqueueFront_nvs (s : State) (i : Instr) : (s.enqueueFront i).nvs = s.nvs := rfl
@[simp] theorem State.enqueueFront_ram (s : State) (i : Instr) : (s.enqueueFront i).ram = s.ram := rfl
@[simp] theorem State.enqueueFront_strap (s : State) (i : Instr) : (s.enqueueFront i).strap = s.strap := rfl
@[simp] theorem State.enqueueFront_pending (s : State) (i : Instr) : (s.enqueueFront i).pending = i :: s.pending := rfl

/-! REQ rises (R5, R16) -/

@[simp] theorem State.raiseReq_hpu_phase (s : State) : (s.raiseReq).hpu.phase = s.hpu.phase := rfl
@[simp] theorem State.raiseReq_hpu_counter (s : State) : (s.raiseReq).hpu.counter = s.hpu.counter := rfl
@[simp] theorem State.raiseReq_hpu_length (s : State) : (s.raiseReq).hpu.length = s.hpu.length := rfl
@[simp] theorem State.raiseReq_hpu_latch (s : State) : (s.raiseReq).hpu.latch = s.hpu.latch := rfl
@[simp] theorem State.raiseReq_hpu_cmd (s : State) : (s.raiseReq).hpu.cmd = s.hpu.cmd := rfl
@[simp] theorem State.raiseReq_hpu_result (s : State) : (s.raiseReq).hpu.result = s.hpu.result := rfl
@[simp] theorem State.raiseReq_hpu_byteTimer (s : State) : (s.raiseReq).hpu.byteTimer = some Config.byteTimeout := rfl
@[simp] theorem State.raiseReq_hpu_mask (s : State) : (s.raiseReq).hpu.mask = s.hpu.mask := rfl
@[simp] theorem State.raiseReq_hpu_drq (s : State) : (s.raiseReq).hpu.drq = s.hpu.dmaEnable := rfl
@[simp] theorem State.raiseReq_hpu_cirq (s : State) : (s.raiseReq).hpu.cirq = s.hpu.cirq := rfl
@[simp] theorem State.raiseReq_hpu_misuse (s : State) : (s.raiseReq).hpu.misuse = s.hpu.misuse := rfl
@[simp] theorem State.raiseReq_hpu_breakPending (s : State) : (s.raiseReq).hpu.breakPending = s.hpu.breakPending := rfl
@[simp] theorem State.raiseReq_hpu_seq (s : State) : (s.raiseReq).hpu.seq = s.hpu.seq := rfl
@[simp] theorem State.raiseReq_hpu_completion (s : State) : (s.raiseReq).hpu.completion = s.hpu.completion := rfl
@[simp] theorem State.raiseReq_hpu_bus (s : State) : (s.raiseReq).hpu.bus = s.hpu.bus := rfl
@[simp] theorem State.raiseReq_hpu_service (s : State) : (s.raiseReq).hpu.service = s.hpu.service := rfl

/-! DATA OUT is entered (R8) -/

@[simp] theorem State.enterDataOut_hpu_phase (s : State) (n : Nat) : (s.enterDataOut n).hpu.phase = .dataOut := rfl
@[simp] theorem State.enterDataOut_hpu_counter (s : State) (n : Nat) : (s.enterDataOut n).hpu.counter = 0 := rfl
@[simp] theorem State.enterDataOut_hpu_length (s : State) (n : Nat) : (s.enterDataOut n).hpu.length = n := rfl
@[simp] theorem State.enterDataOut_hpu_latch (s : State) (n : Nat) : (s.enterDataOut n).hpu.latch = s.hpu.latch := rfl
@[simp] theorem State.enterDataOut_hpu_cmd (s : State) (n : Nat) : (s.enterDataOut n).hpu.cmd = s.hpu.cmd := rfl
@[simp] theorem State.enterDataOut_hpu_result (s : State) (n : Nat) :
    (s.enterDataOut n).hpu.result = s.hpu.result := rfl
@[simp] theorem State.enterDataOut_hpu_byteTimer (s : State) (n : Nat) :
    (s.enterDataOut n).hpu.byteTimer = some Config.byteTimeout := rfl
@[simp] theorem State.enterDataOut_hpu_mask (s : State) (n : Nat) : (s.enterDataOut n).hpu.mask = s.hpu.mask := rfl
@[simp] theorem State.enterDataOut_hpu_drq (s : State) (n : Nat) : (s.enterDataOut n).hpu.drq = s.hpu.dmaEnable := rfl
@[simp] theorem State.enterDataOut_hpu_cirq (s : State) (n : Nat) : (s.enterDataOut n).hpu.cirq = s.hpu.cirq := rfl
@[simp] theorem State.enterDataOut_hpu_misuse (s : State) (n : Nat) :
    (s.enterDataOut n).hpu.misuse = s.hpu.misuse := rfl
@[simp] theorem State.enterDataOut_hpu_breakPending (s : State) (n : Nat) :
    (s.enterDataOut n).hpu.breakPending = s.hpu.breakPending := rfl
@[simp] theorem State.enterDataOut_hpu_seq (s : State) (n : Nat) : (s.enterDataOut n).hpu.seq = s.hpu.seq := rfl
@[simp] theorem State.enterDataOut_hpu_completion (s : State) (n : Nat) :
    (s.enterDataOut n).hpu.completion = s.hpu.completion := rfl
@[simp] theorem State.enterDataOut_hpu_bus (s : State) (n : Nat) : (s.enterDataOut n).hpu.bus = s.hpu.bus := rfl
@[simp] theorem State.enterDataOut_hpu_service (s : State) (n : Nat) :
    (s.enterDataOut n).hpu.service = s.hpu.service := rfl

/-! DATA IN is entered (R8) -/

@[simp] theorem State.enterDataIn_hpu_phase (s : State) (l : List Byte) : (s.enterDataIn l).hpu.phase = .dataIn := rfl
@[simp] theorem State.enterDataIn_hpu_counter (s : State) (l : List Byte) : (s.enterDataIn l).hpu.counter = 0 := rfl
@[simp] theorem State.enterDataIn_hpu_length (s : State) (l : List Byte) :
    (s.enterDataIn l).hpu.length = l.length := rfl
@[simp] theorem State.enterDataIn_hpu_latch (s : State) (l : List Byte) : (s.enterDataIn l).hpu.latch = l.headD 0 := rfl
@[simp] theorem State.enterDataIn_hpu_cmd (s : State) (l : List Byte) : (s.enterDataIn l).hpu.cmd = s.hpu.cmd := rfl
@[simp] theorem State.enterDataIn_hpu_result (s : State) (l : List Byte) : (s.enterDataIn l).hpu.result = l.tail := rfl
@[simp] theorem State.enterDataIn_hpu_byteTimer (s : State) (l : List Byte) :
    (s.enterDataIn l).hpu.byteTimer = some Config.byteTimeout := rfl
@[simp] theorem State.enterDataIn_hpu_mask (s : State) (l : List Byte) : (s.enterDataIn l).hpu.mask = s.hpu.mask := rfl
@[simp] theorem State.enterDataIn_hpu_drq (s : State) (l : List Byte) :
    (s.enterDataIn l).hpu.drq = s.hpu.dmaEnable := rfl
@[simp] theorem State.enterDataIn_hpu_cirq (s : State) (l : List Byte) : (s.enterDataIn l).hpu.cirq = s.hpu.cirq := rfl
@[simp] theorem State.enterDataIn_hpu_misuse (s : State) (l : List Byte) :
    (s.enterDataIn l).hpu.misuse = s.hpu.misuse := rfl
@[simp] theorem State.enterDataIn_hpu_breakPending (s : State) (l : List Byte) :
    (s.enterDataIn l).hpu.breakPending = s.hpu.breakPending := rfl
@[simp] theorem State.enterDataIn_hpu_seq (s : State) (l : List Byte) : (s.enterDataIn l).hpu.seq = s.hpu.seq := rfl
@[simp] theorem State.enterDataIn_hpu_completion (s : State) (l : List Byte) :
    (s.enterDataIn l).hpu.completion = s.hpu.completion := rfl
@[simp] theorem State.enterDataIn_hpu_bus (s : State) (l : List Byte) : (s.enterDataIn l).hpu.bus = s.hpu.bus := rfl
@[simp] theorem State.enterDataIn_hpu_service (s : State) (l : List Byte) :
    (s.enterDataIn l).hpu.service = s.hpu.service := rfl

/-! The completion byte is read (R10) -/

@[simp] theorem State.giveCompletionByte_hpu_phase (s : State) : (s.giveCompletionByte).hpu.phase = .free := rfl
@[simp] theorem State.giveCompletionByte_hpu_counter (s : State) :
    (s.giveCompletionByte).hpu.counter = s.hpu.counter := rfl
@[simp] theorem State.giveCompletionByte_hpu_length (s : State) :
    (s.giveCompletionByte).hpu.length = s.hpu.length := rfl
@[simp] theorem State.giveCompletionByte_hpu_latch (s : State) : (s.giveCompletionByte).hpu.latch = s.hpu.latch := rfl
@[simp] theorem State.giveCompletionByte_hpu_cmd (s : State) : (s.giveCompletionByte).hpu.cmd = s.hpu.cmd := rfl
@[simp] theorem State.giveCompletionByte_hpu_result (s : State) :
    (s.giveCompletionByte).hpu.result = s.hpu.result := rfl
@[simp] theorem State.giveCompletionByte_hpu_byteTimer (s : State) :
    (s.giveCompletionByte).hpu.byteTimer = s.hpu.byteTimer := rfl
@[simp] theorem State.giveCompletionByte_hpu_mask (s : State) : (s.giveCompletionByte).hpu.mask = s.hpu.mask := rfl
@[simp] theorem State.giveCompletionByte_hpu_drq (s : State) : (s.giveCompletionByte).hpu.drq = s.hpu.drq := rfl
@[simp] theorem State.giveCompletionByte_hpu_cirq (s : State) : (s.giveCompletionByte).hpu.cirq = false := rfl
@[simp] theorem State.giveCompletionByte_hpu_misuse (s : State) : (s.giveCompletionByte).hpu.misuse = false := rfl
@[simp] theorem State.giveCompletionByte_hpu_breakPending (s : State) :
    (s.giveCompletionByte).hpu.breakPending = s.hpu.breakPending := rfl
@[simp] theorem State.giveCompletionByte_hpu_seq (s : State) : (s.giveCompletionByte).hpu.seq = s.hpu.seq := rfl
@[simp] theorem State.giveCompletionByte_hpu_completion (s : State) :
    (s.giveCompletionByte).hpu.completion = s.hpu.completion := rfl
@[simp] theorem State.giveCompletionByte_hpu_bus (s : State) : (s.giveCompletionByte).hpu.bus = s.hpu.completion := rfl
@[simp] theorem State.giveCompletionByte_hpu_service (s : State) :
    (s.giveCompletionByte).hpu.service = s.hpu.service := rfl

/-! The motor is STOPPED (R112) -/

@[simp] theorem State.toStopped_fmu_pos (s : State) : (s.toStopped).fmu.pos = s.fmu.pos := rfl
@[simp] theorem State.toStopped_fmu_speed (s : State) : (s.toStopped).fmu.speed = 0 := rfl
@[simp] theorem State.toStopped_fmu_backward (s : State) : (s.toStopped).fmu.backward = s.fmu.backward := rfl
@[simp] theorem State.toStopped_fmu_mode (s : State) : (s.toStopped).fmu.mode = .stopped := rfl
@[simp] theorem State.toStopped_fmu_target (s : State) : (s.toStopped).fmu.target = none := rfl
@[simp] theorem State.toStopped_fmu_stop (s : State) : (s.toStopped).fmu.stop = none := rfl
@[simp] theorem State.toStopped_fmu_why (s : State) : (s.toStopped).fmu.why = none := rfl
@[simp] theorem State.toStopped_fmu_move (s : State) : (s.toStopped).fmu.move = .none := rfl
@[simp] theorem State.toStopped_fmu_motion (s : State) : (s.toStopped).fmu.motion = s.fmu.motion := rfl
@[simp] theorem State.toStopped_fmu_rest (s : State) : (s.toStopped).fmu.rest = .none := rfl
@[simp] theorem State.toStopped_fmu_underrun (s : State) : (s.toStopped).fmu.underrun = s.fmu.underrun := rfl
@[simp] theorem State.toStopped_fmu_present (s : State) : (s.toStopped).fmu.present = s.fmu.present := rfl
@[simp] theorem State.toStopped_fmu_offset (s : State) : (s.toStopped).fmu.offset = s.fmu.offset := rfl
@[simp] theorem State.toStopped_fmu_energised (s : State) : (s.toStopped).fmu.energised = s.fmu.energised := rfl
@[simp] theorem State.toStopped_fmu_settling (s : State) : (s.toStopped).fmu.settling = false := rfl
@[simp] theorem State.toStopped_fmu_idleTimer (s : State) : (s.toStopped).fmu.idleTimer = s.fmu.idleTimer := rfl

/-! A stop begins (R120) -/

@[simp] theorem State.beginStop_fmu_pos (s : State) (k : StopKind) (w : StopWhy) :
    (s.beginStop k w).fmu.pos = s.fmu.pos := rfl
@[simp] theorem State.beginStop_fmu_speed (s : State) (k : StopKind) (w : StopWhy) :
    (s.beginStop k w).fmu.speed = s.fmu.speed := rfl
@[simp] theorem State.beginStop_fmu_backward (s : State) (k : StopKind) (w : StopWhy) :
    (s.beginStop k w).fmu.backward = s.fmu.backward := rfl
@[simp] theorem State.beginStop_fmu_mode (s : State) (k : StopKind) (w : StopWhy) :
    (s.beginStop k w).fmu.mode = .stopping := rfl
@[simp] theorem State.beginStop_fmu_target (s : State) (k : StopKind) (w : StopWhy) :
    (s.beginStop k w).fmu.target = s.fmu.target := rfl
@[simp] theorem State.beginStop_fmu_stop (s : State) (k : StopKind) (w : StopWhy) :
    (s.beginStop k w).fmu.stop = some k := rfl
@[simp] theorem State.beginStop_fmu_why (s : State) (k : StopKind) (w : StopWhy) :
    (s.beginStop k w).fmu.why = some w := rfl
@[simp] theorem State.beginStop_fmu_move (s : State) (k : StopKind) (w : StopWhy) :
    (s.beginStop k w).fmu.move = s.fmu.move := rfl
@[simp] theorem State.beginStop_fmu_motion (s : State) (k : StopKind) (w : StopWhy) :
    (s.beginStop k w).fmu.motion = s.fmu.motion := rfl
@[simp] theorem State.beginStop_fmu_rest (s : State) (k : StopKind) (w : StopWhy) :
    (s.beginStop k w).fmu.rest = s.fmu.rest := rfl
@[simp] theorem State.beginStop_fmu_underrun (s : State) (k : StopKind) (w : StopWhy) :
    (s.beginStop k w).fmu.underrun = s.fmu.underrun := rfl
@[simp] theorem State.beginStop_fmu_present (s : State) (k : StopKind) (w : StopWhy) :
    (s.beginStop k w).fmu.present = s.fmu.present := rfl
@[simp] theorem State.beginStop_fmu_offset (s : State) (k : StopKind) (w : StopWhy) :
    (s.beginStop k w).fmu.offset = s.fmu.offset := rfl
@[simp] theorem State.beginStop_fmu_energised (s : State) (k : StopKind) (w : StopWhy) :
    (s.beginStop k w).fmu.energised = s.fmu.energised := rfl
@[simp] theorem State.beginStop_fmu_settling (s : State) (k : StopKind) (w : StopWhy) :
    (s.beginStop k w).fmu.settling = s.fmu.settling := rfl
@[simp] theorem State.beginStop_fmu_idleTimer (s : State) (k : StopKind) (w : StopWhy) :
    (s.beginStop k w).fmu.idleTimer = s.fmu.idleTimer := rfl

/-! A free move begins (R112) -/

@[simp] theorem State.beginMove_fmu_pos (s : State) (m : Move) (t : Option Pos) :
    (s.beginMove m t).fmu.pos = s.fmu.pos := rfl
@[simp] theorem State.beginMove_fmu_speed (s : State) (m : Move) (t : Option Pos) :
    (s.beginMove m t).fmu.speed = s.fmu.speed := rfl
@[simp] theorem State.beginMove_fmu_backward (s : State) (m : Move) (t : Option Pos) :
    (s.beginMove m t).fmu.backward = s.fmu.backward := rfl
@[simp] theorem State.beginMove_fmu_mode (s : State) (m : Move) (t : Option Pos) :
    (s.beginMove m t).fmu.mode = .freeMove := rfl
@[simp] theorem State.beginMove_fmu_target (s : State) (m : Move) (t : Option Pos) :
    (s.beginMove m t).fmu.target = t := rfl
@[simp] theorem State.beginMove_fmu_stop (s : State) (m : Move) (t : Option Pos) :
    (s.beginMove m t).fmu.stop = s.fmu.stop := rfl
@[simp] theorem State.beginMove_fmu_why (s : State) (m : Move) (t : Option Pos) :
    (s.beginMove m t).fmu.why = s.fmu.why := rfl
@[simp] theorem State.beginMove_fmu_move (s : State) (m : Move) (t : Option Pos) : (s.beginMove m t).fmu.move = m := rfl
@[simp] theorem State.beginMove_fmu_motion (s : State) (m : Move) (t : Option Pos) :
    (s.beginMove m t).fmu.motion = s.fmu.motion := rfl
@[simp] theorem State.beginMove_fmu_rest (s : State) (m : Move) (t : Option Pos) :
    (s.beginMove m t).fmu.rest = .none := rfl
@[simp] theorem State.beginMove_fmu_underrun (s : State) (m : Move) (t : Option Pos) :
    (s.beginMove m t).fmu.underrun = s.fmu.underrun := rfl
@[simp] theorem State.beginMove_fmu_present (s : State) (m : Move) (t : Option Pos) :
    (s.beginMove m t).fmu.present = s.fmu.present := rfl
@[simp] theorem State.beginMove_fmu_offset (s : State) (m : Move) (t : Option Pos) :
    (s.beginMove m t).fmu.offset = s.fmu.offset := rfl
@[simp] theorem State.beginMove_fmu_energised (s : State) (m : Move) (t : Option Pos) :
    (s.beginMove m t).fmu.energised = s.fmu.energised := rfl
@[simp] theorem State.beginMove_fmu_settling (s : State) (m : Move) (t : Option Pos) :
    (s.beginMove m t).fmu.settling = s.fmu.settling := rfl
@[simp] theorem State.beginMove_fmu_idleTimer (s : State) (m : Move) (t : Option Pos) :
    (s.beginMove m t).fmu.idleTimer = s.fmu.idleTimer := rfl

/-! A forward motor step (R110) -/

@[simp] theorem State.stepForward_fmu_pos (s : State) (v : Nat) : (s.stepForward v).fmu.pos = s.fmu.pos + 1 := rfl
@[simp] theorem State.stepForward_fmu_speed (s : State) (v : Nat) : (s.stepForward v).fmu.speed = v := rfl
@[simp] theorem State.stepForward_fmu_backward (s : State) (v : Nat) : (s.stepForward v).fmu.backward = false := rfl
@[simp] theorem State.stepForward_fmu_mode (s : State) (v : Nat) : (s.stepForward v).fmu.mode = s.fmu.mode := rfl
@[simp] theorem State.stepForward_fmu_target (s : State) (v : Nat) : (s.stepForward v).fmu.target = s.fmu.target := rfl
@[simp] theorem State.stepForward_fmu_stop (s : State) (v : Nat) : (s.stepForward v).fmu.stop = s.fmu.stop := rfl
@[simp] theorem State.stepForward_fmu_why (s : State) (v : Nat) : (s.stepForward v).fmu.why = s.fmu.why := rfl
@[simp] theorem State.stepForward_fmu_move (s : State) (v : Nat) : (s.stepForward v).fmu.move = s.fmu.move := rfl
@[simp] theorem State.stepForward_fmu_motion (s : State) (v : Nat) : (s.stepForward v).fmu.motion = s.fmu.motion := rfl
@[simp] theorem State.stepForward_fmu_rest (s : State) (v : Nat) : (s.stepForward v).fmu.rest = .none := rfl
@[simp] theorem State.stepForward_fmu_underrun (s : State) (v : Nat) :
    (s.stepForward v).fmu.underrun = s.fmu.underrun := rfl
@[simp] theorem State.stepForward_fmu_present (s : State) (v : Nat) :
    (s.stepForward v).fmu.present = s.fmu.present := rfl
@[simp] theorem State.stepForward_fmu_offset (s : State) (v : Nat) : (s.stepForward v).fmu.offset = s.fmu.offset := rfl
@[simp] theorem State.stepForward_fmu_energised (s : State) (v : Nat) : (s.stepForward v).fmu.energised = true := rfl
@[simp] theorem State.stepForward_fmu_settling (s : State) (v : Nat) : (s.stepForward v).fmu.settling = false := rfl
@[simp] theorem State.stepForward_fmu_idleTimer (s : State) (v : Nat) :
    (s.stepForward v).fmu.idleTimer = some Config.releaseTime := rfl

/-! A backward motor step (R110) -/

@[simp] theorem State.stepBackward_fmu_pos (s : State) : (s.stepBackward).fmu.pos = s.fmu.pos - 1 := rfl
@[simp] theorem State.stepBackward_fmu_speed (s : State) : (s.stepBackward).fmu.speed = s.startSpeed := rfl
@[simp] theorem State.stepBackward_fmu_backward (s : State) : (s.stepBackward).fmu.backward = true := rfl
@[simp] theorem State.stepBackward_fmu_mode (s : State) : (s.stepBackward).fmu.mode = s.fmu.mode := rfl
@[simp] theorem State.stepBackward_fmu_target (s : State) : (s.stepBackward).fmu.target = s.fmu.target := rfl
@[simp] theorem State.stepBackward_fmu_stop (s : State) : (s.stepBackward).fmu.stop = s.fmu.stop := rfl
@[simp] theorem State.stepBackward_fmu_why (s : State) : (s.stepBackward).fmu.why = s.fmu.why := rfl
@[simp] theorem State.stepBackward_fmu_move (s : State) : (s.stepBackward).fmu.move = s.fmu.move := rfl
@[simp] theorem State.stepBackward_fmu_motion (s : State) : (s.stepBackward).fmu.motion = s.fmu.motion := rfl
@[simp] theorem State.stepBackward_fmu_rest (s : State) : (s.stepBackward).fmu.rest = .none := rfl
@[simp] theorem State.stepBackward_fmu_underrun (s : State) : (s.stepBackward).fmu.underrun = s.fmu.underrun := rfl
@[simp] theorem State.stepBackward_fmu_present (s : State) : (s.stepBackward).fmu.present = s.fmu.present := rfl
@[simp] theorem State.stepBackward_fmu_offset (s : State) : (s.stepBackward).fmu.offset = s.fmu.offset := rfl
@[simp] theorem State.stepBackward_fmu_energised (s : State) : (s.stepBackward).fmu.energised = true := rfl
@[simp] theorem State.stepBackward_fmu_settling (s : State) : (s.stepBackward).fmu.settling = false := rfl
@[simp] theorem State.stepBackward_fmu_idleTimer (s : State) :
    (s.stepBackward).fmu.idleTimer = some Config.releaseTime := rfl

/-! Registration is lost (R131) -/

@[simp] theorem State.unregister_msu_raw (s : State) : (s.unregister).msu.raw = s.msu.raw := rfl
@[simp] theorem State.unregister_msu_cls (s : State) : (s.unregister).msu.cls = s.msu.cls := rfl
@[simp] theorem State.unregister_msu_cand (s : State) : (s.unregister).msu.cand = s.msu.cand := rfl
@[simp] theorem State.unregister_msu_agree (s : State) : (s.unregister).msu.agree = s.msu.agree := rfl
@[simp] theorem State.unregister_msu_candPos (s : State) : (s.unregister).msu.candPos = s.msu.candPos := rfl
@[simp] theorem State.unregister_msu_lastKind (s : State) : (s.unregister).msu.lastKind = s.msu.lastKind := rfl
@[simp] theorem State.unregister_msu_absent (s : State) : (s.unregister).msu.absent = s.msu.absent := rfl
@[simp] theorem State.unregister_msu_emptyRun (s : State) : (s.unregister).msu.emptyRun = s.msu.emptyRun := rfl
@[simp] theorem State.unregister_msu_edges (s : State) : (s.unregister).msu.edges = s.msu.edges := rfl
@[simp] theorem State.unregister_msu_lastEdge (s : State) : (s.unregister).msu.lastEdge = s.msu.lastEdge := rfl
@[simp] theorem State.unregister_msu_reg (s : State) : (s.unregister).msu.reg = .lost := rfl
@[simp] theorem State.unregister_msu_lastLen (s : State) : (s.unregister).msu.lastLen = s.msu.lastLen := rfl
@[simp] theorem State.unregister_msu_find (s : State) : (s.unregister).msu.find = s.msu.find := rfl
@[simp] theorem State.unregister_msu_calib (s : State) : (s.unregister).msu.calib = s.msu.calib := rfl
@[simp] theorem State.unregister_msu_idleTimer (s : State) : (s.unregister).msu.idleTimer = s.msu.idleTimer := rfl

/-! A decided top (R131) -/

@[simp] theorem State.registerAt_msu_raw (s : State) (p : Pos) : (s.registerAt p).msu.raw = s.msu.raw := rfl
@[simp] theorem State.registerAt_msu_cls (s : State) (p : Pos) : (s.registerAt p).msu.cls = s.msu.cls := rfl
@[simp] theorem State.registerAt_msu_cand (s : State) (p : Pos) : (s.registerAt p).msu.cand = s.msu.cand := rfl
@[simp] theorem State.registerAt_msu_agree (s : State) (p : Pos) : (s.registerAt p).msu.agree = s.msu.agree := rfl
@[simp] theorem State.registerAt_msu_candPos (s : State) (p : Pos) : (s.registerAt p).msu.candPos = s.msu.candPos := rfl
@[simp] theorem State.registerAt_msu_lastKind (s : State) (p : Pos) :
    (s.registerAt p).msu.lastKind = s.msu.lastKind := rfl
@[simp] theorem State.registerAt_msu_absent (s : State) (p : Pos) : (s.registerAt p).msu.absent = s.msu.absent := rfl
@[simp] theorem State.registerAt_msu_emptyRun (s : State) (p : Pos) :
    (s.registerAt p).msu.emptyRun = s.msu.emptyRun := rfl
@[simp] theorem State.registerAt_msu_edges (s : State) (p : Pos) : (s.registerAt p).msu.edges = s.msu.edges := rfl
@[simp] theorem State.registerAt_msu_lastEdge (s : State) (p : Pos) :
    (s.registerAt p).msu.lastEdge = s.msu.lastEdge := rfl
@[simp] theorem State.registerAt_msu_reg (s : State) (p : Pos) :
    (s.registerAt p).msu.reg = ⟨.registered, some p, true, 0⟩ := rfl
@[simp] theorem State.registerAt_msu_lastLen (s : State) (p : Pos) : (s.registerAt p).msu.lastLen = s.msu.lastLen := rfl
@[simp] theorem State.registerAt_msu_find (s : State) (p : Pos) : (s.registerAt p).msu.find = s.msu.find := rfl
@[simp] theorem State.registerAt_msu_calib (s : State) (p : Pos) : (s.registerAt p).msu.calib = s.msu.calib := rfl
@[simp] theorem State.registerAt_msu_idleTimer (s : State) (p : Pos) :
    (s.registerAt p).msu.idleTimer = s.msu.idleTimer := rfl

/-! The edge queue is emptied (R130) -/

@[simp] theorem State.emptyEdges_msu_raw (s : State) : (s.emptyEdges).msu.raw = s.msu.raw := rfl
@[simp] theorem State.emptyEdges_msu_cls (s : State) : (s.emptyEdges).msu.cls = s.msu.cls := rfl
@[simp] theorem State.emptyEdges_msu_cand (s : State) : (s.emptyEdges).msu.cand = s.msu.cand := rfl
@[simp] theorem State.emptyEdges_msu_agree (s : State) : (s.emptyEdges).msu.agree = s.msu.agree := rfl
@[simp] theorem State.emptyEdges_msu_candPos (s : State) : (s.emptyEdges).msu.candPos = s.msu.candPos := rfl
@[simp] theorem State.emptyEdges_msu_lastKind (s : State) : (s.emptyEdges).msu.lastKind = s.msu.lastKind := rfl
@[simp] theorem State.emptyEdges_msu_absent (s : State) : (s.emptyEdges).msu.absent = s.msu.absent := rfl
@[simp] theorem State.emptyEdges_msu_emptyRun (s : State) : (s.emptyEdges).msu.emptyRun = s.msu.emptyRun := rfl
@[simp] theorem State.emptyEdges_msu_edges (s : State) : (s.emptyEdges).msu.edges = [] := rfl
@[simp] theorem State.emptyEdges_msu_lastEdge (s : State) : (s.emptyEdges).msu.lastEdge = none := rfl
@[simp] theorem State.emptyEdges_msu_reg (s : State) : (s.emptyEdges).msu.reg = s.msu.reg := rfl
@[simp] theorem State.emptyEdges_msu_lastLen (s : State) : (s.emptyEdges).msu.lastLen = s.msu.lastLen := rfl
@[simp] theorem State.emptyEdges_msu_find (s : State) : (s.emptyEdges).msu.find = s.msu.find := rfl
@[simp] theorem State.emptyEdges_msu_calib (s : State) : (s.emptyEdges).msu.calib = s.msu.calib := rfl
@[simp] theorem State.emptyEdges_msu_idleTimer (s : State) : (s.emptyEdges).msu.idleTimer = s.msu.idleTimer := rfl

/-! A temperature sample (R106, R107) -/

@[simp] theorem State.sampleHead_hdu_history (s : State) (d : Int) : (s.sampleHead d).hdu.history = s.hdu.history := rfl
@[simp] theorem State.sampleHead_hdu_current (s : State) (d : Int) : (s.sampleHead d).hdu.current = s.hdu.current := rfl
@[simp] theorem State.sampleHead_hdu_strobe (s : State) (d : Int) : (s.sampleHead d).hdu.strobe = s.hdu.strobe := rfl
@[simp] theorem State.sampleHead_hdu_clock (s : State) (d : Int) : (s.sampleHead d).hdu.clock = s.hdu.clock := rfl
@[simp] theorem State.sampleHead_hdu_temp (s : State) (d : Int) : (s.sampleHead d).hdu.temp = clampDegrees d := rfl
@[simp] theorem State.sampleHead_hdu_strobed (s : State) (d : Int) : (s.sampleHead d).hdu.strobed = 0 := rfl
@[simp] theorem State.sampleHead_hdu_sampleTimer (s : State) (d : Int) :
    (s.sampleHead d).hdu.sampleTimer = some Config.sampleInterval := rfl

/-! A step that hands the head nothing (R98) -/

@[simp] theorem State.strobeNothing_hdu_history (s : State) : (s.strobeNothing).hdu.history = s.hdu.history := rfl
@[simp] theorem State.strobeNothing_hdu_current (s : State) : (s.strobeNothing).hdu.current = none := rfl
@[simp] theorem State.strobeNothing_hdu_strobe (s : State) : (s.strobeNothing).hdu.strobe = [] := rfl
@[simp] theorem State.strobeNothing_hdu_clock (s : State) : (s.strobeNothing).hdu.clock = s.hdu.clock := rfl
@[simp] theorem State.strobeNothing_hdu_temp (s : State) : (s.strobeNothing).hdu.temp = s.hdu.temp := rfl
@[simp] theorem State.strobeNothing_hdu_strobed (s : State) : (s.strobeNothing).hdu.strobed = s.hdu.strobed := rfl
@[simp] theorem State.strobeNothing_hdu_sampleTimer (s : State) :
    (s.strobeNothing).hdu.sampleTimer = s.hdu.sampleTimer := rfl
@[simp] theorem State.strobeNothing_hdu_thermal (s : State) : (s.strobeNothing).hdu.thermal = s.hdu.thermal := rfl

end Sys2Proof.Machine
end

