-- ==== Sys2Proof/Laws/Validate.lean ====
section
/-! SUPPORT. Carrying a command out, said once: the first check that fails, the two acts of a command, its end, and the end
that comes after what follows from its effect. -/

namespace Sys2Proof.Machine

/-! ### Checks in order -/

@[simp] theorem firstOf_nil : firstOf [] = none := rfl

@[simp] theorem firstOf_cons (c : Bool) (e : Ending) (l : List (Bool × Ending)) :
    firstOf ((c, e) :: l) = if c then some e else firstOf l := rfl

theorem firstOf_append (l k : List (Bool × Ending)) : firstOf (l ++ k) = (firstOf l).or (firstOf k) := by
  induction l with
  | nil => simp
  | cons a l ih =>
    obtain ⟨c, e⟩ := a
    cases c <;> simp [ih]

/-- No check fails exactly when every one holds. -/
theorem firstOf_eq_none {l : List (Bool × Ending)} : firstOf l = none ↔ ∀ c ∈ l, c.1 = false := by
  induction l with
  | nil => simp
  | cons a l ih =>
    obtain ⟨c, e⟩ := a
    cases c <;> simp [ih]

/-- The code in byte 0 of the block in hand. -/
theorem State.Ready.code {s : State} {c : Byte} (h : s.Ready c) : byteAt s.csq.block 0 = c := by
  obtain ⟨-, -, -, b⟩ := h
  cases hb : s.csq.block with
  | nil => simp [hb] at b
  | cons a l => simp [hb] at b; simp [byteAt, b]

theorem State.ReadyAgain.code {s : State} {c : Byte} (h : s.ReadyAgain c) : byteAt s.csq.block 0 = c := by
  obtain ⟨-, -, -, b⟩ := h
  cases hb : s.csq.block with
  | nil => simp [hb] at b
  | cons a l => simp [hb] at b; simp [byteAt, b]

/-- R24: outside FAULTED, or for the four codes, steps 3 and 4 are the ranges alone. -/
theorem State.gateAndRanges_passes {s : State} {b : List Byte}
    (h : s.eng.cond ≠ .faulted ∨ byteAt b 0 ∈ faultGateCodes) :
    firstOf (s.gateAndRanges b) = firstOf (s.ranges b) := by
  rcases h with h | h <;> simp [State.gateAndRanges, State.faultGate, h]

/-! ### The acts of a command -/

theorem State.served_inService {s : State} (h : s.InService) (f : State → State) : s.served f = f s := by
  simp [State.served, State.running, h]

theorem State.inHand_validate {s : State} {code : Byte} (h : s.Ready code) : s.inHand code .validate = true := by
  obtain ⟨-, p, st, b⟩ := h
  simp [State.inHand, p, st, b]

theorem State.inHand_finish {s : State} {code : Byte} (h : s.ReadyAgain code) : s.inHand code .finish = true := by
  obtain ⟨-, p, st, b⟩ := h
  simp [State.inHand, p, st, b]

theorem State.inHand_not_validate {s : State} {code : Byte} (h : s.ReadyAgain code) :
    s.inHand code .validate = false := by
  obtain ⟨-, p, st, b⟩ := h
  simp [State.inHand, st]

theorem State.act_commits {s : State} {checks : List (Bool × Ending)} {commit : State → State}
    (c : firstOf checks = none) (b : s.hpu.breakPending = false) : s.act checks commit = commit s := by
  simp [State.act, c, b]

theorem State.act_refuses {s : State} {checks : List (Bool × Ending)} {commit : State → State} {e : Ending}
    (c : firstOf checks = some e) : s.act checks commit = s.finish e := by
  simp [State.act, c]

/-- R29: what a command without a payload does when its block is in hand. -/
theorem State.plain_ready {s : State} {code : Byte} (h : s.Ready code) (checks : List (Bool × Ending))
    (commit : State → State) :
    s.plain code checks commit = s.act (s.gateAndRanges s.csq.block ++ checks) commit := by
  simp [State.plain, State.inHand_validate h]

/-- R26: the first act of a command with a payload. -/
theorem State.withPayload_ready {s : State} {code : Byte} (h : s.Ready code) (checks : List (Bool × Ending))
    (length : Nat) (again : List (Bool × Ending)) (commit : State → State) :
    s.withPayload code checks length again commit =
      s.act (s.gateAndRanges s.csq.block ++ checks) fun s => s.enterDataOut length := by
  simp [State.withPayload, State.inHand_validate h]

/-- R28: its second act. -/
theorem State.withPayload_again {s : State} {code : Byte} (h : s.ReadyAgain code) (checks : List (Bool × Ending))
    (length : Nat) (again : List (Bool × Ending)) (commit : State → State) :
    s.withPayload code checks length again commit = s.act (s.csq.crcCheck :: again) commit := by
  simp [State.withPayload, State.inHand_not_validate h, State.inHand_finish h]

/-! ### How a command ends -/

theorem State.SameEngine.refl (s : State) : s.SameEngine s := by simp [State.SameEngine]

theorem State.complete_sameEngine (s : State) (keep : Bool) (e : Ending) : s.SameEngine (s.complete keep e) := by
  simp [State.SameEngine]

theorem State.finish_sameEngine (s : State) (e : Ending) : s.SameEngine (s.finish e) := by
  simp [State.SameEngine]

theorem State.complete_enters (s : State) (keep : Bool) (e : Ending) :
    s.EntersCompletion (s.complete keep e) e (if keep then s.csq.sense else e.sense (byteAt s.csq.block 0)) := by
  simp [State.EntersCompletion, State.complete, State.completionByteFor, Hpu.completionEnable]

/-- R39: every command but a REQUEST SENSE ends with a sense record that describes it. -/
theorem State.finish_endsWith {s : State} (h : s.csq.block.head? ≠ some 0x12) (e : Ending) :
    s.EndsWith (s.finish e) e := by
  have k : s.requestSenseInHand = false := by simpa [State.requestSenseInHand] using h
  have g := s.complete_enters false e
  simpa [State.EndsWith, State.finish, k] using g

/-- R41: a REQUEST SENSE leaves the record. -/
theorem State.finish_keepsSense {s : State} (h : s.csq.block.head? = some 0x12) (e : Ending) :
    s.EntersCompletion (s.finish e) e s.csq.sense := by
  have k : s.requestSenseInHand = true := by simpa [State.requestSenseInHand] using h
  have g := s.complete_enters true e
  simpa [State.finish, k] using g

theorem State.enterDataIn_handsOver (s : State) (bytes : List Byte) :
    s.SameEngine (s.enterDataIn bytes) ∧ s.HandsOver (s.enterDataIn bytes) bytes :=
  ⟨by simp [State.SameEngine], rfl, rfl⟩

theorem State.enterDataOut_asks (s : State) (length : Nat) :
    s.SameEngine (s.enterDataOut length) ∧ s.AsksFor (s.enterDataOut length) length :=
  ⟨by simp [State.SameEngine], rfl, rfl⟩

/-- Entry into COMPLETION looks at the port and the sequencer alone, and at the engine for the completion byte. -/
theorem State.EndsWith.of_same {s u t : State} {e : Ending} (hp : u.hpu = s.hpu) (hc : u.csq = s.csq)
    (h : u.EndsWith t e) : s.EndsWith t e := by
  simpa [State.EndsWith, State.EntersCompletion, hp, hc] using h

/-- R29, R31: a command that completes at its commit point ends after what follows from its effect. -/
theorem State.completeAfter_ends {s : State} {effect : State → State × Ending}
    (hp : (effect s).1.hpu = s.hpu) (hc : (effect s).1.csq = s.csq) (w : s.csq.stage ≠ .waiting)
    (c : s.csq.stage ≠ .compacting) (r : s.csq.block.head? ≠ some 0x12) :
    s.EndsWith (s.completeAfter effect) (effect s).2 ∧ (effect s).1.OnlyFollows (s.completeAfter effect) := by
  obtain ⟨h1, h2, h3⟩ := State.conclude_follows (s := (effect s).1) (by rwa [hc]) (by rwa [hc])
  constructor
  · refine State.EndsWith.of_same (u := (effect s).1.conclude) (by rw [h1, hp]) (by rw [h2, hc])
      (State.finish_endsWith (by rwa [h2, hc]) _)
  · exact h3.congr (State.SameEngine.refl _) (State.finish_sameEngine _ _)

/-- The same where no run is on and none may start. -/
theorem State.completeAfter_rests {s : State} {effect : State → State × Ending}
    (hc : (effect s).1.csq = s.csq) (w : s.csq.stage ≠ .waiting) (c : s.csq.stage ≠ .compacting)
    (n : (effect s).1.inRun = false) (m : (effect s).1.mayRun = false) :
    (effect s).1.OnlyRests (s.completeAfter effect) := by
  have h := State.conclude_rests (s := (effect s).1) (by rwa [hc]) (by rwa [hc]) n m
  exact h.congr (State.SameEngine.refl _) (State.finish_sameEngine _ _)

end Sys2Proof.Machine
end

