-- ==== Sys2Proof/Laws/Supervisor.lean ====
section
/-! SUPPORT. The ends of motion and the halts, said once: how a free motion that is over is reported (R33 to R35), how a
movement is cut short (R121), and what a halt leaves (R145). -/

namespace Sys2Proof.Machine

/-- R112: entry into STOPPED changes the motor alone. -/
theorem State.toStopped_eq (s : State) : s.toStopped = { s with fmu := s.fmu.atRest } := rfl

/-- R33 to R35: a free motion in progress is over, and reported to its owner. -/
theorem State.endMotion_over (s : State) (e : Ending) : s.MotionOver (s.endMotion e) e := by
  cases m : s.fmu.motion with
  | none => simp [State.MotionOver, State.endMotion, m]
  | some f =>
    obtain ⟨code, owner⟩ := f
    cases owner with
    | attached =>
      simp only [State.MotionOver, State.endMotion, m]
      exact fun h => ⟨State.finish_endsWith (by simpa using h) e, State.finish_sameEngine _ e⟩
    | detached => cases e <;> simp [State.MotionOver, State.endMotion, m, moveEvent]
    | engine => simp [State.MotionOver, State.endMotion, m]

/-- R121, R123: a movement cut short, and the motor at rest. -/
theorem State.cutShort_toStopped (s : State) : s.cutShort.toStopped = s.movementCut := by
  simp only [State.cutShort, State.movementCut, State.presentCut]
  cases h : s.fmu.present <;>
    simp [State.toStopped, State.unregister, Registration.lost, Fmu.atRest, h]

/-- R121: a free move that the head or media out ends. -/
theorem State.failFreeMove_over (s : State) (code : SenseCode) :
    s.freeMoveFailed.MotionOver (s.failFreeMove code) (.error code none (.position s.fmu.pos)) := by
  have h : ({ s.cutShort.unregister.toStopped with
      fmu := { s.cutShort.unregister.toStopped.fmu with present := .atPrintLine } } : State) = s.freeMoveFailed := by
    simp only [State.cutShort, State.freeMoveFailed]
    cases p : s.fmu.present <;> simp [State.toStopped, State.unregister, Registration.lost, Fmu.atRest]
  have g := s.freeMoveFailed.endMotion_over (.error code none (.position s.fmu.pos))
  rw [← h] at g ⊢
  simpa [State.failFreeMove] using g

theorem State.abortFreeMove_over (s : State) :
    s.movementCut.MotionOver s.abortFreeMove (.error .aborted none .nothing) := by
  have h := s.movementCut.endMotion_over (refusal .aborted)
  simpa [State.abortFreeMove, State.cutShort_toStopped, refusal] using h

theorem State.failSearch_over (s : State) :
    s.movementCut.MotionOver s.failSearch (.error .edgeNotFound none (.position s.fmu.pos)) := by
  have h := s.movementCut.endMotion_over (.error .edgeNotFound none (.position s.fmu.pos))
  simpa [State.failSearch, State.cutShort_toStopped] using h

/-- What follows when a free motion is over, in the same step. -/
theorem State.MotionOver.ends {u v : State} {e : Ending} (h : u.MotionOver v e) (w : v.csq.stage ≠ .waiting)
    (c : v.csq.stage ≠ .compacting) : u.MotionEnds v.conclude e :=
  ⟨v, h, State.conclude_follows w c⟩

/-- R145 step 1, by the dead stop or fault stop that the causes order. -/
theorem State.stopForHalt_eq (s : State) (cs : List Cause) :
    let still := Cause.headOpen ∈ cs ∨ s.fmu.backward = true ∨ s.fmu.speed ≤ s.nvs.mech.startSpeed ∨
      s.fmu.mode = .stopped
    s.stopForHalt cs = { s with
      fmu := if still then s.fmu.atRest
        else if s.fmu.stop = some .fault ∨ s.fmu.stop = some .dead then { s.fmu with why := some .halt }
        else { s.fmu with mode := .stopping, stop := some .fault, why := some .halt } } := by
  intro still
  have ignored : s.stopIgnored .fault = decide (s.fmu.stop = some .fault ∨ s.fmu.stop = some .dead) := by
    rw [State.stopIgnored]
    cases s.fmu.stop with
    | none => simp
    | some k => cases k <;> simp [StopKind.strength]
  by_cases d : Cause.headOpen ∈ cs
  · simp [State.stopForHalt, State.stopsAtOnce, d, still, State.toStopped, Fmu.atRest]
  · have once : s.stopsAtOnce .fault = decide still := by
      rw [Bool.eq_iff_iff]
      have apart : StopKind.fault ≠ .dead := by decide
      simp only [State.stopsAtOnce, State.startSpeed, still, d, apart, false_or, Bool.or_eq_true, beq_iff_eq, or_assoc]
      by_cases v : s.fmu.speed ≤ s.nvs.mech.startSpeed <;> simp [v]
    by_cases h : still
    · simp [State.stopForHalt, d, once, h, State.toStopped, Fmu.atRest]
    · by_cases g : s.fmu.stop = some .fault ∨ s.fmu.stop = some .dead <;>
        simp [State.stopForHalt, d, once, h, ignored, g, State.beginStop]

/-- R95, R97: a flushed ring is empty, and the cursor is at the start of the remaining print order. -/
theorem State.reseat_flushed (s : State) (p : s.lbq.printing = none) :
    (({ s with ring := s.ring.flush } : State).reseat).ring =
      ⟨List.replicate 16 .blank, s.ring.tail, s.ring.tail,
        s.lbq.queue.head?.bind fun i => (s.lbq.label i).map fun l => ⟨i, l.done + 1, 0⟩⟩ := by
  have blank (i : Nat) : (s.ring.flush).band i = .blank := by
    simp [Ring.band, Ring.flush, List.getD_eq_getElem?_getD, List.getElem?_replicate]
    split <;> rfl
  have run : (s.ring.flush).run = [] := by
    simp [Ring.run, Ring.inOrder, blank, List.range_succ_eq_map, Band.blank]
  simp only [State.reseat, run, List.filter_nil, List.getLast?_nil, Lbq.firstSeat, p, Lbq.nextCopy]
  simp only [Ring.flush, Config.ringBands]
  congr 1
  cases s.lbq.queue.head? with
  | none => rfl
  | some i => simp [Lbq.firstCopy, Function.comp_def]

/-- R152: posting changes the event queue and its overflow count alone. -/
theorem State.post_eq (s : State) (e : Event) : s.post e = { s with eng := { s.eng with
    events := if s.eng.events.length < 16 then s.eng.events ++ [e] else s.eng.events
    overflow := if s.eng.events.length < 16 then s.eng.overflow else min 65535 (s.eng.overflow + 1) } } := by
  simp only [State.post]
  split <;> rfl

/-- R123, R131: a search in hand is over, a present or retract is cut short, and registration is UNKNOWN. -/
theorem State.cutShort_unregister (s : State) : s.cutShort.unregister = { s with
    fmu := { s.fmu with present := if s.presentCut then .atPrintLine else s.fmu.present }
    msu := { s.msu with find := none, calib := none, reg := ⟨.unknown, none, false, 0⟩ } } := by
  simp only [State.cutShort, State.presentCut]
  cases h : s.fmu.present <;> simp [State.unregister, Registration.lost] <;> rw [← h]

end Sys2Proof.Machine
end

