-- ==== Sys2Proof/Tests/Slice0.lean ====
section
/-! SUPPORT. The model's own tests: the operands that WellFormed refuses, the manual's worked examples and tables, one step
at a time on small states, and for each statement a state and operands that meet all its hypotheses. -/

namespace Sys2Proof.Tests

open Sys2Proof Sys2Proof.Machine

-- One theorem after another: run side by side, their kernel evaluations would wait on one another, a thread each.
set_option Elab.async false

/-! ### WellFormed: one ill-formed term for each check -/

def quietInputs (torn : List Byte := []) : Inputs := ⟨false, 0, 25, torn⟩

theorem test_wellFormed_record : (Instr.loadProfile [⟨5, false, 0, 1⟩]).wellFormed = false := by decide
theorem test_wellFormed_index : (Instr.verifyProfiles [⟨0, true, 14, 1⟩]).wellFormed = false := by decide
theorem test_wellFormed_index_profile : (Instr.storeProfile false [⟨4, true, 20, 1⟩]).wellFormed = false := by decide
theorem test_wellFormed_decay : (Instr.setMechanismParameters true [⟨1, true, 19, 1⟩, ⟨9, true, 0, 1⟩]).wellFormed = false := by
  decide
/-- What a power-up finds where only these bytes, this store and this torn copy are not as they should be. -/
def foundAt (misreads : List Misread) (decay : List Decay) (torn : List Byte) (ends : Bool := true) : PowerUp :=
  ⟨quietInputs torn, false, misreads, decay, ends⟩

theorem test_wellFormed_pass : (Instr.pinReset (foundAt [⟨4, 0, 1⟩] [] [])).wellFormed = false := by decide
theorem test_wellFormed_offset : (Instr.powerOnReset (foundAt [⟨0, 51200, 1⟩] [] [])).wellFormed = false := by decide
theorem test_wellFormed_torn : (Instr.powerOnReset (foundAt [] [] (List.replicate 21 0))).wellFormed = false ∧
    (Instr.portReset 0 (quietInputs (List.replicate 21 0))).wellFormed = false := by decide
theorem test_wellFormed_copy : (Instr.recordCopyWrite (List.replicate 21 0)).wellFormed = false := by decide
theorem test_wellFormed_patterns : (Instr.ramByteTest ⟨List.replicate 19 0, 0⟩).wellFormed = false := by decide
theorem test_wellFormed_passes :
    (Instr.pinReset (foundAt [⟨3, 51199, 255⟩] [⟨0, false, 13, 1⟩] (List.replicate 20 0))).wellFormed = true ∧
    (Instr.ramByteTest ⟨List.replicate 18 0, 1⟩).wellFormed = true := by decide

/-- No row has bits in the table. -/
theorem test_decode_refuses : decodeTableWord 8 0x11 = none := rfl

/-! ### Small states -/

/-- The machine right after reset. -/
abbrev r : State := State.reset

/-- In this phase. -/
def inPhase (p : Phase) : State := { r with hpu := { r.hpu with phase := p } }

/-- A block with its check byte (R22). -/
def block (code control : Byte) (params : List Byte) : List Byte :=
  let b := code :: control :: params ++ List.replicate (9 - params.length) 0
  b ++ [0 - checkSum b]

/-- This block in hand, its act due (R23). -/
def ready (s : State) (code : Byte) (params : List Byte := []) (control : Byte := 0) : State :=
  { s with
    hpu := { s.hpu with phase := .execute }
    csq := { s.csq with block := block code control params, stage := .validate } }

/-- This payload in hand with its trailer, the second act due (R28). -/
def again (s : State) (code : Byte) (params payload : List Byte) : State :=
  { s with
    hpu := { s.hpu with phase := .execute }
    csq := { s.csq with
      block := block code 0 params, stage := .finish, payload := payload ++ lowHigh (crc16 payload) } }

/-- What a row leaves; the state itself where it does not answer next. -/
def after (i : Instr) (s : State) : State :=
  match exec i s with
  | .next t => t
  | .fault _ | .refused _ => s

/-- An open label in slot 0. -/
def openOne (placements : List Placement := []) (granules : Nat := 0) : State :=
  { r with lbq := { r.lbq with
    slots := r.lbq.slots.set 0 (some ⟨300, 600, 10, 0, .opened, false, placements, granules⟩)
    poolFree := 1024 - granules } }

/-- A label of 40 lines and two copies, in slot 0 and in the print queue. -/
def queuedLabel : Label := ⟨21, 40, 2, 0, .active, false, [.rule 0 0 8 40 2], 2⟩
def queued : State :=
  { r with lbq := { r.lbq with
    slots := r.lbq.slots.set 0 (some queuedLabel), queue := [0], poolFree := 1022 } }

/-- Glyph 7, 16 dots by 2 lines, at granule 2, with one reference. -/
def glyph7 (state : GlyphState) (count : Nat) : State :=
  { r with gst := { r.gst with
    entries := r.gst.entries.set 7 ⟨state, 16, 2, 4, 2, count⟩, free := [⟨0, 2⟩, ⟨3, 2045⟩] } }

/-- A free move in hand. -/
def moving (owner : Owner) (code : Byte) (speed : Nat) : State :=
  { r with fmu := { r.fmu with
    mode := .freeMove, move := .feed false 0, target := some 100, motion := some ⟨code, owner⟩, speed := speed
    energised := true } }

/-- HALTED by an opened head that is closed again. -/
def halted : State :=
  { r with eng := { r.eng with cond := .halted, causes := 1, primary := some .headOpen, haltPos := 5 } }

/-- A working profile in this sensor mode. -/
def withMode (m : SensorMode) : State := { r with nvs := { r.nvs with profile := { r.nvs.profile with mode := m } } }

/-! ### The manual's worked examples -/

/-- Section 2.1.1: REQUEST SENSE and a detached RESUME with DISCARD. -/
theorem test_check_bytes : (block 0x12 0 []).getLast? = some 0xEE ∧ (block 0x56 0x83 []).getLast? = some 0x27 := by decide

/-- Table 2-2. -/
theorem test_crc_values : crc16 [0x01] = 0x1021 ∧ crc16 [0xFF] = 0x1EF0 ∧ crc16 [0x01, 0x02] = 0x1373 ∧
    crc16 [0x31, 0x32, 0x33, 0x34, 0x35, 0x36, 0x37, 0x38, 0x39] = 0x31C3 := by decide +kernel

/-- Section 3.7.1: after glyph 1 is deleted, and what the two definitions of glyph 4 need. -/
theorem test_free_list : freeInsert 6 4 [⟨1055, 993⟩] = [⟨6, 4⟩, ⟨1055, 993⟩] ∧
    totalFree [⟨6, 4⟩, ⟨1055, 993⟩] * 8 = 7976 ∧ longestFree [⟨6, 4⟩, ⟨1055, 993⟩] * 8 = 7944 ∧
    freeInsert 1051 4 [⟨1055, 993⟩] = [⟨1051, 997⟩] := by decide

/-- Section 3.7.2: DELETE GLYPH of a glyph in use. -/
theorem test_delete_in_use :
    let t := after .deleteGlyph (ready (glyph7 .defined 3) 0x32 [7])
    t.csq.sense = ⟨.recovered, 0x32, none, .detail 0x00000703⟩ ∧ (t.gst.entry 7).state = .doomed ∧
    (t.gst.entry 7).count = 3 := by decide +kernel

/-- Section 4.9.1. -/
theorem test_pool_cost : (Placement.text 0 0 0 ⟨0, 1, 1⟩ 0 (List.replicate 20 0)).cost = 40 ∧
    (Placement.rule 0 0 800 4 0).cost = 16 ∧ (Placement.image 0 0 100 60 0 []).cost = 800 := by decide

/-- Section 4.9.1: a rule that runs past the last dot is stored with NOTICE, remark kind 1. -/
theorem test_clipped_rule :
    let t := after .placeRule (ready openOne 0x44 [40, 0, 0, 0, 0x20, 0x03, 4, 0, 1])
    t.csq.sense = ⟨.recovered, 0x44, none, .detail 1⟩ ∧ t.lbq.poolFree = 1022 := by decide +kernel

/-- Section 4.9.1: a PLACE GLYPH at y = 600. -/
theorem test_outside_label :
    (after .placeGlyph (ready openOne 0x42 [7, 0, 0, 0x58, 0x02, 1, 0])).csq.sense
      = ⟨.placementOutsideLabel, 0x42, some 300, .detail 5⟩ := by decide +kernel

/-- Section 5.5.4: a glyph 5 by 7 at rotation 1, magnified 2 by 1. -/
theorem test_turned_glyph :
    let e : Glyph := ⟨.defined, 5, 7, 7, 0, 0⟩
    scaledPosition e ⟨1, 2, 1⟩ 0 0 = (0, 6) ∧ scaledPosition e ⟨1, 2, 1⟩ 6 0 = (0, 0) ∧
    scaledPosition e ⟨1, 2, 1⟩ 6 9 = (9, 0) ∧ scaledPosition e ⟨1, 2, 1⟩ 3 5 = (5, 3) ∧
    glyphFootprint e ⟨1, 2, 1⟩ 200 40 = ⟨200, 40, 7, 10⟩ := by decide

/-- Section 5.5.6: text turned upside down. -/
theorem test_turned_text :
    let g : Gst := { r.gst with entries :=
      [⟨.defined, 10, 16, 32, 0, 0⟩, ⟨.defined, 8, 16, 16, 4, 0⟩, ⟨.defined, 12, 16, 32, 6, 0⟩] }
    (textLayout g ⟨2, 1, 2⟩ 2 500 100 500 [0, 1, 2]).map (·.2) =
      [⟨491, 100, 10, 32⟩, ⟨481, 100, 8, 32⟩, ⟨467, 100, 12, 32⟩] := by decide

/-- Section 6.4.1: strobe times, passes and caps. -/
theorem test_strobe_times : fullStrobe 15 35 = 450 ∧ heldStrobe 15 35 = 315 ∧ passSegments 600 416 = [[0, 2], [1, 3]] ∧
    lineCap 600 416 15 35 = some 1111 ∧ fullStrobe 15 8 = 585 ∧ heldStrobe 15 8 = 409 ∧ lineTime 600 208 15 8 = 2340 ∧
    lineCap 600 208 15 8 = some 427 := by decide

/-- Section 6.5.3: the samples of a hold, and of a head that became critical. -/
theorem test_thermal_states :
    nextThermal 60 75 58 .normal = .normal ∧ nextThermal 60 75 60 .normal = .hot ∧ nextThermal 60 75 57 .hot = .hot ∧
    nextThermal 60 75 53 .hot = .hot ∧ nextThermal 60 75 52 .hot = .normal ∧ nextThermal 60 75 76 .hot = .critical ∧
    nextThermal 60 75 53 .critical = .critical ∧ nextThermal 60 75 52 .critical = .normal := by decide

/-- Section 7.4.4: the first step of a free FEED, and its 51st. -/
theorem test_feed_ramp : (moving .detached 0x51 0).freeSpeed = 200 ∧
    ({ moving .detached 0x51 592 with fmu := { (moving .detached 0x51 592).fmu with pos := 50 } } : State).freeSpeed = 592 := by
  decide +kernel

/-- Section 7.4.4: the look-ahead term of a line 30 steps ahead whose cap is 427, and the stop with D as the floor. -/
theorem test_look_ahead :
    let s : State := { r with
      nvs := { r.nvs with mech := { r.nvs.mech with powerLimit := 208 } }, hdu := { r.hdu with temp := 8 } }
    s.lookAhead ⟨200, [(30, 600)], .nothingLeft⟩ = 659 ∧
    ({ r with fmu := { r.fmu with speed := 800 } } : State).runSpeed ⟨7, [], .nothingLeft⟩ = 752 := by decide +kernel

/-- R165 step 1: the pattern of each pass at offset 0x1234; a byte that reads back with a bit changed stops its pass. -/
theorem test_power_up_passes :
    (List.range 4).map (passPattern · 0x1234) = [0x55, 0xAA, 0x34, 0x00] ∧
    ramOutcome [⟨2, 700, 1⟩, ⟨2, 699, 8⟩, ⟨3, 5, 1⟩] = .failed 2 699 ∧ ramOutcome [⟨1, 3, 0⟩] = .passed := by decide

/-- R166: all 0s, each single 1 bit, all 1s, each single 0 bit. -/
theorem test_ram_patterns : patternsReadBack ramPatterns [] = true ∧
    patternsReadBack ramPatterns (List.replicate 17 0 ++ [1]) = false ∧ ramPatterns.length = 18 ∧
    ramPatterns.getD 10 0 = 0xFE := by decide

/-- R125, R116: a cancel that leaves a starved run with no step to take ends its settling, and the release comes. -/
theorem test_release_of_a_starved_run :
    let s : State := { r with
      eng := { r.eng with cond := .running }
      lbq := { r.lbq with slots := r.lbq.slots.set 0 (some ⟨21, 40, 2, 0, .active, false, [], 0⟩), queue := [0] }
      ring := { r.ring with seat := some ⟨0, 1, 0⟩ }
      fmu := { r.fmu with
        mode := .printRun, move := .run, energised := true, settling := true, idleTimer := some 2000 }
      msu := { r.msu with reg := ⟨.registered, some 1, true, 0⟩ } }
    s.conclude.fmu.rest = .starved ∧ (after .motorRelease s.conclude).fmu.energised = false := by decide +kernel

/-- R131: media out during a RETRACT that has not stepped yet makes registration UNKNOWN. -/
theorem test_media_out_in_a_retract :
    let s : State := { r with
      fmu := { r.fmu with
        mode := .freeMove, move := .retract, target := some (-9), motion := some ⟨0x55, .detached⟩, energised := true
        present := .retracting, offset := 9 }
      msu := { r.msu with
        reg := ⟨.registered, some 1, true, 0⟩, cand := some .empty, agree := 2, lastKind := .idle } }
    let t := after (.idleSample 255) s
    t.msu.absent = true ∧ t.msu.reg.state = .unknown ∧ t.fmu.motion.isSome = true := by decide +kernel

/-- R20: after the release of the reset input the port shows BUSY, and ignores a Select, until the sequence ends. -/
theorem test_power_up_in_progress :
    let s := after (.pinReset (foundAt [] [] [] false)) (after .resetInputHeld r)
    portStatus s = 0x08 ∧ after .select s = s ∧ (after (.pinReset (foundAt [] [] [])) s).InService := by decide +kernel

/-- Section 5.6.1: the ring behind a finishing copy: the two bands of copy 1 stay, the tail moves back to band c, and the
cursor is seated at label 22. -/
def finishingRing : State :=
  { r with
    lbq := { r.lbq with
      slots := [some { queuedLabel with done := 0 }, some { queuedLabel with number := 22, state := .queued }]
        ++ List.replicate 6 none
      queue := [0, 1], printing := some ⟨0, 1, 21⟩ }
    ring := { r.ring with
      bands := [⟨.printing, 0, 21, 1, 16, 16, []⟩, ⟨.ready, 0, 21, 1, 32, 8, []⟩, ⟨.ready, 0, 21, 2, 0, 16, []⟩,
        ⟨.composing, 0, 21, 2, 16, 16, []⟩] ++ List.replicate 12 .blank
      tail := 4, seat := some ⟨0, 2, 16⟩ } }

theorem test_truncation :
    let t := finishingRing.cancelTargets false [0]
    t.ring.tail = 2 ∧ t.ring.seat = some ⟨1, 1, 0⟩ ∧ (t.ring.band 2).state = .free ∧ (t.ring.band 1).state = .ready := by
  decide +kernel

theorem test_truncation_immediate :
    let t := finishingRing.cancelTargets true [0]
    t.ring.tail = 0 ∧ t.ring.seat = some ⟨1, 1, 0⟩ ∧ t.lbq.queue = [1] := by decide +kernel

/-- R111 part 4, R134: an edge find at its target in the very step that sets media out has taken its edge; the move fails
with MEDIA OUT in part 5. -/
theorem test_find_ends_before_the_fault_stop :
    let s : State := { moving .detached 0x52 200 with
      fmu := { (moving .detached 0x52 200).fmu with move := .find, target := some 0, pos := -1 }
      msu := { r.msu with find := some ⟨0, some 1, 0⟩, edges := [1, 900], cls := .empty, emptyRun := 47 } }
    let t := after (.lineStep 255 5000) s
    t.msu.edges = [900] ∧ t.msu.absent = true ∧ t.msu.reg.state = .unknown ∧ t.fmu.mode = .stopped ∧
    t.eng.events.getLast? = some ⟨.moveFailed, 0x52, 0xFFFF, 0x12⟩ := by decide +kernel

/-! ### What meets the hypotheses of each statement -/

theorem witness_StepRunsTheFrontRow : (r.enqueueFront .select).pending = [Instr.select] ∧ r.pending = [] := by decide

theorem witness_SelectOpensTheCommandPhase :
    (r.InService ∧ r.hpu.phase = .free) ∧
    (let s : State := { r with hpu := { r.hpu with phase := .execute, misuse := true } }
     s.InService ∧ s.hpu.phase ≠ .free ∧ s.hpu.misuse = true) ∧
    ((inPhase .completion).InService ∧ (inPhase .completion).hpu.phase ≠ .free ∧
      (inPhase .completion).hpu.misuse = false) ∧
    ¬ (after .resetInputHeld r).InService := by decide

theorem witness_NotifyMaskWriteSetsTheEnables : r.InService ∧ ¬ (after .resetInputHeld r).InService := by decide

/-- The first byte, the eleventh and the twelfth. -/
def commandAt (n : Nat) : State := { r with hpu := { r.hpu with phase := .command, counter := n } }

theorem witness_CommandBytesAreValidatedInOrder :
    ((commandAt 0).InService ∧ (commandAt 0).hpu.phase = .command ∧ (commandAt 0).hpu.counter < 11) ∧
    (commandAt 10).hpu.counter < 11 ∧ (commandAt 11).InService ∧ (commandAt 11).hpu.phase = .command ∧
    (commandAt 11).hpu.counter = 11 := by decide

theorem witness_PayloadBytesAreTaken : (inPhase .dataOut).InService ∧ (inPhase .dataOut).hpu.phase = .dataOut := by decide

theorem witness_ResultBytesAreGiven : (inPhase .dataIn).InService ∧ (inPhase .dataIn).hpu.phase = .dataIn := by decide

theorem witness_CompletionByteReadFreesThePort :
    (inPhase .completion).InService ∧ (inPhase .completion).hpu.phase = .completion := by decide

theorem witness_RefusedAccessIsAMisuse :
    r.InService ∧ r.hpu.phase ∉ [Phase.command, .dataOut] ∧ r.hpu.phase ≠ .dataOut ∧
    r.hpu.phase ∉ [Phase.dataIn, .completion] ∧ r.hpu.phase ≠ .dataIn ∧ r.hpu.misuse = false ∧
    ({ r with hpu := { r.hpu with misuse := true } } : State).hpu.misuse = true := by decide

theorem witness_TransfersEndEarly :
    (r.InService ∧ (r.hpu.phase = .free ∨ r.hpu.phase = .completion)) ∧
    ((commandAt 11).InService ∧ ((commandAt 11).hpu.phase = .command ∨ (commandAt 11).hpu.phase = .dataOut ∨
      (commandAt 11).hpu.phase = .dataIn) ∧ ((commandAt 11).hpu.phase = .command → (commandAt 11).csq.block = [])) ∧
    (let s : State := { commandAt 3 with hpu := { (commandAt 3).hpu with byteTimer := some 1000 } }
     s.InService ∧ s.hpu.byteTimer ≠ none ∧ (s.hpu.phase = .command → s.csq.block = [])) ∧ r.hpu.byteTimer = none := by
  decide

/-- In EXECUTE at this stage, a Break pending or not. -/
def atStage (st : Stage) (pending : Bool := false) : State :=
  { r with hpu := { r.hpu with phase := .execute, breakPending := pending }, csq := { r.csq with stage := st } }

/-- An attached FEED on its way at this speed. -/
def attached (speed : Nat) : State :=
  { moving .attached 0x51 speed with
    hpu := { r.hpu with phase := .execute }, csq := { r.csq with stage := .moving, block := block 0x51 0 [100] } }

/-- An attached RESUME in RECOVERING, the motor in this mode at this speed. -/
def recovering (mode : Mode) (speed : Nat) : State :=
  { attached speed with
    csq := { (attached speed).csq with block := block 0x56 0 [] }
    fmu := { (attached speed).fmu with
      mode := mode, move := .find, target := none, motion := some ⟨0x56, .attached⟩ }
    eng := { r.eng with cond := .recovering } }

/-- The move of glyph 7 in hand. -/
def compacting : State :=
  let s := glyph7 .defined 0
  { s with
    hpu := { s.hpu with phase := .execute }
    csq := { s.csq with block := block 0x33 0 [], stage := .compacting }
    gst := { s.gst with cursor := some 0, moving := some 7 } }

theorem witness_BreakInExecuteActsAtASafePoint :
    ((atStage .validate).InService ∧ (atStage .validate).hpu.phase = .execute ∧
      (atStage .validate).hpu.breakPending = false ∧ (atStage .validate).csq.stage = .validate) ∧
    (atStage (.writing ⟨0, false, []⟩)).csq.stage = .writing ⟨0, false, []⟩ ∧
    ((atStage .waiting).InService ∧ (atStage .waiting).csq.stage = .waiting ∧
      (atStage .waiting).csq.block.head? ≠ some 0x12) ∧
    (atStage (.ramTesting 51199)).csq.stage = .ramTesting 51199 ∧
    ((atStage .compacting).csq.stage = .compacting ∧ (atStage .compacting).gst.moving = none) ∧
    ((atStage .finish true).InService ∧ (atStage .finish true).hpu.breakPending = true ∧
      (atStage .finish true).csq.stage ≠ .waiting ∧ (atStage .finish true).csq.stage ≠ .compacting) ∧
    (compacting.InService ∧ compacting.hpu.phase = .execute ∧ compacting.csq.stage = .compacting ∧
      compacting.gst.moving ≠ none) ∧
    (let s := attached 200
     s.InService ∧ s.hpu.phase = .execute ∧ s.hpu.breakPending = false ∧ s.csq.stage = .moving ∧
     s.csq.block.head? = some 0x51 ∧ s.fmu.motion = some ⟨0x51, .attached⟩ ∧ s.eng.cond = .idle ∧ s.fmu.stop = none ∧
     s.fmu.mode = .freeMove ∧ s.fmu.speed ≤ s.nvs.mech.startSpeed ∧ s.mayRun = false) ∧
    (attached 201).nvs.mech.startSpeed < (attached 201).fmu.speed ∧
    (let s := recovering .stopping 600
     s.InService ∧ s.hpu.phase = .execute ∧ s.hpu.breakPending = false ∧ s.csq.stage = .moving ∧
     s.csq.block.head? = some 0x56 ∧ s.fmu.motion = some ⟨0x56, .attached⟩ ∧ s.eng.cond = .recovering ∧
     s.lbq.printing = none ∧ s.fmu.mode = .stopping) ∧
    (let s := recovering .freeMove 201
     s.fmu.mode = .freeMove ∧ s.fmu.backward = false ∧ s.nvs.mech.startSpeed < s.fmu.speed) ∧
    (recovering .freeMove 200).fmu.speed ≤ (recovering .freeMove 200).nvs.mech.startSpeed ∧
    -- the last step of the soft stop
    (let w : State := { recovering .stopping 200 with
       fmu := { (recovering .stopping 200).fmu with stop := some .soft, why := some .breakRequest } }
     w.fmu.mode = .stopping ∧ w.fmu.speed ≤ w.nvs.mech.startSpeed ∧ w.fmu.why = some .breakRequest ∧
     w.eng.cond = .recovering ∧ w.csq.block.head? ≠ some 0x12) := by
  and_intros <;> decide +kernel

/-- With these events, and the read cursor here. -/
def withEvents (l : List Event) (cursor : Nat) : State := { r with eng := { r.eng with events := l, cursor := cursor } }

theorem witness_EventQueueKeepsItsOrder :
    (withEvents (List.replicate 15 ⟨.reset, 1, 0, 0⟩) 0).eng.events.length < 16 ∧
    16 ≤ (withEvents (List.replicate 16 ⟨.reset, 1, 0, 0⟩) 0).eng.events.length ∧
    ((withEvents [] 0).InService ∧ (withEvents [] 0).eng.events = []) ∧
    (withEvents [⟨.reset, 1, 0, 0⟩] 4).eng.cursor < 5 ∧
    (withEvents [⟨.reset, 1, 0, 0⟩] 5).eng.events = ⟨.reset, 1, 0, 0⟩ :: [] ∧
    (withEvents [⟨.reset, 1, 0, 0⟩] 5).eng.cursor = 5 := by decide

theorem witness_HeldResetIgnoresEveryAccess :
    (¬ (after .resetInputHeld r).InService ∧ (∀ found, Instr.select ≠ .pinReset found) ∧
      (∀ found, Instr.select ≠ .powerOnReset found) ∧ Instr.select ≠ .resetInputHeld) ∧
    (after .resetInputHeld r).hpu.service = .held ∧
    (after (.pinReset (foundAt [] [] [] false)) r).hpu.service = .starting ∧ r.InService :=
  ⟨⟨by decide, nofun, nofun, nofun⟩, by decide, by decide, by decide⟩

/-- A DISCARD LABEL with no label open. -/
def noLabelOpen : State := ready r 0x47

theorem witness_FailedCommandsHaveNoEffect :
    noLabelOpen.Ready 0x47 ∧ exec .discardLabel noLabelOpen = .next (after .discardLabel noLabelOpen) ∧
    (after .discardLabel noLabelOpen).hpu.phase = .completion ∧
    (after .discardLabel noLabelOpen).hpu.completion.getLsbD 0 = true ∧
    (again r 0x45 [0, 0, 0, 0, 8, 0, 1, 0, 1] [0]).ReadyAgain 0x45 :=
  ⟨by decide +kernel, rfl, by and_intros <;> decide +kernel⟩

/-- With a Break pending. -/
def breaking (s : State) : State := { s with hpu := { s.hpu with breakPending := true } }

/-- What a failed command leaves at the port. -/
abbrev failed (t : State) : Prop := t.hpu.phase = .completion ∧ t.hpu.completion.getLsbD 0 = true

/-- At the safe point with a Break pending: a command that would succeed, in its first act and its second; one that would
fail; one that decides at its commit; and one that the fault gate refuses. -/
theorem witness_FailedCommandsHaveNoEffect_break :
    ((breaking (ready r 0x13)).Ready 0x13 ∧ (breaking (ready r 0x13)).hpu.breakPending = true ∧
      ¬ failed (after .readEngineState (ready r 0x13))) ∧
    (let s := again r 0x21 [] Profile.default.bytes
     (breaking s).ReadyAgain 0x21 ∧ (breaking s).hpu.breakPending = true ∧ ¬ failed (after .setMediaParameters s)) ∧
    ((breaking noLabelOpen).Ready 0x47 ∧ failed (after .discardLabel noLabelOpen)) ∧
    (let s := ready queued 0x48 [22, 0]
     (breaking s).Ready 0x48 ∧ s.eng.cond ≠ .faulted ∧ failed (after .cancelLabels s)) ∧
    (let s := ready { r with eng := { r.eng with cond := .faulted } } 0x11
     (breaking s).Ready 0x11 ∧ failed (after .testReady s)) := by
  and_intros <;> decide +kernel

/-- R13, R26: a CANCEL LABELS that would find no label, with a Break pending. -/
theorem test_break_comes_before_the_commit :
    (after .cancelLabels (breaking (ready queued 0x48 [22, 0]))).csq.sense = ⟨.aborted, 0x48, none, .nothing⟩ := by
  decide +kernel

theorem witness_TestReadyReportsTheFirstHindrance :
    ((ready r 0x11).Ready 0x11 ∧ (ready r 0x11).hpu.breakPending = false) ∧
    ((ready halted 0x11).Ready 0x11 ∧ (ready halted 0x11).eng.cond = .halted ∧
      (ready halted 0x11).eng.primary ≠ none) := by decide +kernel

theorem witness_RequestSenseReturnsTheRecord :
    (ready r 0x12).Ready 0x12 ∧ (ready r 0x12).hpu.breakPending = false := by decide +kernel

theorem witness_ReadEngineStateReturnsSixteenBytes :
    (ready r 0x13).Ready 0x13 ∧ (ready r 0x13).hpu.breakPending = false := by decide +kernel

theorem witness_ReadingCommandsHandOverTheirBytes :
    ((ready r 0x14).Ready 0x14 ∧ (ready r 0x14).Clear) ∧ ((ready r 0x22).Ready 0x22 ∧ (ready r 0x22).Clear) ∧
    ((ready r 0x34 [63]).Ready 0x34 ∧ (ready r 0x34 [63]).Clear ∧ num8 (ready r 0x34 [63]).csq.block 2 ≤ 63) ∧
    ((ready r 0x26).Ready 0x26 ∧ (ready r 0x26).hpu.breakPending = false) ∧
    ((ready r 0x34 [64]).Ready 0x34 ∧ (ready r 0x34 [64]).Clear ∧ 63 < num8 (ready r 0x34 [64]).csq.block 2) := by
  decide +kernel

theorem witness_PayloadCommandsAskForTheirBytes :
    ((ready r 0x21).Ready 0x21 ∧ (ready r 0x21).Clear ∧ (ready r 0x21).AtLeisure) ∧
    ((ready r 0x23).Ready 0x23 ∧ (ready r 0x23).Clear ∧ (ready r 0x23).AtLeisure) ∧
    (let s := ready r 0x31 [63, 1, 255]
     s.Ready 0x31 ∧ s.Clear ∧ num8 s.csq.block 2 ≤ 63 ∧ 1 ≤ num8 s.csq.block 3 ∧ 1 ≤ num8 s.csq.block 4 ∧
     (s.gst.entry 63).state ≠ .doomed ∧ ((s.gst.entry 63).state = .defined → (s.gst.entry 63).count = 0)) ∧
    (let s := ready openOne 0x43 [0x3F, 3, 0x57, 2, 15, 0, 31, 64]
     let b := s.csq.block
     s.Ready 0x43 ∧ s.Clear ∧ s.lbq.openSlot = some 0 ∧ (s.lbq.label 0).isSome ∧ num16 b 2 ≤ 831 ∧ num16 b 4 < 600 ∧
     num8 b 6 ≤ 15 ∧ -8 ≤ int8 b 8 ∧ int8 b 8 ≤ 31 ∧ 1 ≤ num8 b 9 ∧ num8 b 9 ≤ 64) ∧
    (let s := ready openOne 0x45 [0, 0, 0, 0, 0x40, 3, 1, 0, 15]
     let b := s.csq.block
     s.Ready 0x45 ∧ s.Clear ∧ s.lbq.openSlot = some 0 ∧ num16 b 2 ≤ 831 ∧ num16 b 4 < 600 ∧ 1 ≤ num16 b 6 ∧
     num16 b 6 ≤ 832 ∧ 1 ≤ num16 b 8 ∧ num16 b 8 ≤ 4096 ∧ num8 b 10 ≤ 15) ∧
    -- refused in the first act: the engine at work, an id past the last, no width, no height, an id in use
    ((ready queued 0x21).Ready 0x21 ∧ (ready queued 0x21).Clear ∧ ¬ (ready queued 0x21).AtLeisure) ∧
    ((ready openOne 0x23).Ready 0x23 ∧ ¬ (ready openOne 0x23).AtLeisure) ∧
    ((ready r 0x31 [64, 1, 1]).Ready 0x31 ∧ (ready r 0x31 [64, 1, 1]).Clear ∧
      63 < num8 (ready r 0x31 [64, 1, 1]).csq.block 2) ∧
    (num8 (ready r 0x31 [63, 0, 0]).csq.block 2 ≤ 63 ∧ num8 (ready r 0x31 [63, 0, 0]).csq.block 3 = 0) ∧
    (1 ≤ num8 (ready r 0x31 [63, 1, 0]).csq.block 3 ∧ num8 (ready r 0x31 [63, 1, 0]).csq.block 4 = 0) ∧
    (let s := ready (glyph7 .defined 1) 0x31 [7, 1, 1]
     s.Ready 0x31 ∧ s.Clear ∧ (s.gst.entry 7).state = .defined ∧ 0 < (s.gst.entry 7).count) ∧
    ((glyph7 .doomed 1).gst.entry 7).state = .doomed := by
  and_intros <;> decide +kernel

/-- PLACE TEXT with its last range broken alone, and PLACE IMAGE with no label open and with the list full. -/
theorem witness_PayloadCommandsAskForTheirBytes_placements :
    (let s := ready openOne 0x43 [0x3F, 3, 0x57, 2, 15, 0, 31, 65]
     let b := s.csq.block
     s.Ready 0x43 ∧ s.Clear ∧ num16 b 2 ≤ 831 ∧ s.lbq.openLabel.all (fun l => decide (num16 b 4 < l.length)) = true ∧
     num8 b 6 ≤ 15 ∧ int8 b 8 = 31 ∧ ¬ num8 b 9 ≤ 64) ∧
    (let s := ready r 0x45 [0x3F, 3, 0x57, 2, 0x40, 3, 0, 16, 15]
     let b := s.csq.block
     s.Ready 0x45 ∧ s.Clear ∧ num16 b 2 ≤ 831 ∧ num16 b 6 = 832 ∧ num16 b 8 = 4096 ∧ num8 b 10 ≤ 15 ∧
     s.lbq.openSlot.isSome = false) ∧
    (let s := ready (openOne (List.replicate 255 (.rule 0 0 1 1 0)) 510) 0x45 [0, 0, 0, 0, 1, 0, 1, 0, 1]
     s.lbq.openSlot.isSome = true ∧ s.lbq.openLabel.all (fun l => decide (l.placements.length < 255)) = false) := by
  and_intros <;> decide +kernel

/-- A payload whose trailer is not its CRC. -/
def badTrailer (code : Byte) : State :=
  let s := again r code [] [1]
  { s with csq := { s.csq with payload := [1, 0, 0] } }

theorem witness_TrailersAreTheCrcOfThePayload :
    ((badTrailer 0x21).ReadyAgain 0x21 ∧ crc16 (badTrailer 0x21).csq.body ≠ (badTrailer 0x21).csq.trailer) ∧
    ((badTrailer 0x23).ReadyAgain 0x23 ∧ crc16 (badTrailer 0x23).csq.body ≠ (badTrailer 0x23).csq.trailer) ∧
    (badTrailer 0x31).ReadyAgain 0x31 ∧ (badTrailer 0x43).ReadyAgain 0x43 ∧ (badTrailer 0x45).ReadyAgain 0x45 := by
  decide +kernel

/-- The store with the default profile written once to record 1. -/
def stored : State :=
  let record : StoredRecord := ⟨⟨copyBytes 1 Profile.default.bytes⟩, ⟨List.replicate 20 0xFF⟩⟩
  { r with nvs := { r.nvs with store := r.nvs.store.set 1 record } }

theorem witness_ProfilesAreReplacedWhole :
    (let s := again r 0x21 [] Profile.default.bytes
     s.ReadyAgain 0x21 ∧ s.Clear ∧ s.CrcGood ∧ s.AtLeisure ∧ recordWellFormed 1 s.csq.body = true ∧
     (Profile.ofBytes s.csq.body).tolerance ≤ s.nvs.mech.sensorOffset / 2 ∧
     (Profile.ofBytes s.csq.body).hot + 5 ≤ s.nvs.mech.critical) ∧
    (let s := ready stored 0x25 [0]
     s.Ready 0x25 ∧ s.Clear ∧ s.AtLeisure ∧ num8 s.csq.block 2 ≤ 3 ∧
     (s.nvs.decayed []).load 1 = some (copyBytes 1 Profile.default.bytes) ∧
     (Profile.ofBytes (copyRecord 1 (copyBytes 1 Profile.default.bytes))).tolerance ≤ s.nvs.mech.sensorOffset / 2 ∧
     (Profile.ofBytes (copyRecord 1 (copyBytes 1 Profile.default.bytes))).hot + 5 ≤ s.nvs.mech.critical) ∧
    (let s := ready stored 0x25 [3]
     s.Ready 0x25 ∧ num8 s.csq.block 2 ≤ 3 ∧ (s.nvs.decayed []).load 4 = none) ∧
    -- a slot past the last, an engine at work, and a stored profile whose hot threshold, then its tolerance, disagrees
    (3 < num8 (ready r 0x25 [4]).csq.block 2 ∧ (ready r 0x25 [4]).Ready 0x25 ∧ (ready r 0x25 [4]).Clear) ∧
    ((ready queued 0x25 [3]).Ready 0x25 ∧ ¬ (ready queued 0x25 [3]).AtLeisure) ∧
    (let s := ready { stored with nvs := { stored.nvs with mech := { r.nvs.mech with critical := 64 } } } 0x25 [0]
     s.Ready 0x25 ∧ s.AtLeisure ∧ s.nvs.load 1 = some (copyBytes 1 Profile.default.bytes) ∧
     (Profile.ofBytes (copyRecord 1 (copyBytes 1 Profile.default.bytes))).tolerance ≤ s.nvs.mech.sensorOffset / 2 ∧
     s.nvs.mech.critical < (Profile.ofBytes (copyRecord 1 (copyBytes 1 Profile.default.bytes))).hot + 5) ∧
    (let s := ready { stored with nvs := { stored.nvs with mech := { r.nvs.mech with sensorOffset := 23 } } } 0x25 [0]
     s.nvs.load 1 = some (copyBytes 1 Profile.default.bytes) ∧
     s.nvs.mech.sensorOffset / 2 < (Profile.ofBytes (copyRecord 1 (copyBytes 1 Profile.default.bytes))).tolerance) := by
  and_intros <;> decide +kernel

/-- SET MEDIA PARAMETERS with the last byte out of its range, with its first constraint broken alone, and with nothing
amiss on an engine at work. -/
theorem witness_ProfilesAreReplacedWhole_refused :
    (let s := again r 0x21 [] (Profile.default.bytes.take 15 ++ [0x40])
     s.ReadyAgain 0x21 ∧ s.Clear ∧ s.CrcGood ∧ (∀ c ∈ (profileChecks s.csq.body).take 12, c.1 = false) ∧
     int8 s.csq.body 15 = 64) ∧
    (let s := again r 0x21 [] ([0, 128, 128] ++ Profile.default.bytes.drop 3)
     s.ReadyAgain 0x21 ∧ s.CrcGood ∧ (∀ c ∈ (profileChecks s.csq.body).take 13, c.1 = false) ∧
     ¬ num8 s.csq.body 1 < num8 s.csq.body 2) ∧
    (let s := again queued 0x21 [] Profile.default.bytes
     s.ReadyAgain 0x21 ∧ s.Clear ∧ s.CrcGood ∧ recordWellFormed 1 s.csq.body = true ∧ ¬ s.AtLeisure) := by
  and_intros <;> decide +kernel

theorem witness_StoringCommandsBeginTheirWrite :
    (let s := again r 0x23 [] Mechanism.default.bytes
     s.ReadyAgain 0x23 ∧ s.Clear ∧ s.CrcGood ∧ s.AtLeisure ∧ recordWellFormed 0 s.csq.body = true ∧
     s.nvs.profile.tolerance ≤ (Mechanism.ofBytes s.csq.body).sensorOffset / 2 ∧
     s.nvs.profile.hot + 5 ≤ (Mechanism.ofBytes s.csq.body).critical) ∧
    ((ready r 0x24 [3]).Ready 0x24 ∧ (ready r 0x24 [3]).Clear ∧ num8 (ready r 0x24 [3]).csq.block 2 ≤ 3) ∧
    -- refused: a slot past the last, the last byte out of its range, the last constraint, an engine at work
    ((ready r 0x24 [4]).Ready 0x24 ∧ (ready r 0x24 [4]).Clear ∧ 3 < num8 (ready r 0x24 [4]).csq.block 2) ∧
    (let s := again r 0x23 [] (Mechanism.default.bytes.take 9 ++ [4])
     s.ReadyAgain 0x23 ∧ s.Clear ∧ s.CrcGood ∧ (∀ c ∈ (mechanismChecks s.csq.body).take 7, c.1 = false) ∧
     ¬ num8 s.csq.body 9 ≤ 3) ∧
    (let s := again r 0x23 [] (Mechanism.default.bytes.set 7 64)
     s.ReadyAgain 0x23 ∧ s.CrcGood ∧ recordWellFormed 0 s.csq.body = true ∧
     s.nvs.profile.tolerance ≤ num8 s.csq.body 0 / 2 ∧ ¬ s.nvs.profile.hot + 5 ≤ num8 s.csq.body 7) ∧
    (let s := again queued 0x23 [] Mechanism.default.bytes
     s.ReadyAgain 0x23 ∧ s.CrcGood ∧ recordWellFormed 0 s.csq.body = true ∧ ¬ s.AtLeisure) := by
  and_intros <;> decide +kernel

/-- Two copies of record 1 with these sequence numbers. -/
def copies (a b : Half) : StoredRecord :=
  ⟨⟨copyBytes a Profile.default.bytes⟩, ⟨copyBytes b Profile.default.bytes⟩⟩

theorem witness_CopiesAreSelectedAndReplacedInTurn :
    ((copies 0 32767).a.valid 1 = true ∧ (copies 0 32767).b.valid 1 = true) ∧
    (copies 0 32767).selected 1 = some true ∧ (copies 0 32768).selected 1 = some false ∧
    (copies 7 7).selected 1 = some false ∧
    (let torn : StoredCopy := ⟨tornBytes 1 []⟩
     torn.valid 1 = false ∧ (StoredRecord.mk torn (copies 1 1).b).selected 1 = some true ∧
     (StoredRecord.mk (copies 1 1).a torn).selected 1 = some false ∧ (StoredRecord.mk torn torn).selected 1 = none) ∧
    Mechanism.default.bytes.length = 10 ∧ Profile.default.bytes.length = 16 ∧
    ((List.replicate 14 (0xFF : Byte)).length = 14 ∧ crcMatches 0 (List.replicate 14 0xFF) = false) ∧
    -- a copy that was written whole, but for its last byte
    (let whole := copyBytes 1 Profile.default.bytes
     crcMatches 1 whole = true ∧ tornBytes 1 whole ≠ whole) := by
  and_intros <;> decide +kernel

/-- A write of record 1 at this attempt. -/
def writing (attempts : Nat) : State :=
  { r with
    hpu := { r.hpu with phase := .execute }
    csq := { r.csq with
      block := block 0x24 0 [0], stage := .writing ⟨1, false, copyBytes 1 Profile.default.bytes⟩, attempts := attempts } }

theorem witness_RecordWriteTriesThreeTimes :
    (writing 3).InService ∧ (writing 3).csq.stage = .writing ⟨1, false, copyBytes 1 Profile.default.bytes⟩ ∧
    (writing 3).csq.block.head? ≠ some 0x12 := by decide +kernel

theorem witness_WellFormedRecordsAreInRange :
    (4 : Nat) ≠ 0 ∧ recordWellFormed 4 Profile.default.bytes = true ∧ recordWellFormed 0 Mechanism.default.bytes = true ∧
    Profile.default.WellFormed ∧ Mechanism.default.WellFormed := by
  simp only [Profile.WellFormed, Mechanism.WellFormed]
  decide +kernel

/-- In a slew at this speed, so many steps before the next top, with nothing more to print (section 7.4.4). -/
def slewing (v n : Nat) : State :=
  { r with
    fmu := { r.fmu with mode := .printRun, move := .run, speed := v, energised := true }
    msu := { r.msu with reg := ⟨.registered, some (BitVec.ofNat 32 (n + 1)), true, 0⟩ }
    nvs := { r.nvs with
      profile := { r.nvs.profile with accel := 8, speed := 800 }
      mech := { r.nvs.mech with startSpeed := 200, faultDecel := 48 } } }

/-- Section 7.4.4, "A withdrawal": the seven counted steps, then the overrun steps. -/
theorem test_withdrawal :
    (slewing 800 7).forwardSpeed (slewing 800 7).horizon = 752 ∧ (slewing 512 1).forwardSpeed (slewing 512 1).horizon = 464 ∧
    (slewing 464 0).forwardSpeed (slewing 464 0).horizon = 416 ∧ (slewing 224 0).forwardSpeed (slewing 224 0).horizon = 200 ∧
    (slewing 440 7).forwardSpeed (slewing 440 7).horizon = 392 ∧ (slewing 248 6).forwardSpeed (slewing 248 6).horizon = 240 := by
  decide +kernel

theorem witness_FreeListIsFirstFitAndMerged :
    FreeListWf [⟨0, 3⟩, ⟨5, 2⟩] ∧ (∀ e ∈ [Extent.mk 0 3, ⟨5, 2⟩], 3 + 2 ≤ e.first ∨ e.first + e.length ≤ 3) ∧
    firstFit 2 [⟨0, 3⟩, ⟨5, 2⟩] = some (0, [⟨2, 1⟩, ⟨5, 2⟩]) ∧ (0 : Nat) < 1 := by
  refine ⟨⟨by decide, by decide⟩, by decide, by decide, by decide⟩

/-- R54: granules at the start, in the middle and beyond the end of an extent. -/
theorem test_free_carve : freeCarve 0 2 [⟨0, 3⟩, ⟨5, 2⟩] = [⟨2, 1⟩, ⟨5, 2⟩] ∧
    freeCarve 1 1 [⟨0, 3⟩, ⟨5, 2⟩] = [⟨0, 1⟩, ⟨2, 1⟩, ⟨5, 2⟩] ∧ freeCarve 2 4 [⟨0, 3⟩, ⟨5, 2⟩] = [⟨0, 2⟩, ⟨6, 1⟩] := by decide

/-- DEFINE GLYPH 7 again, 16 dots by 2 lines, with these free extents. -/
def redefining (free : List Extent) : State :=
  let s := glyph7 .defined 0
  again { s with gst := { s.gst with free := free } } 0x31 [7, 16, 2] [1, 2, 3, 4]

theorem witness_DefineGlyphStoresTheBitmap :
    (let s := redefining [⟨0, 1⟩]
     s.ReadyAgain 0x31 ∧ s.Clear ∧ s.CrcGood ∧ s.csq.body.length = (num8 s.csq.block 3 + 7) / 8 * num8 s.csq.block 4 ∧
     0 < s.csq.body.length ∧ num8 s.csq.block 2 < s.gst.entries.length ∧ (s.gst.entry 7).state = .defined ∧
     (s.gst.entry 7).count = 0 ∧ firstFit 1 s.gst.free = some (0, [])) ∧
    totalFree (redefining []).gst.free < 1 ∧
    -- a bitmap of two granules among extents of one each
    (let s := again { r with gst := { r.gst with free := [⟨0, 1⟩, ⟨2, 1⟩] } } 0x31 [63, 8, 16] (List.replicate 16 1)
     s.ReadyAgain 0x31 ∧ s.CrcGood ∧ 2 ≤ totalFree s.gst.free ∧ longestFree s.gst.free < 2) ∧
    -- the id has come into use since the first act
    (let s := again (glyph7 .defined 1) 0x31 [7, 16, 2] [1, 2, 3, 4]
     s.ReadyAgain 0x31 ∧ s.Clear ∧ s.CrcGood ∧ (s.gst.entry 7).state = .defined ∧ 0 < (s.gst.entry 7).count) ∧
    ((again (glyph7 .doomed 1) 0x31 [7, 16, 2] [1, 2, 3, 4]).gst.entry 7).state = .doomed := by decide +kernel

theorem witness_DeleteGlyphReleasesOrDooms :
    (let s := ready (glyph7 .defined 0) 0x32 [7]
     s.Ready 0x32 ∧ s.Clear ∧ num8 s.csq.block 2 ≤ 63 ∧ (s.gst.entry 7).state = .defined) ∧
    (let s := ready (glyph7 .doomed 1) 0x32 [63]
     s.Ready 0x32 ∧ num8 s.csq.block 2 ≤ 63 ∧ (s.gst.entry 63).state = .empty ∧ (s.gst.entry 7).state = .doomed) ∧
    ((ready r 0x32 [64]).Ready 0x32 ∧ (ready r 0x32 [64]).Clear ∧ 63 < num8 (ready r 0x32 [64]).csq.block 2) := by
  decide +kernel

theorem witness_CompactGlyphsBeginsItsWork :
    (let s := ready r 0x33
     s.Ready 0x33 ∧ s.Clear ∧ s.gst.moving = none ∧ s.gst.nextMove = none) ∧
    (let s := ready (glyph7 .defined 0) 0x33
     s.Ready 0x33 ∧ s.gst.moving = none ∧ s.gst.nextMove = some (0, 7)) := by decide +kernel

/-- The first band of the queued label is being rendered. -/
def composing : State :=
  { queued with ring := { r.ring with
    bands := ⟨.composing, 0, 21, 1, 0, 16, []⟩ :: List.replicate 15 .blank, tail := 1, seat := some ⟨0, 1, 0⟩ } }

theorem witness_GlyphMoveCopiesTheGlyphDown :
    compacting.InService ∧ compacting.csq.stage = .compacting ∧ compacting.csq.block.head? ≠ some 0x12 ∧
    compacting.gst.cursor = some 0 ∧ compacting.gst.moving = some 7 ∧ 7 < compacting.gst.entries.length ∧
    -- a move that had to wait for a band; a Break before it; a store found compact; no compaction at work
    (let s : State := { compacting with
       gst := { compacting.gst with cursor := none, moving := none }, ring := composing.ring }
     s.InService ∧ s.csq.stage = .compacting ∧ s.csq.block.head? ≠ some 0x12 ∧ s.gst.moving = none ∧
     s.gst.nextMove = some (0, 7) ∧ s.hpu.breakPending = false ∧ s.ring.composing = some 0 ∧
     (after .glyphMove s).gst.entry 7 = ⟨.defined, 16, 2, 4, 0, 0⟩) ∧
    ({ compacting with hpu := { compacting.hpu with breakPending := true } } : State).hpu.breakPending = true ∧
    ((atStage .compacting).gst.moving = none ∧ (atStage .compacting).gst.nextMove = none ∧
      (atStage .compacting).csq.block.head? ≠ some 0x12) ∧ r.csq.stage ≠ .compacting := by
  and_intros <;> decide +kernel

/-- Glyph 7 alone is defined, and its granule and the free ones lie apart. -/
theorem glyph7_apart : FreeListWf (glyph7 .defined 0).gst.free ∧ (glyph7 .defined 0).gst.ExtentsApart := by
  have only7 : ∀ id < 64, ((glyph7 .defined 0).gst.entry id).state ≠ .empty → id = 7 := by decide +kernel
  refine ⟨⟨by decide +kernel, by decide +kernel⟩, fun id hid h => ?_, by decide +kernel⟩
  obtain rfl := only7 id hid h
  exact ⟨by decide +kernel, by decide +kernel, fun o ho hne h' => absurd (only7 o ho h') hne⟩

theorem witness_MovedGlyphsKeepTheirDots :
    (let s := glyph7 .defined 0
     let e := s.gst.entry 7
     s.gst.nextMove = some (0, 7) ∧ 7 < s.gst.entries.length ∧ FreeListWf s.gst.free ∧ s.gst.ExtentsApart ∧
     e.state ≠ .empty ∧ 15 < (glyphFootprint e ⟨0, 1, 1⟩ 0 0).width ∧ 1 < (glyphFootprint e ⟨0, 1, 1⟩ 0 0).height ∧
     e.size = (e.width + 7) / 8 * e.height) ∧
    (let s := compacting.enqueueFront .glyphMove
     s.GlyphsWf ∧ step s = .next (after .glyphMove compacting)) := by
  obtain ⟨listed, apart⟩ := glyph7_apart
  refine ⟨⟨by decide +kernel, by decide +kernel, listed, apart, by and_intros <;> decide +kernel⟩,
    ⟨⟨by decide +kernel, listed, apart, by decide +kernel, ?_⟩, ?_, ?_⟩, rfl⟩
  · exact ⟨by decide, by decide +kernel, by decide +kernel,
      fun g _ h => ⟨⟨0, 2⟩, by decide +kernel, Nat.zero_le g, h⟩⟩
  · exact ⟨by decide +kernel, by decide +kernel, by decide +kernel, nofun, by decide +kernel⟩
  · simp only [State.PortWf]
    decide +kernel

/-- OPEN LABEL 300 of this length. -/
def opening (s : State) (length : Half) (copies : Byte) : State :=
  ready s 0x41 [0x2C, 1, length.setWidth 8, (length >>> 8).setWidth 8, copies]

/-- Every slot holds a label that is queued. -/
def fullQueue : State :=
  { r with lbq := { r.lbq with
    slots := List.replicate 8 (some { queuedLabel with state := .queued }), queue := [0, 1, 2, 3, 4, 5, 6, 7] } }

theorem witness_OpenLabelFillsAFreeSlot :
    (let s := opening queued 776 1
     s.Ready 0x41 ∧ s.Clear ∧ 8 ≤ num16 s.csq.block 4 ∧ num16 s.csq.block 4 ≤ 4096 ∧
     num16 s.csq.block 4 ≤ s.nvs.profile.pitch - s.nvs.profile.gap ∧ 1 ≤ num8 s.csq.block 6 ∧ s.lbq.openSlot = none ∧
     s.lbq.label 1 = none ∧ ∀ j < 1, s.lbq.label j ≠ none) ∧
    (let s := opening r 7 1
     s.Ready 0x41 ∧ s.Clear ∧ ¬ 8 ≤ num16 s.csq.block 4) ∧
    (let s := opening r 777 1
     s.Ready 0x41 ∧ ¬ num16 s.csq.block 4 ≤ s.nvs.profile.pitch - s.nvs.profile.gap) ∧
    (let s := opening (withMode .continuous) 4096 0
     s.Ready 0x41 ∧ num16 s.csq.block 4 ≤ 4096 ∧ num8 s.csq.block 6 = 0) ∧
    (opening openOne 8 1).lbq.openLabel = some ⟨300, 600, 10, 0, .opened, false, [], 0⟩ ∧
    ((opening fullQueue 8 1).lbq.openLabel = none ∧ ∀ i < 8, (opening fullQueue 8 1).lbq.label i ≠ none) := by
  and_intros <;> decide +kernel

/-- Glyph 7 beside an open label. -/
def openWithGlyph : State := { glyph7 .defined 65534 with lbq := openOne.lbq }

theorem witness_PlacementsJoinTheOpenLabel :
    (let s := ready openWithGlyph 0x42 [7, 0x3F, 3, 0x57, 2, 15, 0]
     s.Clear ∧ s.lbq.openSlot = some 0 ∧ s.lbq.label 0 = some ⟨300, 600, 10, 0, .opened, false, [], 0⟩ ∧ s.Ready 0x42 ∧
     num8 s.csq.block 2 ≤ 63 ∧ num16 s.csq.block 3 ≤ 831 ∧ num16 s.csq.block 5 < 600 ∧ num8 s.csq.block 7 ≤ 15 ∧
     (s.gst.entry 7).state = .defined ∧ (s.gst.entry 7).count + 1 ≤ 65535 ∧ 16 / 8 ≤ s.lbq.poolFree) ∧
    (let s := again openWithGlyph 0x43 [0, 0, 0, 0, 1, 0, 0, 1] [7]
     s.ReadyAgain 0x43 ∧ s.Clear ∧ s.CrcGood ∧ ∀ i ∈ s.csq.body, i.toNat ≤ 63) ∧
    (let s := ready openOne 0x44 [0x3F, 3, 0x57, 2, 1, 0, 0, 16, 15]
     s.Ready 0x44 ∧ num16 s.csq.block 2 ≤ 831 ∧ num16 s.csq.block 4 < 600 ∧ 1 ≤ num16 s.csq.block 6 ∧
     num16 s.csq.block 6 ≤ 832 ∧ 1 ≤ num16 s.csq.block 8 ∧ num16 s.csq.block 8 ≤ 4096 ∧ num8 s.csq.block 10 ≤ 15) ∧
    (let s := again openOne 0x45 [0, 0, 0, 0, 8, 0, 1, 0, 1] [0x81]
     s.ReadyAgain 0x45 ∧ s.Clear ∧ s.CrcGood) ∧
    -- an id that is not defined, a count that is full, and a pool with one granule left
    (let s := again openWithGlyph 0x43 [0, 0, 0, 0, 1, 0, 0, 1] [7, 8]
     s.Clear ∧ s.CrcGood ∧ (s.csq.body.map (·.toNat)).find? (fun id => decide ((s.gst.entry id).state ≠ .defined)) = some 8) ∧
    (let s := again openWithGlyph 0x43 [0, 0, 0, 0, 1, 0, 0, 1] [7, 7]
     s.Clear ∧ s.CrcGood ∧
     (s.csq.body.map (·.toNat)).find? (fun id => decide (65535 < (s.gst.entry id).count + [7, 7].count id)) = some 7) ∧
    (let s := ready (openOne [] 1023) 0x44 [0, 0, 0, 0, 1, 0, 1, 0, 1]
     s.Ready 0x44 ∧ s.Clear ∧ s.lbq.openSlot = some 0 ∧ s.lbq.poolFree < (Placement.rule 0 0 1 1 1).cost / 8) := by
  and_intros <;> decide +kernel

/-- PLACE RULE with these numbers on this state. -/
def placing (s : State) (x y w h : Half) (op : Byte) : State :=
  ready s 0x44 (lowHigh x ++ lowHigh y ++ lowHigh w ++ lowHigh h ++ [op])

theorem witness_PlacementsAreCostedAndRefusedInOrder :
    (let s := placing openOne 832 0 1 1 0
     s.Ready 0x44 ∧ s.Clear ∧ 831 < num16 s.csq.block 2) ∧
    (let s := placing openOne 831 600 1 1 0
     num16 s.csq.block 2 ≤ 831 ∧ (s.lbq.openLabel.any fun l => decide (l.length ≤ num16 s.csq.block 4)) = true) ∧
    (let s := placing openOne 831 599 0 1 0
     num16 s.csq.block 4 < 600 ∧ num16 s.csq.block 6 = 0) ∧
    832 < num16 (placing openOne 0 0 833 1 0).csq.block 6 ∧
    num16 (placing openOne 0 0 832 0 0).csq.block 8 = 0 ∧
    4096 < num16 (placing openOne 0 0 832 4097 0).csq.block 8 ∧
    15 < num8 (placing openOne 0 0 832 4096 16).csq.block 10 ∧
    (num8 (placing r 0 0 832 4096 15).csq.block 10 ≤ 15 ∧ (placing r 0 0 832 4096 15).lbq.openSlot = none) ∧
    (let s := placing (openOne (List.replicate 255 (.rule 0 0 1 1 0)) 510) 0 0 1 1 1
     s.lbq.openSlot = some 0 ∧ (s.lbq.label 0).any (fun l => decide (255 ≤ l.placements.length)) = true) ∧
    (let s := placing (openOne [] 1023) 0 0 1 1 1
     s.lbq.openSlot = some 0 ∧ s.lbq.poolFree < 2) ∧
    (let s := again openOne 0x43 [0, 0, 0, 0, 1, 0, 0, 2] [63, 64]
     s.ReadyAgain 0x43 ∧ s.Clear ∧ s.CrcGood ∧ 1 < s.csq.body.length ∧ 63 < num8 s.csq.body 1 ∧
     ∀ j < 1, num8 s.csq.body j ≤ 63) ∧
    -- a PLACE GLYPH whose operation alone is out of its range, and one with no label open
    (let s := ready openOne 0x42 [63, 0x3F, 3, 0x57, 2, 16, 0]
     let b := s.csq.block
     s.Ready 0x42 ∧ s.Clear ∧ num8 b 2 = 63 ∧ num16 b 3 = 831 ∧
     s.lbq.openLabel.all (fun l => decide (num16 b 5 < l.length)) = true ∧ ¬ num8 b 7 ≤ 15) ∧
    (let s := ready r 0x42 [63, 0x3F, 3, 0x58, 2, 15, 0]
     s.Ready 0x42 ∧ num8 s.csq.block 7 = 15 ∧ s.lbq.openSlot.isSome = false) := by
  and_intros <;> decide +kernel

/-- The queued label, the composer cursor at its first line and these bands at the start of the ring. -/
def seatedAt (bands : List Band) : State :=
  { queued with ring := { r.ring with
    bands := bands ++ List.replicate (16 - bands.length) .blank, tail := bands.length, seat := some ⟨0, 1, 0⟩ } }

theorem witness_CloseLabelJoinsThePrintQueue :
    (let s := ready openOne 0x46
     s.Ready 0x46 ∧ s.Clear ∧ s.lbq.openSlot = some 0 ∧
       s.lbq.label 0 = some ⟨300, 600, 10, 0, .opened, false, [], 0⟩) ∧ r.ring.seat = none ∧
    ((ready r 0x46).Ready 0x46 ∧ (ready r 0x46).Clear ∧ (ready r 0x46).lbq.openSlot = none) ∧
    -- every band free; the band before the tail ready; the band before the tail being rendered
    (let u := seatedAt []
     u.ring.seat = some ⟨0, 1, 0⟩ ∧ u.lbq.label 0 = some queuedLabel ∧ u.ring.bands.length = 16 ∧ u.ring.tail < 16 ∧
     (u.ring.band u.ring.tail).state = .free ∧ ∀ b ∈ u.ring.bands, b.state = .free) ∧
    (let u := seatedAt [⟨.ready, 0, 21, 1, 0, 16, []⟩]
     (u.ring.band u.ring.tail).state = .free ∧ (u.ring.band (u.ring.tail + 15)).state = .ready) ∧
    (let u := seatedAt [⟨.composing, 0, 21, 1, 0, 16, []⟩]
     ¬ ((∀ b ∈ u.ring.bands, b.state = .free) ∨ (u.ring.band (u.ring.tail + 15)).state = .ready ∨
       (u.ring.band (u.ring.tail + 15)).state = .printing)) := by
  and_intros <;> decide +kernel

/-- An open label whose one rule takes two granules. -/
def openRule : State := openOne [.rule 0 0 8 40 2] 2

theorem witness_DiscardedAndRemovedLabelsLeaveNoTrace :
    (let s := ready openRule 0x47
     s.Ready 0x47 ∧ s.Clear ∧ s.lbq.openSlot = some 0 ∧
       s.lbq.label 0 = some ⟨300, 600, 10, 0, .opened, false, [.rule 0 0 8 40 2], 2⟩) ∧
    (queued.lbq.queue.Nodup ∧ queued.lbq.queue.filter (fun i => i != 0) = [] ∧
      finishingRing.lbq.queue.filter (fun i => i != 0) = [1] ∧ finishingRing.lbq.label 1 ≠ none) ∧
    (let s := (ready openRule 0x47).enqueueFront .discardLabel
     s.lbq.PoolBalanced ∧ step s = .next (after .discardLabel (ready openRule 0x47))) := by
  refine ⟨by decide +kernel, by decide +kernel, ?_, rfl⟩
  simp only [Lbq.PoolBalanced]
  decide +kernel

theorem witness_DiscardedAndRemovedLabelsLeaveNoTrace_refused :
    noLabelOpen.Ready 0x47 ∧ noLabelOpen.Clear ∧ noLabelOpen.lbq.openSlot = none := by decide +kernel

theorem witness_ReferencesFallOneIdAtATime :
    (let s := glyph7 .doomed 1
     0 < [7].count 7 ∧ (s.gst.entry 7).state = .doomed ∧ (s.gst.entry 7).count ≤ [7].count 7 ∧
     s.gst.entries.length = 64) ∧
    (let s := glyph7 .doomed 2
     ¬ ((s.gst.entry 7).state = .doomed ∧ (s.gst.entry 7).count ≤ [7].count 7)) ∧ [7].count 8 = 0 ∧
    -- the glyph released is the one being moved, and it is another
    (compacting.gst.moving = some 7 ∧ compacting.gst.entries.length = 64) := by decide +kernel

/-- The bands of the finishing copy again, the last of them these. -/
def lastBands (bands : List Band) : State :=
  { finishingRing with ring := { finishingRing.ring with bands := bands ++ List.replicate (16 - bands.length) .blank } }

theorem witness_CancelLabelsDealsWithItsTargets :
    ((ready queued 0x48 [21, 0]).Ready 0x48 ∧ (ready queued 0x48 [21, 0]).Clear ∧
      (ready queued 0x48 [21, 0]).lbq.targets false 21 ≠ []) ∧
    ((ready queued 0x48 [22, 0]).Ready 0x48 ∧ (ready queued 0x48 [22, 0]).lbq.targets false 22 = []) ∧
    (let s := ready r 0x48 [] 1
     s.Ready 0x48 ∧ s.Clear ∧ (byteAt s.csq.block 1).getLsbD 0 = true ∧ s.lbq.queue = []) ∧
    finishingRing.lbq.label 0 = some queuedLabel ∧ queuedLabel.finishing = false ∧
    (finishingRing.lbq.printing.any fun p => p.slot == 0) = true ∧
    (finishingRing.lbq.printing.any fun p => p.slot == 1) = false ∧
    -- the cut: at the third of four bands, and nowhere
    (let ring := finishingRing.ring
     ring.head < 16 ∧ ring.run.length = 4 ∧ (ring.run.takeWhile fun b => !(b.copy == 2)).length = 2 ∧
     (ring.run.takeWhile fun b => !(b.copy == 3)).length = 4) ∧
    -- the cursor: no band left, with and without a copy printing; lines left; a copy left; the last copy
    (let last (s : State) := (s.ring.run.filter fun b => b.state == .ready || b.state == .printing).getLast?
     let whole : Band := ⟨.ready, 0, 21, 2, 32, 8, []⟩
     (last (lastBands []) = none ∧ (lastBands []).lbq.printing = some ⟨0, 1, 21⟩) ∧
     (last r = none ∧ r.lbq.printing = none) ∧
     (last (lastBands [⟨.printing, 0, 21, 1, 16, 16, []⟩]) = some ⟨.printing, 0, 21, 1, 16, 16, []⟩ ∧ 16 + 16 < 40) ∧
     (last finishingRing = some ⟨.ready, 0, 21, 2, 0, 16, []⟩) ∧
     (last (lastBands [{ whole with copy := 1 }]) = some { whole with copy := 1 } ∧ queuedLabel.length ≤ 32 + 16 ∧
       1 < queuedLabel.copies) ∧
     (last (lastBands [whole]) = some whole ∧ queuedLabel.copies ≤ 2 ∧ (lastBands [whole]).lbq.queue = [] ++ 0 :: [1] ∧
       0 ∉ ([] : List Nat))) := by
  and_intros <;> decide +kernel

/-- R142: a cancellation that empties the print queue of a PAUSED engine. -/
theorem witness_CancelLabelsDealsWithItsTargets_paused :
    let s := ready { queued with eng := { r.eng with cond := .paused }, lbq := { queued.lbq with gate := false } } 0x48 [] 1
    s.Ready 0x48 ∧ s.Clear ∧ s.inRun = false ∧ s.mayRun = false ∧ s.eng.cond = .paused ∧
    (after .cancelLabels s).lbq.queue = [] ∧ (after .cancelLabels s).eng.cond = .idle := by decide +kernel

/-- A run that stands at the top of copy 1 of the queued label, whose first two bands are ready. -/
def running : State :=
  { queued with
    ring := { r.ring with
      bands := [⟨.ready, 0, 21, 1, 0, 16, List.replicate 16 8⟩, ⟨.ready, 0, 21, 1, 16, 16, List.replicate 16 8⟩]
        ++ List.replicate 14 .blank
      tail := 2, seat := some ⟨0, 1, 32⟩ }
    fmu := { r.fmu with mode := .printRun, move := .run, energised := true }
    msu := { r.msu with reg := ⟨.registered, some 1, true, 0⟩ }
    eng := { r.eng with cond := .running } }

theorem witness_SetRunGateSetsTheGate :
    ((ready r 0x49 [1]).Ready 0x49 ∧ (ready r 0x49 [1]).Clear ∧ num8 (ready r 0x49 [1]).csq.block 2 ≤ 1) ∧
    1 < num8 (ready r 0x49 [2]).csq.block 2 ∧
    -- a run at the top of a copy
    (let s := ready running 0x49 [0]
     let u : State := { s with lbq := { s.lbq with gate := false } }
     s.Ready 0x49 ∧ s.Clear ∧ num8 s.csq.block 2 = 0 ∧ u.claim.inRun = true ∧ u.claim.horizon.count = 0 ∧
     u.claim.horizon.beyond = .gateClosed ∧ u.fmu.speed ≤ u.nvs.mech.startSpeed) := by and_intros <;> decide +kernel

/-- With the media presented this far. -/
def presented (offset : Nat) : State := { r with fmu := { r.fmu with present := .presented, offset := offset } }

theorem witness_MovesArePutInHand :
    (let s := ready r 0x51 [0, 0xFC, 50, 0]
     s.MayMove ∧ s.Clear ∧ s.Ready 0x51 ∧ int16 s.csq.block 2 = -1024 ∧ num16 s.csq.block 4 = 50) ∧
    (let s := ready r 0x51 [0, 0, 0x40, 6] 0x80
     s.MayMove ∧ s.Ready 0x51 ∧ int16 s.csq.block 2 = 0 ∧ num16 s.csq.block 4 = 1600) ∧
    (let s := ready r 0x54
     s.MayMove ∧ s.Clear ∧ s.Ready 0x54 ∧ s.fmu.present ≠ .presented ∧ s.nvs.mech.tearOffset ≠ 0) ∧
    (ready (presented 1) 0x54).fmu.present = .presented ∧
    (let s := ready { r with nvs := { r.nvs with mech := { r.nvs.mech with tearOffset := 0 } } } 0x54
     s.MayMove ∧ s.Ready 0x54 ∧ s.nvs.mech.tearOffset = 0) ∧
    ((ready r 0x55).Ready 0x55 ∧ (ready r 0x55).fmu.present = .atPrintLine) ∧
    ((ready (presented 0) 0x55).MayMove ∧ (ready (presented 0) 0x55).fmu.offset = 0) ∧
    ((ready (presented 1) 0x55).MayMove ∧ (ready (presented 1) 0x55).Ready 0x55 ∧
      (ready (presented 1) 0x55).fmu.offset ≠ 0) := by
  and_intros <;> decide +kernel

/-- With these edges ahead. -/
def withEdges (l : List Pos) : State := { r with msu := { r.msu with edges := l } }

/-- A calibration in hand. -/
def calibratingAt (c : Calib) : State :=
  { moving .detached 0x53 200 with
    fmu := { (moving .detached 0x53 200).fmu with move := .calibrate, target := none }
    msu := { r.msu with calib := some c } }

/-- An edge find of this many edges, so many steps after the last one counted, with these edges ahead. -/
def finding (need steps : Nat) (edges : List Pos) : State :=
  { moving .detached 0x52 200 with
    fmu := { (moving .detached 0x52 200).fmu with move := .find, target := none }
    msu := { r.msu with find := some ⟨need, none, steps⟩, edges := edges } }

theorem witness_SearchesArePutInHand :
    (let s := ready r 0x52 [16]
     s.MayMove ∧ s.Clear ∧ s.msu.absent = false ∧ s.Ready 0x52 ∧ 1 ≤ num8 s.csq.block 2 ∧ num8 s.csq.block 2 ≤ 16 ∧
     s.nvs.profile.mode ≠ .continuous ∧ (s.beginFind 16).findReached = false ∧
     s.msu.edges.filter (fun e => decide (0 < (e - s.fmu.pos).toInt)) = []) ∧
    (let s := ready (withEdges [1]) 0x52 [1]
     s.MayMove ∧ s.Ready 0x52 ∧ (s.beginFind 1).findReached = true) ∧
    (let s := ready (withMode .continuous) 0x52 [1]
     s.MayMove ∧ s.Ready 0x52 ∧ s.nvs.profile.mode = .continuous) ∧
    (let s := ready r 0x53
     s.MayMove ∧ s.Clear ∧ s.msu.absent = false ∧ s.Ready 0x53 ∧ s.nvs.profile.mode ≠ .continuous) ∧
    ((ready (withMode .continuous) 0x53).Ready 0x53 ∧
      (ready (withMode .continuous) 0x53).nvs.profile.mode = .continuous) ∧
    -- an edge find: none to count, no edge, one of two, the last one, and its 1,600th step
    ((finding 0 0 []).msu.find = some ⟨0, none, 0⟩ ∧ (finding 1 0 []).msu.find = some ⟨1, none, 0⟩ ∧
      (0 : Nat) < 1 ∧ ([9] : List Pos).take 2 = [9] ∧ [9].getLast? = some (9 : Pos) ∧
      ([9, 99] : List Pos) = [] ++ 9 :: [99] ∧ (finding 1 0 [1]).countEdges.findReached = true ∧
      (finding 1 1599 []).findStep.2 = .searchFailed ∧ (finding 1 1598 []).findStep.2 = .goesOn) := by
  and_intros <;> decide +kernel

/-- The calibration's phases: the last survey step with too little contrast, with a threshold at the empty threshold and
with a good one; E1, M and E2 in MEASURE; and the stop at the top of E2, with a label that fits and one that does not. -/
theorem witness_SearchesArePutInHand_calibration :
    (let c : Calib := ⟨.survey, 4607, 20, 43, 0, false, none, none, 0, 0, 0⟩
     (calibratingAt c).msu.calib = some c ∧ 4608 ≤ c.steps + 1 ∧ max c.highest 43 - min c.lowest 20 < 24 ∧
     24 ≤ max c.highest 44 - min c.lowest 20 ∧ (20 + 44) / 2 < r.nvs.profile.empty ∧
     r.nvs.profile.empty ≤ (193 + 255) / 2) ∧
    (let c : Calib := ⟨.measure, 0, 20, 200, 110, true, none, none, 0, 0, 0⟩
     c.phase = .measure ∧ c.e1 = none ∧ ({ c with e1 := some 1 } : Calib).m = none) ∧
    (let c : Calib := ⟨.measure, 900, 20, 200, 110, true, some 1, some 17, 0, 0, 0⟩
     let x : Pos := 21
     let top := x + BitVec.ofInt 32 (r.nvs.mech.sensorOffset + r.nvs.profile.adjust)
     (calibratingAt c).msu.calib = some c ∧ (x - 1).toInt = 20 ∧ (x - 17).toInt = 4 ∧
     0 ≤ (top - 1 - (calibratingAt c).fmu.pos).toInt) ∧
    (let c : Calib := ⟨.finishing, 0, 20, 200, 110, true, some 1, some 17, 1, 20, 4⟩
     (calibratingAt c).msu.calib = some c ∧ (calibratingAt c).fmu.pos = c.top - 1 ∧
     (calibratingAt c).fmu.mode = .freeMove ∧ (∀ l, some l ∈ (calibratingAt c).lbq.slots → l.length ≤ c.pitch - c.gap) ∧
     some queuedLabel ∈ queued.lbq.slots ∧ ¬ queuedLabel.length ≤ c.pitch - c.gap) ∧
    -- a find of the engine's own that fails
    (let s : State := { finding 1 1599 [] with eng := { r.eng with cond := .running } }
     s.msu.calib = none ∧ s.findStep.2 = .searchFailed ∧ s.eng.cond = .running) ∧
    -- a find that has reached its target
    ((finding 1 0 [1]).msu.calib = none ∧ (finding 1 0 [1]).findStep.2 = .found) := by
  refine ⟨by decide +kernel, by decide +kernel, by decide +kernel, ⟨by decide +kernel, by decide +kernel,
    by decide +kernel, fun l h => absurd h ?_, by decide +kernel, by decide +kernel⟩, by decide +kernel, by decide +kernel⟩
  simp [calibratingAt, moving, State.reset]

/-- With the head at this thermal state in this condition. -/
def heated (t : Thermal) (c : Condition) : State :=
  { r with hdu := { r.hdu with thermal := t }, eng := { r.eng with cond := c } }

/-- HALTED with copy 1 of the queued label interrupted, the settle timer running. -/
def settling : State :=
  { halted with
    lbq := queued.lbq, eng := { halted.eng with interrupted := some ⟨0, 1⟩, settle := some 1000 } }

theorem witness_ResumeRecoversTheEngine :
    ((ready r 0x56).Ready 0x56 ∧ (ready r 0x56).Clear ∧ (ready r 0x56).fmu.motion = none ∧
      (ready r 0x56).eng.cond = .idle) ∧
    (let s := ready halted 0x56 [] 0x83
     s.Ready 0x56 ∧ s.Clear ∧ s.fmu.motion = none ∧ s.eng.cond = .halted ∧ s.haltClear = true ∧
     s.nvs.profile.mode ≠ .continuous ∧ ((s.enterRecovery true).beginFind 1).findReached = false) ∧
    (let s := ready { halted with fmu := { halted.fmu with mode := .stopping } } 0x56
     s.Ready 0x56 ∧ s.haltClear = true ∧ s.fmu.mode = .stopping) ∧
    (settling.InService ∧ settling.eng.settle ≠ none ∧ settling.eng.cond = .halted ∧ settling.csq.stage ≠ .waiting ∧
      settling.csq.stage ≠ .compacting ∧ settling.nvs.profile.mode ≠ .continuous ∧
      ((settling.enterRecovery false).beginFind 1).findReached = false) ∧
    r.eng.settle = none ∧ r.eng.interrupted = none ∧ settling.eng.interrupted = some ⟨0, 1⟩ ∧
    settling.lbq.label 0 = some queuedLabel ∧ r.lbq.queue = [] ∧ r.fmu.motion = none ∧
    -- the recovery's edge find, which may have its edge at once
    (withMode .continuous).nvs.profile.mode = .continuous ∧ (r.beginFind 1).findReached = false ∧
    ((withEdges [1]).beginFind 1).findReached = true := by
  and_intros <;> decide +kernel

/-- HALTED with an edge at hand, or in CONTINUOUS mode. -/
def haltedAtEdge : State := { halted with msu := (withEdges [1]).msu }
def haltedContinuous : State := { halted with nvs := (withMode .continuous).nvs }

theorem witness_ResumeRecoversTheEngine_atOnce :
    (let s := ready haltedAtEdge 0x56
     s.Ready 0x56 ∧ s.Clear ∧ s.fmu.motion = none ∧ s.eng.cond = .halted ∧ s.haltClear = true ∧
     s.fmu.mode ≠ .stopping ∧ ((s.enterRecovery false).beginFind 1).findReached = true) ∧
    (let s := ready haltedContinuous 0x56 [] 0x80
     s.Ready 0x56 ∧ s.Clear ∧ s.haltClear = true ∧ s.fmu.mode ≠ .stopping ∧ s.nvs.profile.mode = .continuous ∧
     (byteAt s.csq.block 1).getLsbD 7 = true) ∧
    (let s : State := { settling with msu := (withEdges [1]).msu }
     s.InService ∧ s.eng.settle ≠ none ∧ s.eng.cond = .halted ∧ s.csq.stage ≠ .waiting ∧ s.csq.stage ≠ .compacting ∧
     s.fmu.mode ≠ .stopping ∧ ((s.enterRecovery false).beginFind 1).findReached = true) := by
  and_intros <;> decide +kernel

/-- RECOVERING, the motor at rest and the next line the top, with the queued label waiting and these lines held. -/
def atTop (held : Nat) : State :=
  { inCopyBands held with
    eng := { r.eng with cond := .recovering, applied := 1, recLabel := 21 }
    msu := { r.msu with reg := ⟨.registered, some 1, true, 0⟩ } }
where
  inCopyBands (held : Nat) : State :=
    { queued with ring := { r.ring with
      bands := ⟨.ready, 0, 21, 1, 0, held, List.replicate held 8⟩ :: List.replicate 15 .blank, tail := 1 } }

/-- What the recovered engine goes on to: a hold, a retract, a run with lines held, a starved one, a closed gate. -/
theorem witness_ResumeRecoversTheEngine_recovered :
    let run (s : State) : State :=
      ({ s with fmu := s.fmu.atRest, eng := { s.eng with cond := .running } } : State).beginRun
    ((atTop 16).lbq.queue ≠ [] ∧ ({ atTop 16 with hdu := (heated .hot .idle).hdu } : State).hdu.thermal = .hot) ∧
    (run { atTop 16 with fmu := (presented 120).fmu }).fmu.move ≠ .run ∧
    ((atTop 16).hdu.thermal ≠ .hot ∧ (run (atTop 16)).fmu.move = .run ∧ 0 < (run (atTop 16)).horizon.count) ∧
    (let h := (run { atTop 16 with ring := { r.ring with seat := some ⟨0, 1, 0⟩ } }).horizon
     h.count = 0 ∧ h.beyond = .notHeld ⟨0, 1⟩ 0) ∧
    (let h := (run { atTop 16 with lbq := { queued.lbq with gate := false } }).horizon
     h.count = 0 ∧ h.beyond = .gateClosed) := by
  and_intros <;> decide +kernel

/-- R148: what is posted when a recovery succeeds at once, and with DISCARD. -/
theorem test_recovery_in_continuous_mode :
    (after .resume (ready haltedContinuous 0x56)).eng.events.getLast? = some ⟨.recovered, 0, 0xFFFF, 0⟩ ∧
    (after .resume (ready haltedContinuous 0x56)).eng.cond = .idle ∧
    (let t := after .resume (ready { settling with nvs := haltedContinuous.nvs } 0x56 [] 0x83)
     t.eng.events.drop 3 = [⟨.labelCancelled, 3, 21, 0⟩, ⟨.queueIdle, 0, 0xFFFF, 0⟩, ⟨.recovered, 2, 21, 0⟩,
       ⟨.moveDone, 0x56, 0xFFFF, 0⟩] ∧ t.hpu.completion.getLsbD 0 = false) := by and_intros <;> decide +kernel

/-- A backward FEED of this owner with its target so far behind. -/
def backing (owner : Owner) (target : Pos) : State :=
  { r with fmu := { r.fmu with
    mode := .freeMove, move := .feed true 0, target := some target, motion := some ⟨0x51, owner⟩, energised := true } }

/-- An attached FEED of 100 steps that waits behind this motion. -/
def waitingBehind (s : State) : State :=
  { s with
    hpu := { s.hpu with phase := .execute }
    csq := { s.csq with block := block 0x51 0 [100], stage := .waiting, waitTimer := some 1500 } }

theorem witness_MotionCommandsWaitOrAreRefused :
    (let s := ready (moving .detached 0x51 0) 0x52 [1]
     s.Ready 0x52 ∧ s.Clear ∧ firstOf (s.ranges s.csq.block) = none ∧ s.fmu.motion ≠ none) ∧
    (let s := ready { r with eng := { r.eng with cond := .running } } 0x56
     s.Ready 0x56 ∧ s.Clear ∧ firstOf (s.ranges s.csq.block) = none ∧ s.fmu.motion = none ∧ s.eng.cond = .running) ∧
    (let s := ready { halted with eng := { halted.eng with headOpen := true } } 0x51
     s.Ready 0x51 ∧ s.eng.cond = .halted ∧ s.firstPersisting = some .headOpen) ∧
    (let s := ready halted 0x54
     s.eng.cond = .halted ∧ s.firstPersisting = none ∧ s.eng.primary = some .headOpen) ∧
    (let s := ready { r with eng := { r.eng with headOpen := true } } 0x55
     s.Ready 0x55 ∧ s.eng.cond ≠ .halted ∧ s.eng.headOpen = true) ∧
    (let s := ready { r with msu := { r.msu with absent := true } } 0x53
     s.Ready 0x53 ∧ firstOf (s.ranges s.csq.block) = none ∧ s.eng.headOpen = false ∧ s.msu.absent = true) ∧
    r.csq.waitTimer = none ∧
    (let s := waitingBehind (backing .detached (-1))
     s.InService ∧ s.csq.waitTimer ≠ none ∧ s.csq.stage = .waiting ∧ s.csq.block.head? = some 0x51 ∧
     (byteAt s.csq.block 1).getLsbD 7 = false ∧ int16 s.csq.block 2 ≠ 0 ∧ s.hpu.breakPending = false ∧
     s.eng.cond = .idle ∧ s.eng.headOpen = false ∧ s.fmu.motion = some ⟨0x51, .detached⟩ ∧ s.fmu.mode = .freeMove ∧
     s.fmu.move = .feed true 0 ∧ s.fmu.target = some (s.fmu.pos - 1)) ∧
    -- a distance and two speeds out of range, and two counts
    (let s := ready r 0x51 [0xFF, 0xFB]
     s.Ready 0x51 ∧ s.Clear ∧ int16 s.csq.block 2 < -1024) ∧
    (let s := ready r 0x51 [0, 0xFC, 49, 0]
     s.Ready 0x51 ∧ int16 s.csq.block 2 = -1024 ∧ num16 s.csq.block 4 = 49) ∧
    1600 < num16 (ready r 0x51 [0, 0, 0x41, 6]).csq.block 4 ∧
    ((ready r 0x52 [0]).Ready 0x52 ∧ num8 (ready r 0x52 [0]).csq.block 2 = 0 ∧
      16 < num8 (ready r 0x52 [17]).csq.block 2) := by
  and_intros <;> decide +kernel

theorem witness_RamTestTriesEveryByte :
    ((ready r 0x61).Ready 0x61 ∧ (ready r 0x61).hpu.breakPending = false ∧ (ready r 0x61).eng.cond = .idle ∧
      (ready r 0x61).fmu.motion = none) ∧
    ((ready halted 0x61).Ready 0x61 ∧ (ready halted 0x61).eng.cond ≠ .idle ∧ (ready halted 0x61).eng.cond ≠ .faulted) ∧
    ((atStage (.ramTesting 51199)).InService ∧ (atStage (.ramTesting 51199)).csq.stage = .ramTesting 51199 ∧
      (51199 : Nat) < 51200 ∧ (atStage (.ramTesting 51199)).csq.block.head? ≠ some 0x12) ∧
    (∀ i < 18, byteAt [] i = 0) ∧ byteAt (List.replicate 17 0 ++ [1]) 17 ≠ 0 ∧ r.csq.stage = .idle := by
  and_intros <;> decide +kernel

/-- In a stop of this kind and orderer, at this speed. -/
def stoppingAt (kind : StopKind) (why : Option StopWhy) (speed : Nat) : State :=
  { moving .detached 0x51 speed with
    fmu := { (moving .detached 0x51 speed).fmu with mode := .stopping, stop := some kind, why := why } }

theorem witness_LineStepMovesOneLineForward :
    (let s := moving .detached 0x51 200
     s.InService ∧ s.forwardDue = true ∧ s.hdu.strobed < 16 ∧ s.csq.stage ≠ .waiting ∧ s.csq.stage ≠ .compacting ∧
     0 < s.fmu.speed ∧ s.fmu.mode ≠ .stopping ∧ s.fmu.move ≠ .run) ∧ r.forwardDue = false ∧ r.fmu.speed = 0 ∧
    16 ≤ ({ r with hdu := { r.hdu with strobed := 16 } } : State).hdu.strobed ∧
    -- the speed of a step of a run, of a run in a soft stop and of a free move in a stop
    (running.fmu.move = .run ∧ running.fmu.mode = .printRun ∧ running.nextLine running.horizon = some ⟨⟨0, 1⟩, 0⟩ ∧
      running.horizon.lines.head? = some (1, 8)) ∧
    (let s : State := { running with fmu := { running.fmu with mode := .stopping, stop := some .soft } }
     s.fmu.move = .run ∧ s.fmu.mode = .stopping ∧ s.fmu.stop = some .soft) ∧
    (stoppingAt .fault none 600).fmu.mode = .stopping ∧ r.nextLine r.horizon = none := by
  and_intros <;> decide +kernel

/-- After this many step samples that agree on a class, from another. -/
def stepped (cls cand : Machine.Class) (agree : Nat) : State :=
  { moving .detached 0x51 200 with msu := { r.msu with
    cls := cls, cand := some cand, agree := agree, lastKind := .step, emptyRun := 47 } }

theorem witness_LineStepMovesOneLineForward_sensor :
    -- a level of the class that is in force; a first sample and a third one of another; a leading edge
    ((0 : Byte).toNat < r.nvs.profile.marker ∧ r.msu.cls = .media) ∧ (stepped .media .marker 1).msu.agree + 1 ≠ 3 ∧
    (let a := stepped .marker .media 2
     a.msu.lastKind = .step ∧ a.msu.cand = some .media ∧ a.msu.agree + 1 = 3 ∧
     (a.stepSample 0).change = some ⟨.marker, .media, 0⟩ ∧ a.nvs.profile.mode ≠ .continuous ∧ a.msu.calib = none ∧
     a.msu.lastEdge = none) ∧
    -- the last level of the out length
    (let a := stepped .media .empty 2
     ((a.stepSample 255).state.msu.cls = .empty ∧ a.msu.emptyRun < a.nvs.mech.outLength ∧
      a.nvs.mech.outLength ≤ a.msu.emptyRun + 1 ∧ a.msu.absent = false)) ∧
    -- the decision point of a top 13 lines on: with an edge there, and with none, for the first time and the second
    (let s (edges : List Pos) (miss : Nat) : State :=
       { withEdges edges with msu := { r.msu with edges := edges, reg := ⟨.registered, some 13, false, miss⟩ } }
     (s [25] 0).msu.reg.top = some 13 ∧ (s [25] 0).fmu.pos = 13 - BitVec.ofNat 32 (r.nvs.profile.tolerance + 1) ∧
     ((25 : Pos) - 13).toInt ≤ r.nvs.profile.tolerance ∧ (r.nvs.profile.tolerance : Int) < ((26 : Pos) - 13).toInt ∧
     (s [26] 0).msu.reg.miss = 0 ∧ 1 ≤ (s [] 1).msu.reg.miss ∧ r.msu.reg.top = none) := by
  and_intros <;> decide +kernel

theorem witness_LineStepMovesOneLineForward_ends :
    r.fmu.mode = .stopped ∧
    (let w := stoppingAt .soft none 201
     w.fmu.mode = .stopping ∧ w.nvs.mech.startSpeed < w.fmu.speed) ∧
    (let w := stoppingAt .soft (some .hold) 200
     w.fmu.speed ≤ w.nvs.mech.startSpeed ∧ w.fmu.why = some .hold) ∧
    (stoppingAt .fault (some .halt) 200).fmu.why = some .halt ∧
    (stoppingAt .fault (some .mediaOut) 200).fmu.why = some .mediaOut ∧
    (stoppingAt .soft (some .searchFailed) 200).fmu.why = some .searchFailed ∧
    (let w := stoppingAt .soft (some .breakRequest) 200
     w.fmu.why = some .breakRequest ∧ w.eng.cond ≠ .recovering) ∧
    (let w := moving .detached 0x51 200
     w.fmu.mode = .freeMove ∧ w.fmu.target ≠ some w.fmu.pos) ∧
    (let w : State := { moving .detached 0x51 200 with fmu := { (moving .detached 0x51 200).fmu with pos := 100 } }
     w.fmu.move ≠ .find ∧ w.fmu.move ≠ .calibrate ∧ w.fmu.target = some w.fmu.pos) ∧
    ((finding 1 0 []).fmu.mode = .freeMove ∧ (finding 1 0 []).eng.cond ≠ .recovering ∧
      (finding 1 0 []).fmu.speed ≤ (finding 1 0 []).nvs.mech.startSpeed) ∧
    (let w : State := { running with fmu := { running.fmu with move := .find } }
     w.fmu.mode = .printRun ∧ w.fmu.move ≠ .run) ∧
    (let w := recovering .freeMove 0
     w.fmu.mode = .freeMove ∧ w.eng.cond = .recovering) := by
  and_intros <;> decide +kernel

theorem witness_LinesArePassedAndCopiesCounted :
    (running.InService ∧ running.forwardDue = true ∧ running.hdu.strobed < 16 ∧ running.underHorizon = true ∧
      running.nextLine running.horizon = some ⟨⟨0, 1⟩, 0⟩ ∧ running.lbq.label 0 = some queuedLabel) ∧
    ((moving .detached 0x51 0).forwardDue = true ∧ (moving .detached 0x51 0).underHorizon = false) ∧
    ((slewing 512 1).underHorizon = true ∧ 0 < (slewing 512 1).horizon.count ∧
      (slewing 512 1).nextLine (slewing 512 1).horizon = none) ∧
    ((slewing 464 0).forwardDue = true ∧ (slewing 464 0).horizon.count = 0) ∧
    -- a copy with another behind it, the last copy, and a copy allowed to finish
    queuedLabel.finishing = false ∧ queuedLabel.done + 1 ≠ queuedLabel.copies ∧
    ({ queuedLabel with done := 1 } : Label).done + 1 = queuedLabel.copies ∧
    ({ queuedLabel with finishing := true } : Label).finishing = true := by
  and_intros <;> decide +kernel

/-- The run inside a copy whose lines are held as far as this line. -/
def inCopy (passed held : Nat) : State :=
  { running with
    lbq := { running.lbq with printing := some ⟨0, 1, passed⟩ }
    ring := { running.ring with
      bands := ⟨.printing, 0, 21, 1, 0, held, List.replicate held 8⟩ :: List.replicate 15 .blank } }

/-- The run where a line comes next that is not held. -/
def starving (underrun : Option Copy) : State :=
  { running with ring := { r.ring with seat := some ⟨0, 1, 0⟩ }, fmu := { running.fmu with underrun := underrun } }

theorem witness_LinesArePassedAndCopiesCounted_horizon :
    (r.msu.reg.state = .unknown ∧ r.lbq.printing = none) ∧
    (running.msu.reg.state ≠ .unknown ∧ running.msu.reg.top = some 1 ∧ running.lbq.nextCopy = some ⟨0, 1⟩) ∧
    ((slewing 512 1).lbq.nextCopy = none ∧ 0 < (slewing 512 1).horizon.count) ∧
    (let s := inCopy 4 39
     s.lbq.printing = some ⟨0, 1, 4⟩ ∧ ((s.heldFrom ⟨0, 1⟩ 4).take (40 - 4)).length < 40 - 4) ∧
    (((inCopy 4 40).heldFrom ⟨0, 1⟩ 4).take (40 - 4)).length = 40 - 4 ∧ queuedLabel.finishing = false ∧
    (1 < queuedLabel.copies) ∧ (queuedLabel.copies ≤ 2 ∧ queued.lbq.queue = [] ++ 0 :: [] ∧ 0 ∉ ([] : List Nat)) ∧
    (running.msu.reg.decided = true ∧ running.msu.reg.top = some (running.fmu.pos + 1)) ∧
    -- where a run rests
    (running.fmu.mode = .printRun ∧ running.fmu.move = .run ∧ 0 < running.horizon.count) ∧
    (let w : State := { running with lbq := { running.lbq with gate := false } }
     w.horizon.count = 0 ∧ w.fmu.speed ≤ w.nvs.mech.startSpeed ∧ w.horizon.beyond = .gateClosed) ∧
    ((slewing 200 0).horizon.count = 0 ∧ (slewing 200 0).horizon.beyond = .nothingLeft) ∧
    (let w : State := { running with msu := r.msu }
     w.horizon.count = 0 ∧ w.horizon.beyond = .topUnknown ∧ w.lbq.nextCopy ≠ none) ∧
    ((starving none).horizon.count = 0 ∧ (starving none).horizon.beyond = .notHeld ⟨0, 1⟩ 0 ∧
      (starving none).fmu.underrun ≠ some ⟨0, 1⟩ ∧ (starving (some ⟨0, 1⟩)).fmu.underrun = some ⟨0, 1⟩) := by
  and_intros <;> decide +kernel

/-- A run that begins with a retract to this position. -/
def retracting (target : Pos) : State :=
  { running with fmu := { running.fmu with move := .retract, target := some target, present := .retracting, offset := 1 } }

theorem witness_BackwardStepMovesOneLineBack :
    (let s := backing .detached (-2)
     s.InService ∧ s.backwardDue = true ∧ s.csq.stage ≠ .waiting ∧ s.csq.stage ≠ .compacting ∧
     s.fmu.target ≠ some (s.fmu.pos - 1) ∧ s.fmu.motion ≠ none ∧ 0 < s.nvs.mech.startSpeed) ∧
    (let s := backing .attached (-1)
     s.backwardDue = true ∧ s.fmu.target = some (s.fmu.pos - 1) ∧ s.fmu.move ≠ .retract ∧ s.lbq.queue = [] ∧
     s.fmu.motion = some ⟨0x51, .attached⟩ ∧ s.csq.block.head? ≠ some 0x12) ∧
    (let s := retracting (-1)
     s.InService ∧ s.backwardDue = true ∧ s.fmu.target = some (s.fmu.pos - 1) ∧ s.fmu.move = .retract ∧
     s.fmu.mode = .printRun) ∧ r.backwardDue = false := by
  and_intros <;> decide +kernel

theorem witness_BandRenderFillsTheBand :
    (composing.InService ∧ composing.ring.composing = some 0 ∧ composing.gst.moving = none ∧
      composing.lbq.label (composing.ring.band 0).slot = some queuedLabel ∧ composing.csq.stage ≠ .waiting ∧
      composing.csq.stage ≠ .compacting) ∧ r.ring.composing = none ∧ compacting.gst.moving ≠ none ∧
    -- a band with lines behind it, the last band of a copy, and of the last copy
    ((composing.ring.band 0).first + 16 < queuedLabel.length ∧ queuedLabel.length ≤ 32 + 16 ∧ 1 < queuedLabel.copies ∧
      queuedLabel.finishing = false ∧ composing.lbq.queue = [] ++ 0 :: []) ∧ (831 : Nat) < 832 := by
  and_intros <;> decide +kernel

/-- R87: the last line of the queued label's rule, 8 dots wide. -/
theorem test_render_rule :
    let line := labelLine r.gst r.ram queuedLabel 39
    line.take 2 = [0xFF, 0] ∧ line.length = 104 ∧ dotCount line = 8 := by decide +kernel

theorem witness_EveryDotIsHeatedForItsTime :
    (blankLine.length = 104 ∧ heldStrobe 15 35 ≤ fullStrobe 15 35 ∧ (831 : Nat) < 832) ∧
    (r.hdu.clock = none ∧ (0 : Nat) < 1 ∧
      ({ r with hdu := { r.hdu with clock := some 100000 } } : State).hdu.clock = some 100000) := by decide

theorem witness_TemperatureSampleSetsTheThermalState :
    (let s := heated .hot .idle
     s.InService ∧ s.csq.stage ≠ .waiting ∧ s.csq.stage ≠ .compacting ∧ (s.nvs.mech.critical : Int) ≤ 75 ∧
     s.hdu.thermal ≠ .critical ∧ s.eng.cond.live = false ∧ s.eng.cond ≠ .halted) ∧
    (heated .normal .running).eng.cond.live = true ∧ (heated .hot .halted).eng.cond = .halted ∧
    -- a running engine at the hold temperature and below it
    ((r.nvs.profile.hot : Int) ≤ 60 ∧ ¬ (r.nvs.mech.critical : Int) ≤ 74 ∧ ¬ (r.nvs.profile.hot : Int) ≤ 59) ∧
    -- a holding engine whose request is cleared, at rest and in its soft stop, and one whose request stays
    (¬ (r.nvs.profile.hot : Int) - 7 ≤ 52 ∧ (r.nvs.profile.hot : Int) - 7 ≤ 53 ∧
      (heated .hot .holding).fmu.mode ≠ .stopping ∧ (stoppingAt .soft (some .hold) 600).fmu.mode = .stopping ∧
      (heated .hot .holding).hdu.thermal ≠ .normal) ∧
    ((heated .hot .paused).eng.cond ≠ .running ∧ (heated .hot .paused).eng.cond ≠ .holding) := by
  and_intros <;> decide +kernel

theorem witness_HeadStateChangeIsReported :
    (r.InService ∧ r.csq.stage ≠ .waiting ∧ r.csq.stage ≠ .compacting ∧ r.eng.headOpen = false ∧
      r.eng.cond.live = false ∧ r.eng.cond ≠ .halted ∧ r.fmu.motion = none) ∧
    ((attached 600).InService ∧ (attached 600).eng.headOpen = false ∧ (attached 600).fmu.motion ≠ none ∧
      (attached 600).csq.block.head? ≠ some 0x12) ∧
    (running.eng.cond.live = true ∧ running.eng.headOpen = false) ∧
    (halted.eng.cond = .halted ∧ halted.eng.headOpen = false) ∧
    ({ halted with eng := { halted.eng with headOpen := true } } : State).eng.headOpen = true := by decide +kernel

/-- After this many idle samples that agree on a class. -/
def sampled (cls cand : Machine.Class) (agree : Nat) (absent : Bool) : State :=
  { r with msu := { r.msu with
    cls := cls, cand := some cand, agree := agree, absent := absent, lastKind := .idle, idleTimer := some 50 } }

theorem witness_IdleSamplesAreDebounced :
    (let s := sampled .media .empty 2 false
     s.InService ∧ s.msu.idleTimer ≠ none ∧ s.csq.stage ≠ .waiting ∧ s.csq.stage ≠ .compacting ∧ s.msu.calib = none ∧
     s.msu.lastKind = .idle ∧ s.msu.cand ≠ none ∧ s.msu.agree + 1 = 3 ∧ s.nvs.profile.empty ≤ 224 ∧
     s.msu.cls ≠ .empty ∧ s.msu.absent = false ∧ s.eng.cond.live = false ∧ s.eng.cond ≠ .halted ∧
     s.fmu.motion = none) ∧
    (let s := sampled .empty .media 2 true
     s.msu.cls = .empty ∧ s.msu.agree + 1 = 3 ∧ s.msu.absent = true ∧ 127 < s.nvs.profile.marker) ∧
    (sampled .media .empty 1 false).msu.agree + 1 ≠ 3 ∧ r.msu.cls ≠ .empty ∧
    ({ r with msu := { r.msu with idleTimer := none } } : State).msu.idleTimer = none ∧
    -- the condition set in a run, in a halt, and in a free move, backward and forward
    running.eng.cond.live = true ∧ halted.eng.cond = .halted ∧
    ((backing .detached (-2)).fmu.motion ≠ none ∧ (backing .detached (-2)).fmu.goesBack = true) ∧
    (let w := moving .detached 0x51 200
     w.eng.cond.live = false ∧ w.eng.cond ≠ .halted ∧ w.fmu.motion ≠ none ∧ w.fmu.goesBack = false ∧
     w.fmu.stop = none ∧ w.fmu.speed ≤ w.nvs.mech.startSpeed) ∧
    (let w := moving .detached 0x51 201
     w.fmu.goesBack = false ∧ w.fmu.stop = none ∧ w.fmu.backward = false ∧ w.fmu.mode ≠ .stopped ∧
     w.nvs.mech.startSpeed < w.fmu.speed) ∧ (stoppingAt .fault none 600).fmu.stop = some .fault := by
  and_intros <;> decide +kernel

theorem witness_RunsStartAndTheMotorIsReleased :
    (queued.InService ∧ queued.mayRun = true ∧ queued.csq.stage ≠ .waiting ∧ queued.csq.stage ≠ .compacting ∧
      queued.fmu.present ≠ .presented ∧ queued.msu.reg.state = .unknown ∧ queued.nvs.profile.mode ≠ .continuous ∧
      ∀ e ∈ queued.msu.edges, (e - queued.fmu.pos).toInt ≤ 0) ∧
    (let s : State := { queued with fmu := (presented 120).fmu }
     s.mayRun = true ∧ s.fmu.present = .presented ∧ s.fmu.offset ≠ 0) ∧ r.mayRun = false ∧
    ((presented 0).fmu.present = .presented ∧ (presented 0).fmu.offset = 0) ∧ running.msu.reg.state ≠ .unknown ∧
    (withMode .continuous).nvs.profile.mode = .continuous ∧ (r.beginFind 1).findReached = false ∧
    ((withEdges [1]).beginFind 1).findReached = true := by
  refine ⟨⟨?_, ?_, ?_, ?_, ?_, ?_, ?_, fun _ h => by cases h⟩, ?_⟩
  all_goals and_intros <;> decide +kernel

theorem witness_RunsStartAndTheMotorIsReleased_rest :
    (let u := running
     u.csq.stage ≠ .waiting ∧ u.csq.stage ≠ .compacting ∧ u.claim.inRun = true ∧ 0 < u.claim.horizon.count) ∧
    (let u := starving none
     u.claim.inRun = true ∧ u.claim.horizon.count = 0 ∧ u.claim.horizon.beyond = .notHeld ⟨0, 1⟩ 0 ∧
     u.fmu.speed ≤ u.nvs.mech.startSpeed) ∧
    (let u : State := { running with lbq := { running.lbq with gate := false } }
     u.claim.inRun = true ∧ u.claim.horizon.count = 0 ∧ u.claim.horizon.beyond = .gateClosed) ∧
    (let u : State := { slewing 200 0 with eng := running.eng }
     u.claim.inRun = true ∧ u.claim.horizon.count = 0 ∧ u.claim.horizon.beyond = .nothingLeft ∧ u.lbq.queue = [] ∧
     u.nvs.profile.afterBatch = false ∧ u.fmu.present = .atPrintLine ∧ u.nvs.mech.tearOffset ≠ 0) ∧
    (let u : State := { slewing 200 0 with eng := running.eng, msu := r.msu }
     u.claim.inRun = true ∧ u.claim.horizon.count = 0 ∧ u.claim.horizon.beyond = .topUnknown ∧
     u.lbq.printing = none ∧ u.lbq.queue = []) ∧
    (let u : State := { running with msu := r.msu }
     u.claim.inRun = true ∧ u.claim.horizon.count = 0 ∧ u.claim.horizon.beyond = .topUnknown ∧
     u.lbq.nextCopy ≠ none) ∧
    (composing.InService ∧ composing.ring.composing ≠ none ∧ composing.gst.moving = none) := by
  and_intros <;> decide +kernel

theorem witness_PortResetClearsTheEngine :
    (let s := glyph7 .doomed 1
     s.InService ∧ s.gst.entries.length = 64 ∧ s.gst.moving = none ∧ s.ring.composing = none ∧
     ∀ w, s.csq.stage ≠ .writing w) ∧
    (compacting.InService ∧ compacting.gst.entries.length = 64 ∧ compacting.gst.cursor = some 0 ∧
      compacting.gst.moving = some 7) ∧
    ((writing 1).InService ∧ (writing 1).csq.stage = .writing ⟨1, false, copyBytes 1 Profile.default.bytes⟩) ∧
    ¬ (after .resetInputHeld r).InService :=
  ⟨⟨by decide, by decide +kernel, by decide +kernel, by decide +kernel, nofun⟩, by decide +kernel, by decide +kernel,
    by decide⟩

/-- The store with both default records written once. -/
def commissioned : Nvs :=
  let m : StoredRecord := ⟨⟨copyBytes 1 Mechanism.default.bytes⟩, ⟨tornBytes 0 []⟩⟩
  { stored.nvs with store := stored.nvs.store.set 0 m }

/-- The same with no profile, and with a mechanism record that the profile does not agree with. -/
def profileLost : Nvs :=
  { r.nvs with store := r.nvs.store.set 0 ⟨⟨copyBytes 1 Mechanism.default.bytes⟩, ⟨tornBytes 0 []⟩⟩ }
def coolMechanism : Mechanism := { Mechanism.default with critical := 60, sensorOffset := 20 }
def disagreeing : Nvs :=
  { stored.nvs with store := stored.nvs.store.set 0 ⟨⟨copyBytes 1 coolMechanism.bytes⟩, ⟨tornBytes 0 []⟩⟩ }

/-- R163: the default profile, lowered as far as the mechanism record requires. -/
theorem test_adjusted_default :
    disagreeing.powerUp.1.profile = { Profile.default with hot := 55, tolerance := 10 } ∧
    disagreeing.powerUp.2 = [⟨.nvmDefaulted, 0, 0xFFFF, 1⟩] := by and_intros <;> decide +kernel

/-- Sound memories, and memories whose last byte fails in the third pass. -/
theorem witness_PowerUpSetsEverything_ramTest :
    (∀ pass < 4, ∀ a < 51200, passReadBack [] pass a = passPattern pass a) ∧
    (let l : List Misread := [⟨2, 51199, 1⟩]
     passReadBack l 2 51199 ≠ passPattern 2 51199 ∧ (∀ a < 51199, passReadBack l 2 a = passPattern 2 a) ∧
     ∀ q < 2, ∀ a < 51200, passReadBack l q a = passPattern q a) := by
  refine ⟨fun _ _ a _ => by simp [passReadBack], by decide, fun a h => ?_, fun q h a _ => ?_⟩
  · simp [passReadBack, show (51199 : Nat) ≠ a by omega]
  · simp [passReadBack, show (2 : Nat) ≠ q by omega]

theorem witness_PowerUpSetsEverything :
    (∀ m ∈ [Misread.mk 2 51199 1], m.pass = 2 → m.offset ≠ 0) ∧
    ((writing 1).csq.stage = .writing ⟨1, false, copyBytes 1 Profile.default.bytes⟩ ∧ r.csq.stage = .idle) ∧
    (r.nvs.load 0 = none ∧ r.nvs.load 1 = none) ∧
    (commissioned.load 0 = some (copyBytes 1 Mechanism.default.bytes) ∧
      (Mechanism.ofBytes (copyRecord 0 (copyBytes 1 Mechanism.default.bytes))).powerSlot + 1 = 1 ∧
      commissioned.load 1 = some (copyBytes 1 Profile.default.bytes) ∧
      Profile.default.tolerance ≤ Mechanism.default.sensorOffset / 2 ∧
      Profile.default.hot + 5 ≤ Mechanism.default.critical) ∧
    -- the mechanism record alone is lost; the profile alone; and a profile that does not agree
    (stored.nvs.load 0 = none ∧ stored.nvs.load 1 = some (copyBytes 1 Profile.default.bytes)) ∧
    (profileLost.load 0 = some (copyBytes 1 Mechanism.default.bytes) ∧ profileLost.load 1 = none) ∧
    (disagreeing.load 0 = some (copyBytes 1 coolMechanism.bytes) ∧
      disagreeing.load 1 = some (copyBytes 1 Profile.default.bytes) ∧ Mechanism.ofBytes coolMechanism.bytes = coolMechanism ∧
      coolMechanism.critical < Profile.default.hot + 5) ∧
    (compacting.gst.cursor = some 0 ∧ compacting.gst.moving = some 7 ∧ r.gst.moving = none) ∧
    ((foundAt [] [] []).ends = true ∧ (foundAt [] [] [] false).ends = false) := by
  and_intros <;> decide +kernel

theorem witness_MemoryFormIsKept :
    (composing.enqueueFront .bandRender).ram.wf = true ∧
    step (composing.enqueueFront .bandRender) = .next (after .bandRender composing) :=
  ⟨by decide +kernel, rfl⟩

/-- A calibration in its last phase. -/
def calibrating : State := calibratingAt ⟨.finishing, 0, 20, 200, 110, true, some 1, some 2, 900, 4096, 4⟩

theorem witness_WorkingRecordsStayWellFormed :
    (calibrating.enqueueFront .eventPortRead).RecordsWf ∧
    step (calibrating.enqueueFront .eventPortRead) = .next (after .eventPortRead calibrating) := by
  refine ⟨⟨?_, ?_, ?_, ?_⟩, rfl⟩
  · simp only [Profile.WellFormed]; decide +kernel
  · simp only [Mechanism.WellFormed]; decide +kernel
  · simp only [Agrees]; decide +kernel
  · intro c h
    have e : c = ⟨.finishing, 0, 20, 200, 110, true, some 1, some 2, 900, 4096, 4⟩ := (Option.some.inj h).symm
    subst e
    decide +kernel

theorem witness_EventQueueStaysBounded :
    (withEvents (List.replicate 16 ⟨.reset, 1, 0, 0⟩) 5).eng.QueueWf ∧
    step ((withEvents (List.replicate 16 ⟨.reset, 1, 0, 0⟩) 5).enqueueFront .eventPortRead) =
      .next (after .eventPortRead (withEvents (List.replicate 16 ⟨.reset, 1, 0, 0⟩) 5)) :=
  ⟨by simp only [Eng.QueueWf]; decide, rfl⟩

theorem witness_PortAndSequencerAgree :
    ((atStage (.ramTesting 0)).enqueueFront (.ramByteTest ⟨[], 0⟩)).PortWf ∧
    step ((atStage (.ramTesting 0)).enqueueFront (.ramByteTest ⟨[], 0⟩)) =
      .next (after (.ramByteTest ⟨[], 0⟩) (atStage (.ramTesting 0))) :=
  ⟨by simp only [State.PortWf]; decide +kernel, rfl⟩

theorem witness_OnlyMotorStepsMoveTheMedia :
    exec (.lineStep 0 5000) (moving .detached 0x51 0) = .next (after (.lineStep 0 5000) (moving .detached 0x51 0)) ∧
    (after (.lineStep 0 5000) (moving .detached 0x51 0)).fmu.pos = 1 := ⟨rfl, by decide +kernel⟩

end Sys2Proof.Tests
end

section
/-! The host port's simplest rows, said once: a row out of service (R20), a refused access by its misuse latch (R15), a
Select by its phase (R6) and a write of the Notify Mask (R4, R18); and the two statements that rest on them. -/

namespace Sys2Proof.Machine

/-! ### Service and misuse -/

/-- R20: out of service a row that reads nothing is ignored. -/
theorem State.served_outOfService {s : State} (h : ¬ s.InService) (f : State → State) : s.served f = s := by
  simp [State.served, State.running, h]

/-- R15: with the misuse latch set a refused access leaves no trace. -/
theorem State.refuseAccess_latched {s : State} (m : s.hpu.misuse = true) (kind : Byte) : s.refuseAccess kind = s := by
  simp [State.refuseAccess, m]

/-- R15: the first misuse sets the latch and posts its event. -/
theorem State.refuseAccess_unlatched {s : State} (m : s.hpu.misuse = false) (kind : Byte) :
    s.refuseAccess kind = ({ s with hpu := { s.hpu with misuse := true } } : State).post
      ⟨.portMisuse, kind, 0xFFFF, BitVec.ofNat 16 s.hpu.phase.code⟩ := by
  simp [State.refuseAccess, m]

/-! ### Select -/

theorem exec_select (s : State) : exec .select s = .next (s.served State.selectNow) := rfl

/-- R6: a Select received in FREE is accepted. -/
theorem State.selectNow_free {s : State} (p : s.hpu.phase = .free) :
    s.selectNow = { s with hpu := { s.hpu with
      phase := .command, counter := 0, cmd := [], misuse := false, byteTimer := some 1000 } } := by
  simp [State.selectNow, p]

/-- R6, R15: a Select in any other phase is a refused access of kind 1. -/
theorem State.selectNow_refused {s : State} (p : s.hpu.phase ≠ .free) : s.selectNow = s.refuseAccess 1 := by
  cases h : s.hpu.phase with
  | free => exact absurd h p
  | command | execute | dataOut | dataIn | completion => simp [State.selectNow, h]

/-- Table 1-3: the status bits of COMMAND, in which the port asks the host for a byte of the block. -/
theorem Hpu.asksForCommandByte {h : Hpu} (p : h.phase = .command) :
    h.busy = true ∧ h.req = true ∧ h.ctl = true ∧ h.dir = false := by
  simp [Hpu.busy, Hpu.req, Hpu.ctl, Hpu.dir, p]

/-- Settles O2, by service, phase and misuse latch. -/
theorem selectOpensTheCommandPhase : Obligations.SelectOpensTheCommandPhase := by
  refine ⟨fun s inService free => ?_, fun s inService busy latched => ?_, fun s inService busy unlatched => ?_,
    fun s out => ?_⟩
  · exact ⟨_, by rw [exec_select, State.served_inService inService, State.selectNow_free free], rfl,
      Hpu.asksForCommandByte rfl⟩
  · rw [exec_select, State.served_inService inService, State.selectNow_refused busy, State.refuseAccess_latched latched]
  · rw [exec_select, State.served_inService inService, State.selectNow_refused busy,
      State.refuseAccess_unlatched unlatched]
  · rw [exec_select, State.served_outOfService out]

/-! ### The Notify Mask -/

theorem exec_notifyMaskWrite (value : Byte) (s : State) :
    exec (.notifyMaskWrite value) s = .next (s.served (State.writeMask · value)) := rfl

/-- R4: bit 2 of the value written is the event enable. -/
theorem State.writeMask_eventEnable (s : State) (value : Byte) :
    (s.writeMask value).hpu.eventEnable = value.getLsbD 2 := by
  simp [State.writeMask, Hpu.eventEnable]

/-- R18 after R4: each source of the interrupt request lasts only where the value written enables it. -/
theorem irq_writeMask (s : State) (value : Byte) :
    irq (s.writeMask value) =
      ((s.hpu.cirq && value.getLsbD 1) || (!s.eng.events.isEmpty && value.getLsbD 2)) := by
  rw [irq, State.writeMask_eventEnable]
  rfl

/-- Settles O3, by service. -/
theorem notifyMaskWriteSetsTheEnables : Obligations.NotifyMaskWriteSetsTheEnables := by
  refine fun s value => ⟨fun inService => ?_, fun out => ?_⟩
  · exact ⟨s.writeMask value, by rw [exec_notifyMaskWrite, State.served_inService inService], rfl, irq_writeMask s value⟩
  · rw [exec_notifyMaskWrite, State.served_outOfService out]

end Sys2Proof.Machine
end

section
/-! The reports that change no state: TEST READY (R150) and READ ENGINE STATE (R151). First what carries a command
without ranges of its own to its commit or to the fault gate; then the rows of the TEST READY table; then the sixteen
bytes of READ ENGINE STATE, field by field. -/

namespace Sys2Proof.Machine

/-! ### Reports reach their commit -/

/-- R25: the codes 0x11 to 0x14 have no parameters, so no range can fail. -/
theorem State.ranges_report (s : State) {b : List Byte} (h : byteAt b 0 ∈ ([0x11, 0x12, 0x13, 0x14] : List Byte)) :
    s.ranges b = [] := by
  simp only [List.mem_cons, List.not_mem_nil, or_false] at h
  rcases h with h | h | h | h <;> simp [State.ranges, h]

/-- R24: in FAULTED a command that the fault gate does not let pass ends there. -/
theorem State.plain_faultGate {s : State} {code : Byte} (r : s.Ready code) (f : s.eng.cond = .faulted)
    (c : code ∉ faultGateCodes) (checks : List (Bool × Ending)) (commit : State → State) :
    s.plain code checks commit = s.finish (refusal .engineFault) := by
  rw [State.plain_ready r]
  refine State.act_refuses ?_
  simp [State.gateAndRanges, State.faultGate, r.code, f, c]

/-- R29: a command with nothing to check, past the fault gate and with no Break pending, is at its commit. -/
theorem State.plain_commits {s : State} {code : Byte} (r : s.Ready code)
    (g : s.eng.cond ≠ .faulted ∨ code ∈ faultGateCodes) (n : s.ranges s.csq.block = [])
    (b : s.hpu.breakPending = false) (commit : State → State) : s.plain code [] commit = commit s := by
  rw [State.plain_ready r]
  refine State.act_commits ?_ b
  rw [List.append_nil, State.gateAndRanges_passes (by rwa [r.code]), n, firstOf_nil]

/-! ### TEST READY -/

theorem exec_testReady (s : State) :
    exec .testReady s = .next (s.served fun s => s.plain 0x11 [] fun s => s.finish s.readiness) := rfl

/-- R24: the row for FAULTED is the fault gate's. -/
theorem State.testReady_faulted {s : State} (r : s.Ready 0x11) (f : s.eng.cond = .faulted) :
    exec .testReady s = .next (s.finish (.error .engineFault none .nothing)) := by
  rw [exec_testReady, State.served_inService r.1, State.plain_faultGate r f (by decide)]
  rfl

/-- R150: outside FAULTED the table decides, at the commit. -/
theorem State.testReady_commits {s : State} (r : s.Ready 0x11) (b : s.hpu.breakPending = false)
    (f : s.eng.cond ≠ .faulted) : exec .testReady s = .next (s.finish s.readiness) := by
  have n : s.ranges s.csq.block = [] := s.ranges_report (by simp [r.code])
  rw [exec_testReady, State.served_inService r.1, State.plain_commits r (.inl f) n b]

/-- R150: in HALTED the primary cause is the answer. -/
theorem State.readiness_halted {s : State} (h : s.eng.cond = .halted) : s.readiness = s.primaryRefusal := by
  simp [State.readiness, h]

theorem Thermal.crit_iff (t : Thermal) : t.crit = true ↔ t = .critical := by
  cases t <;> simp [Thermal.crit]

theorem Thermal.hold_eq (t : Thermal) : t.hold = (t != .normal) := by cases t <;> rfl

/-- R150: outside HALTED the head, a free motion, the media, the temperature and registration are asked in this order. -/
theorem State.readiness_unhalted {s : State} (h : s.eng.cond ≠ .halted) :
    s.readiness =
      if s.eng.headOpen then refusal .headOpen
      else if s.fmu.motion ≠ none then refusal .stillMoving
      else if s.msu.absent then refusal .mediaOut
      else if s.hdu.thermal = .critical then s.criticalRefusal
      else if s.msu.reg.state = .unknown then .notice 4
      else .ok := by
  simp only [State.readiness, firstOf_cons, firstOf_nil, beq_iff_eq, if_neg h, Option.isSome_iff_ne_none,
    Thermal.crit_iff]
  repeat' split
  all_goals rfl

/-- Settles O14, by the condition: FAULTED, HALTED with each primary cause, and any other. -/
theorem testReadyReportsTheFirstHindrance : Obligations.TestReadyReportsTheFirstHindrance := by
  intro s r b caused
  have ends (e : Ending) : s.EndsWith (s.finish e) e := State.finish_endsWith (by simp [r.2.2.2]) e
  by_cases f : s.eng.cond = .faulted
  · refine ⟨_, State.testReady_faulted r f, s.finish_sameEngine _, ?_⟩
    simpa only [if_pos f] using ends _
  refine ⟨_, State.testReady_commits r b f, s.finish_sameEngine _, ?_⟩
  by_cases h : s.eng.cond = .halted
  · simp only [if_neg f, if_pos h]
    rw [State.readiness_halted h, State.primaryRefusal]
    cases p : s.eng.primary with
    | none => exact absurd p (caused h)
    | some cause => cases cause <;> exact ends _
  · simp only [if_neg f, if_neg h]
    rw [State.readiness_unhalted h]
    exact ends _

/-! ### READ ENGINE STATE -/

theorem exec_readEngineState (s : State) :
    exec .readEngineState s = .next (s.served fun s => s.plain 0x13 [] fun s => s.enterDataIn s.engineState) := rfl

/-- R24, R151: READ ENGINE STATE passes the fault gate, so in every condition it hands its bytes over. -/
theorem State.readEngineState_commits {s : State} (r : s.Ready 0x13) (b : s.hpu.breakPending = false) :
    exec .readEngineState s = .next (s.enterDataIn s.engineState) := by
  have n : s.ranges s.csq.block = [] := s.ranges_report (by simp [r.code])
  rw [exec_readEngineState, State.served_inService r.1, State.plain_commits r (.inr (by decide)) n b]

/-- A bit in its place in a byte, 0 when it is clear. -/
def flagAt (b : Bool) (i : Nat) : Byte := if b then BitVec.ofNat 8 (2 ^ i) else 0

/-- A byte of seven bits, bit by bit. -/
theorem byteOfBits_seven : ∀ b₀ b₁ b₂ b₃ b₄ b₅ b₆ : Bool,
    byteOfBits [b₀, b₁, b₂, b₃, b₄, b₅, b₆] =
      flagAt b₀ 0 ||| flagAt b₁ 1 ||| flagAt b₂ 2 ||| flagAt b₃ 3 ||| flagAt b₄ 4 ||| flagAt b₅ 5 ||| flagAt b₆ 6 := by
  decide

/-- A number as two bytes: modulo 256, and the same of its quotient by 256. -/
theorem wordBytes_eq (n : Nat) : wordBytes n = [BitVec.ofNat 8 n, BitVec.ofNat 8 (n / 256)] := by
  have low : (BitVec.ofNat 16 n).setWidth 8 = BitVec.ofNat 8 n := by bv_omega
  have high : (BitVec.ofNat 16 n >>> 8).setWidth 8 = BitVec.ofNat 8 (n / 256) := by
    apply BitVec.eq_of_toNat_eq
    simp only [BitVec.toNat_setWidth, BitVec.toNat_ushiftRight, BitVec.toNat_ofNat, Nat.shiftRight_eq_div_pow]
    omega
  rw [wordBytes, lowHigh, low, high]

/-- Table 9-1, R151: byte 0. -/
theorem Condition.code_byte (c : Condition) : BitVec.ofNat 8 c.code =
    (match c with
      | .faulted => 0 | .idle => 1 | .running => 2 | .holding => 3 | .paused => 4 | .halted => 5
      | .recovering => 6 : Byte) := by
  cases c <;> rfl

/-- R131, R151: byte 2. -/
theorem RegState.code_byte (r : RegState) : BitVec.ofNat 8 r.code =
    (match r with | .unknown => 0 | .registered => 1 | .flywheel => 2 : Byte) := by
  cases r <;> rfl

/-- R151: byte 3, bit by bit. -/
theorem State.stateFlags_eq (s : State) : s.stateFlags =
    flagAt s.lbq.openSlot.isSome 0 ||| flagAt (s.fmu.present == .presented) 1 ||| flagAt s.fmu.motion.isSome 2 |||
      flagAt s.lbq.gate 3 ||| flagAt s.eng.headOpen 4 ||| flagAt s.msu.absent 5 |||
      flagAt (s.hdu.thermal != .normal) 6 := by
  rw [State.stateFlags, byteOfBits_seven, Thermal.hold_eq]

/-- Settles O16: the row is at its commit in every condition, and the bytes agree field by field. -/
theorem readEngineStateReturnsSixteenBytes : Obligations.ReadEngineStateReturnsSixteenBytes := by
  intro s r b
  refine ⟨_, State.readEngineState_commits r b, (s.enterDataIn_handsOver _).1, ?_⟩
  rw [State.engineState, Condition.code_byte, RegState.code_byte, State.stateFlags_eq, wordBytes_eq, wordBytes_eq,
    wordBytes_eq]
  exact (s.enterDataIn_handsOver _).2

end Sys2Proof.Machine
end

section
/-! The proofs of the statements of the family 'other'. They are elaborated one after another: side by side, they would
wait on one another, a thread each. -/

set_option Elab.async false

section
/-! The rows as functions of the machine. `rowEffect` says for each row what its arm of `exec` makes of a machine, once;
an invariant of every step is then a property of `rowEffect`, and the ways in which a row is served and a command is
carried out are the only ones by which its own operation is reached. -/

namespace Sys2Proof.Machine

/-- R31: what a step is, by the queue. -/
theorem step_cons {s : State} {i : Instr} {rest : List Instr} (h : s.pending = i :: rest) :
    step s = exec i (s.withPending rest) := by
  rw [step, h]

/-- Settles O1, by the queue. -/
theorem stepRunsTheFrontRow : Obligations.StepRunsTheFrontRow := by
  refine ⟨fun s i rest h => step_cons h, fun s i => ?_, fun s h => ?_⟩
  · rw [step_cons (i := i) (rest := s.pending) rfl]
    rfl
  · rw [step, h]

/-- What a row makes of the machine it comes to, where it does not fault (log 8). -/
def rowEffect (i : Instr) (s : State) : State :=
  match i with
  | .select => s.served State.selectNow
  | .breakRequest => s.served State.breakNow
  | .notifyMaskWrite value => s.served (State.writeMask · value)
  | .portReset _ inputs => s.served (State.portReset · inputs)
  | .pinReset found => s.powerUpNow 2 found
  | .powerOnReset found => s.powerUpNow 1 found
  | .commandByte value => s.dataAccess (.write value)
  | .payloadByte value => s.dataAccess (.write value)
  | .resultByteRead => s.dataAccess .read
  | .completionByteRead => s.dataAccess .read
  | .dackCycle .read => s.servedRead (State.dack · .read)
  | .dackCycle (.write b) => s.served (State.dack · (.write b))
  | .byteTimeout => s.served State.timeoutNow
  | .eventPortRead => s.servedRead State.readEvent
  | .testReady => s.served fun s => s.plain 0x11 [] fun s => s.finish s.readiness
  | .requestSense => s.served fun s => s.plain 0x12 [] fun s => s.enterDataIn s.csq.sense.bytes
  | .readEngineState => s.served fun s => s.plain 0x13 [] fun s => s.enterDataIn s.engineState
  | .sensorRead => s.served fun s => s.plain 0x14 [] fun s => s.enterDataIn s.sensorBytes
  | .setMediaParameters => s.served fun s => s.withPayload 0x21 s.busyChecks 18 s.mediaChecks
      (State.completeAfter fun s => (s.useProfile (Profile.ofBytes s.csq.body), .ok))
  | .readMediaParameters => s.served fun s => s.plain 0x22 [] fun s => s.enterDataIn s.mediaBytes
  | .setMechanismParameters strap decay => s.served fun s => s.setMechanism strap decay
  | .storeProfile strap decay => s.served fun s => s.storeProfile strap decay
  | .loadProfile decay => s.served fun s => s.loadSlot decay
  | .verifyProfiles decay => s.served fun s => s.verifyStore decay
  | .recordCopyWrite differs => s.served fun s => s.attemptEnds differs
  | .defineGlyph => s.served fun s => s.withPayload 0x31 (s.defineChecks s.csq.block) (glyphBytes s.csq.block + 2)
      (s.defineChecks s.csq.block ++ s.roomChecks (glyphBytes s.csq.block)) (State.completeAfter State.commitDefine)
  | .deleteGlyph => s.served fun s =>
      s.plain 0x32 (s.deleteChecks s.csq.block) (State.completeAfter State.commitDelete)
  | .compactGlyphs => s.served fun s => s.plain 0x33 [] fun s =>
      ({ s with csq := { s.csq with stage := .compacting } } : State).conclude
  | .glyphMove => s.served State.moveEnds
  | .readGlyphEntry => s.served fun s => s.plain 0x34 [] fun s => s.enterDataIn (s.entryBytes (glyphId s.csq.block))
  | .openLabel => s.served fun s => s.plain 0x41 s.openChecks (State.completeAfter State.commitOpen)
  | .placeGlyph => s.served fun s =>
      let p := glyphPlacement s.csq.block
      s.plain 0x42 (s.placementChecks ++ s.definedCheck p.uses ++ s.placementResources p)
        (State.completeAfter fun s => s.commitPlacement p)
  | .placeText => s.served fun s =>
      let p := textPlacement s.csq.block s.csq.body
      s.withPayload 0x43 s.placementChecks (num8 s.csq.block 9 + 2)
        (idFields s.csq.body ++ s.placementChecks ++ s.definedCheck p.uses ++ s.placementResources p)
        (State.completeAfter fun s => s.commitPlacement p)
  | .placeRule => s.served fun s =>
      let p := rulePlacement s.csq.block
      s.plain 0x44 (s.placementChecks ++ s.placementResources p) (State.completeAfter fun s => s.commitPlacement p)
  | .placeImage => s.served fun s =>
      let b := s.csq.block
      let p := imagePlacement b s.csq.body
      s.withPayload 0x45 s.placementChecks (bitmapBytes (num16 b 6) (num16 b 8) + 2)
        (s.placementChecks ++ s.placementResources p) (State.completeAfter fun s => s.commitPlacement p)
  | .closeLabel => s.served fun s => s.plain 0x46 s.openNeeded (State.completeAfter State.commitClose)
  | .discardLabel => s.served fun s => s.plain 0x47 s.openNeeded (State.completeAfter State.commitDiscard)
  | .cancelLabels => s.served fun s => s.plain 0x48 [] State.cancelNow
  | .setRunGate => s.served fun s => s.plain 0x49 []
      (State.completeAfter fun s => ({ s with lbq := { s.lbq with gate := num8 s.csq.block 2 == 1 } }, .ok))
  | .feed => s.served (State.motion · 0x51)
  | .advanceToEdge => s.served (State.motion · 0x52)
  | .calibrateMedia => s.served (State.motion · 0x53)
  | .present => s.served (State.motion · 0x54)
  | .retract => s.served (State.motion · 0x55)
  | .resume => s.served (State.motion · 0x56)
  | .ramTest => s.served fun s => s.plain 0x61 s.ramTestChecks fun s =>
      { s with csq := { s.csq with stage := .ramTesting 0 } }
  | .ramByteTest answer =>
      match s.csq.stage with
      | .ramTesting offset => s.served (State.testByte · offset answer)
      | _ => s
  | .motionWaitTimeout => s.served State.waitExpires
  | .bandRender => s.served fun s =>
      if s.ring.composing.isSome && s.gst.moving.isNone then s.renderBand.conclude else s
  | .lineStep level elapsed => s.served fun s =>
      if s.forwardDue && !s.sampleDue then (s.advanceClock elapsed).lineStep level else s
  | .backwardStep elapsed => s.served fun s => if s.backwardDue then (s.advanceClock elapsed).backStep else s
  | .runStart => s.served fun s => if s.mayRun then s.startRun.conclude else s
  | .temperatureSample degrees => s.served fun s =>
      ((s.sampleHead degrees).readRequests s.hdu.thermal.crit).conclude
  | .headStateChange => s.served fun s => s.headChanges.conclude
  | .idleSample level => s.served fun s => if s.msu.idleTimer.isSome then (s.idleStep level).conclude else s
  | .autoRecover => s.served fun s =>
      if s.eng.settle.isSome && s.eng.cond == .halted then
        ((s.enterRecovery s.nvs.profile.discard).beginRecoveryFind).conclude
      else s
  | .motorRelease => s.served fun s =>
      if s.fmu.energised && s.fmu.idleTimer.isSome && s.fmu.speed == 0 && !s.fmu.settling then s.releaseMotor else s
  | .refusedDataPortAccess access => s.dataAccess access
  | .resetInputHeld => s.outOfService .held

/-- A row that goes on to a next machine has made its effect. -/
theorem exec_rowEffect {i : Instr} {s t : State} (h : exec i s = .next t) : t = rowEffect i s := by
  cases i with
  | ramByteTest answer =>
    change execRamByteTest answer s = .next t at h
    cases stage : s.csq.stage with
    | ramTesting offset =>
      simp only [execRamByteTest, stage] at h
      simp only [rowEffect, stage]
      split at h
      · cases h
      · exact (Host.Outcome.next.inj h).symm
    | idle | validate | finish | waiting | compacting | writing write | moving =>
      simp only [execRamByteTest, stage] at h
      simp only [rowEffect, stage]
      exact (Host.Outcome.next.inj h).symm
  | dackCycle access => cases access <;> exact (Host.Outcome.next.inj h).symm
  | _ => exact (Host.Outcome.next.inj h).symm

/-- An invariant that does not look at the queue is kept by every step when every row's effect keeps it. -/
theorem step_keeps {P : State → Prop} (queue : ∀ (s : State) (l : List Instr), P s → P (s.withPending l))
    (row : ∀ (i : Instr) (s : State), P s → P (rowEffect i s)) {s t : State} (hs : P s) (h : step s = .next t) :
    P t := by
  cases p : s.pending with
  | nil =>
    rw [step, p] at h
    exact Host.Outcome.next.inj h ▸ hs
  | cons i rest =>
    rw [step_cons p] at h
    exact exec_rowEffect h ▸ row i _ (queue s rest hs)

/-! ### The ways to an operation -/

variable (P : State → Prop) {s : State}

/-- R20: a row is ignored, or its operation is carried out in service. -/
theorem State.served_elim {f : State → State} (same : P s) (acts : s.InService → P (f s)) : P (s.served f) := by
  by_cases h : s.InService
  · rw [State.served_inService h]
    exact acts h
  · rwa [State.served_outOfService h]

theorem State.servedRead_elim {f : State → State} (ignored : P { s with hpu := { s.hpu with bus := 0xFF } })
    (acts : s.InService → P (f s)) : P (s.servedRead f) := by
  by_cases h : s.InService
  · simpa [State.servedRead, State.running, h] using acts h
  · simpa [State.servedRead, State.running, h] using ignored

/-- R23, R29: a command is refused, ends with a pending Break, or commits. -/
theorem State.act_elim {checks : List (Bool × Ending)} {commit : State → State} (ends : ∀ e, P (s.finish e))
    (commits : firstOf checks = none → s.hpu.breakPending = false → P (commit s)) : P (s.act checks commit) := by
  rw [State.act]
  split
  · exact ends _
  · next passed =>
    split
    · exact ends _
    · next clear => exact commits passed (by simpa using clear)

/-- What `inHand` says. -/
theorem State.inHand_iff {code : Byte} {stage : Stage} :
    s.inHand code stage = true ↔
      s.hpu.phase = .execute ∧ s.csq.stage = stage ∧ s.csq.block.head? = some code := by
  simp [State.inHand, and_assoc]

/-- R29: a command without a payload is not due, or acts. -/
theorem State.plain_elim {code : Byte} {checks : List (Bool × Ending)} {commit : State → State} (same : P s)
    (ends : s.inHand code .validate = true → ∀ e, P (s.finish e))
    (commits : s.inHand code .validate = true → firstOf checks = none → s.hpu.breakPending = false → P (commit s)) :
    P (s.plain code checks commit) := by
  rw [State.plain]
  split
  · next due =>
    refine State.act_elim P (ends due) fun passed clear => commits due ?_ clear
    rw [firstOf_append, Option.or_eq_none_iff] at passed
    exact passed.2
  · exact same

/-- R26, R28: a command with a payload is not due, asks for its payload, or acts on it. -/
theorem State.withPayload_elim {code : Byte} {checks again : List (Bool × Ending)} {length : Nat}
    {commit : State → State} (same : P s)
    (ends : s.inHand code .validate = true ∨ s.inHand code .finish = true → ∀ e, P (s.finish e))
    (asks : s.inHand code .validate = true → firstOf checks = none → P (s.enterDataOut length))
    (commits : s.inHand code .finish = true → firstOf again = none → s.hpu.breakPending = false → P (commit s)) :
    P (s.withPayload code checks length again commit) := by
  rw [State.withPayload]
  split
  · next due =>
    refine State.act_elim P (ends (.inl due)) fun passed _ => asks due ?_
    rw [firstOf_append, Option.or_eq_none_iff] at passed
    exact passed.2
  split
  · next due =>
    refine State.act_elim P (ends (.inr due)) fun passed clear => commits due ?_ clear
    rw [← List.singleton_append, firstOf_append, Option.or_eq_none_iff] at passed
    exact passed.2
  · exact same

/-- R23, R36: a motion command is not due, is refused, waits behind a free motion, or is at step 5. -/
theorem State.motion_elim {code : Byte} (same : P s)
    (ends : s.inHand code .validate = true → ∀ e, P (s.finish e))
    (waits : s.inHand code .validate = true → s.fmu.motion ≠ none →
      P { s with csq := { s.csq with stage := .waiting, waitTimer := some Config.motionWait } })
    (commits : s.inHand code .validate = true → s.fmu.motion = none → firstOf s.motionChecksFor = none →
      s.hpu.breakPending = false → P s.commitMotion.conclude) : P (s.motion code) := by
  rw [State.motion]
  split
  · next due =>
    split
    · exact ends due _
    · split
      · next moving =>
        split
        · exact ends due _
        · exact waits due (Option.isSome_iff_ne_none.1 moving)
      · next still =>
        refine State.act_elim P (ends due) fun passed clear => commits due ?_ passed clear
        simpa using still
  · exact same

end Sys2Proof.Machine
end

section
/-! Two frames of every row: the memories stay in their canonical form (log 49), and the media moves in motor steps and
resets alone (R110). -/

namespace Sys2Proof.Machine

/-- R29: a command that completes after its effect leaves what neither its effect nor what follows touches. -/
@[simp] theorem State.completeAfter_keeps (effect : State → State × Ending) (s : State) :
    (State.completeAfter effect s).ram = (effect s).1.ram ∧ (State.completeAfter effect s).nvs = (effect s).1.nvs ∧
    (State.completeAfter effect s).hdu = (effect s).1.hdu ∧ (State.completeAfter effect s).strap = (effect s).1.strap ∧
    (State.completeAfter effect s).pending = (effect s).1.pending ∧
    (State.completeAfter effect s).fmu.pos = (effect s).1.fmu.pos ∧
    (State.completeAfter effect s).hpu.service = (effect s).1.hpu.service ∧
    (State.completeAfter effect s).eng.headOpen = (effect s).1.eng.headOpen := by
  simp [State.completeAfter]

/-- R157: SET MECHANISM PARAMETERS is not in hand, or acts with the strap sampled and the store read. -/
theorem State.setMechanism_elim (P : State → Prop) {s : State} {strap : Bool} {decay : List Decay} (same : P s)
    (acts : s.inHand 0x23 .validate = true ∨ s.inHand 0x23 .finish = true →
      P (((s.sampleStrap strap).readStore decay).withPayload 0x23
        (((s.sampleStrap strap).readStore decay).busyChecks ++ [((s.sampleStrap strap).readStore decay).strapCheck 0]) 12
        ((s.sampleStrap strap).readStore decay).mechanismPayloadChecks State.commitMechanism)) :
    P (s.setMechanism strap decay) := by
  rw [State.setMechanism]
  split
  · next due => exact acts (by simpa using due)
  · exact same

/-- R111 parts 1 and 2: a forward step raises the position by 1, and prints what the line leaves of the queue. -/
@[simp] theorem State.lineParts12_keeps (s : State) :
    s.lineParts12.hpu = s.hpu ∧ s.lineParts12.csq = s.csq ∧ s.lineParts12.nvs = s.nvs ∧ s.lineParts12.ram = s.ram ∧
    s.lineParts12.strap = s.strap ∧ s.lineParts12.pending = s.pending ∧
    s.lineParts12.fmu.pos = s.fmu.pos + 1 ∧ s.lineParts12.eng.headOpen = s.eng.headOpen ∧
    s.lineParts12.eng.cond = s.eng.cond := by
  have other (u : State) (v : Nat) : (u.stepForward v).hpu = u.hpu ∧ (u.stepForward v).csq = u.csq ∧
    (u.stepForward v).nvs = u.nvs ∧ (u.stepForward v).ram = u.ram ∧ (u.stepForward v).strap = u.strap ∧
    (u.stepForward v).pending = u.pending ∧ (u.stepForward v).eng = u.eng := ⟨rfl, rfl, rfl, rfl, rfl, rfl, rfl⟩
  simp only [State.lineParts12]
  split <;> split <;> simp [other]

@[simp] theorem State.lineStep_keeps (s : State) (level : Byte) :
    (s.lineStep level).ram = s.ram ∧ (s.lineStep level).strap = s.strap ∧ (s.lineStep level).pending = s.pending ∧
    (s.lineStep level).fmu.pos = s.fmu.pos + 1 ∧ (s.lineStep level).eng.headOpen = s.eng.headOpen ∧
    (s.lineStep level).hpu.service = s.hpu.service ∧ (s.lineStep level).nvs.mech = s.nvs.mech ∧
    (s.lineStep level).nvs.store = s.nvs.store := by
  simp [State.lineStep]

@[simp] theorem State.backStep_keeps (s : State) :
    s.backStep.ram = s.ram ∧ s.backStep.strap = s.strap ∧ s.backStep.pending = s.pending ∧
    s.backStep.fmu.pos = s.fmu.pos - 1 ∧ s.backStep.eng.headOpen = s.eng.headOpen ∧
    s.backStep.hpu.service = s.hpu.service ∧ s.backStep.nvs = s.nvs := by
  have other (u : State) : u.stepBackward.ram = u.ram ∧ u.stepBackward.strap = u.strap ∧
    u.stepBackward.pending = u.pending ∧ u.stepBackward.eng = u.eng ∧ u.stepBackward.hpu = u.hpu ∧
    u.stepBackward.nvs = u.nvs := ⟨rfl, rfl, rfl, rfl, rfl, rfl⟩
  simp only [State.backStep]
  split <;> simp [other]

/-! ### The form of the memories -/

theorem State.commitDefine_ram_wf {s : State} (h : s.ram.wf = true) : s.commitDefine.1.ram.wf = true :=
  State.defineGlyph_ram_wf h _ _ _ _

/-- The memories are in their canonical form. -/
abbrev State.RamWf (s : State) : Prop := s.ram.wf = true

/-- R54: whichever move ends, or none. -/
theorem State.moveEnds_ram_wf {s : State} (h : s.ram.wf = true) : s.moveEnds.ram.wf = true := by
  simp only [State.moveEnds]
  (repeat' split) <;> first | simpa using State.moveGlyph_ram_wf h _ _ | simpa using h

theorem State.finishMove_ram_wf {s : State} (h : s.ram.wf = true) : s.finishMove.ram.wf = true := by
  simp only [State.finishMove]
  split
  · exact State.moveGlyph_ram_wf h _ _
  · exact h

theorem State.testByte_ram_wf {s : State} (h : s.ram.wf = true) (offset : Nat) (answer : ByteTest) :
    (s.testByte offset answer).ram.wf = true := by
  simp only [State.testByte]
  split
  · simpa using h
  · exact State.byteFails_ram_wf h _ _

/-- R32, R164: a band render and a glyph move are finished, and nothing else is written. -/
theorem State.portReset_ram_wf {s : State} (h : s.ram.wf = true) (i : Inputs) : (s.portReset i).ram.wf = true := by
  have torn : (s.tearWrite i.torn).ram.wf = true := by simpa using h
  simpa [State.portReset, State.dealFirst] using State.finishMove_ram_wf (State.renderBand_ram_wf torn)

theorem State.powerUpNow_ram_wf {s : State} (h : s.ram.wf = true) (kind : Nat) (p : PowerUp) :
    (s.powerUpNow kind p).ram.wf = true := by
  simp only [State.powerUpNow]
  split
  · simpa [State.powerUp] using memoryAfterTest_wf _ _
  · simpa [State.outOfService] using State.finishMove_ram_wf (State.renderBand_ram_wf h)

/-- Of all rows a definition, a glyph move, a render, a byte test and the resets alone write memory. -/
theorem rowEffect_ram_wf (i : Instr) (s : State) (h : s.RamWf) : (rowEffect i s).RamWf := by
  have same {u : State} (e : u.ram = s.ram) : u.RamWf := by rwa [State.RamWf, e]
  cases i <;> simp only [rowEffect]
  case defineGlyph =>
    refine State.served_elim _ h fun _ => State.withPayload_elim _ h (fun _ _ => ?_) (fun _ _ => ?_) fun _ _ _ => ?_
    · exact same (by simp)
    · exact same (by simp)
    · simpa [State.RamWf] using State.commitDefine_ram_wf h
  case glyphMove => exact State.served_elim _ h fun _ => State.moveEnds_ram_wf h
  case bandRender =>
    refine State.served_elim _ h fun _ => ?_
    split
    · simpa [State.RamWf] using State.renderBand_ram_wf h
    · exact h
  case ramByteTest answer =>
    split
    · exact State.served_elim _ h fun _ => State.testByte_ram_wf h _ _
    · exact h
  case portReset value inputs => exact State.served_elim _ h fun _ => State.portReset_ram_wf h inputs
  case pinReset found => exact State.powerUpNow_ram_wf h 2 found
  case powerOnReset found => exact State.powerUpNow_ram_wf h 1 found
  case resetInputHeld =>
    simpa [State.RamWf, State.outOfService] using State.finishMove_ram_wf (State.renderBand_ram_wf h)
  case resultByteRead | completionByteRead | eventPortRead => exact State.servedRead_elim _ h fun _ => same (by simp)
  case dackCycle access | refusedDataPortAccess access =>
    cases access with
    | read => exact State.servedRead_elim _ h fun _ => same (by simp)
    | write b => exact State.served_elim _ h fun _ => same (by simp)
  case testReady | requestSense | readEngineState | sensorRead | readMediaParameters | readGlyphEntry | deleteGlyph
    | compactGlyphs | openLabel | placeGlyph | placeRule | closeLabel | discardLabel | cancelLabels | setRunGate
    | ramTest =>
    refine State.served_elim _ h fun _ => State.plain_elim _ h (fun _ _ => ?_) fun _ _ _ => ?_
    all_goals exact same (by simp)
  case setMediaParameters | placeText | placeImage =>
    refine State.served_elim _ h fun _ => State.withPayload_elim _ h (fun _ _ => ?_) (fun _ _ => ?_) fun _ _ _ => ?_
    all_goals exact same (by simp)
  case setMechanismParameters strap decay =>
    refine State.served_elim _ h fun _ => State.setMechanism_elim _ h fun _ => ?_
    refine State.withPayload_elim _ h (fun _ _ => ?_) (fun _ _ => ?_) fun _ _ _ => ?_
    all_goals exact same (by simp)
  case storeProfile | loadProfile | verifyProfiles =>
    refine State.served_elim _ h fun _ => ?_
    simp only [State.storeProfile, State.loadSlot, State.verifyStore]
    split
    · refine State.plain_elim _ h (fun _ _ => ?_) fun _ _ _ => ?_
      all_goals exact same (by simp)
    · exact h
  case lineStep | backwardStep | runStart | idleSample | autoRecover | motorRelease =>
    refine State.served_elim _ h fun _ => ?_
    split
    · exact same (by simp)
    · exact h
  all_goals exact State.served_elim _ h fun _ => same (by simp)

/-- Settles O55, row by row. -/
theorem memoryFormIsKept : Obligations.MemoryFormIsKept := fun _ _ h step =>
  step_keeps (P := State.RamWf) (fun _ _ h => h) rowEffect_ram_wf h step

/-! ### The position of the media -/

/-- The queue of rows and the position are as they were. -/
abbrev State.Rests (s t : State) : Prop := t.pending = s.pending ∧ t.fmu.pos = s.fmu.pos

/-- R110: rows other than motor steps and resets. -/
theorem rowEffect_rests (i : Instr) (s : State) (steps : ∀ level elapsed, i ≠ .lineStep level elapsed)
    (back : ∀ elapsed, i ≠ .backwardStep elapsed) (port : ∀ value inputs, i ≠ .portReset value inputs)
    (power : ∀ found, i ≠ .pinReset found ∧ i ≠ .powerOnReset found) : s.Rests (rowEffect i s) := by
  have h : s.Rests s := ⟨rfl, rfl⟩
  have rests {u : State} (p : u.pending = s.pending) (q : u.fmu.pos = s.fmu.pos) : s.Rests u := ⟨p, q⟩
  cases i <;> simp only [rowEffect]
  case lineStep level elapsed => exact absurd rfl (steps level elapsed)
  case backwardStep elapsed => exact absurd rfl (back elapsed)
  case portReset value inputs => exact absurd rfl (port value inputs)
  case pinReset found => exact absurd rfl (power found).1
  case powerOnReset found => exact absurd rfl (power found).2
  case resetInputHeld => exact rests (by simp) (by simp)
  case ramByteTest answer =>
    split
    · exact State.served_elim _ h fun _ => rests (by simp) (by simp)
    · exact h
  case resultByteRead | completionByteRead | eventPortRead => exact State.servedRead_elim _ h fun _ => rests (by simp) (by simp)
  case dackCycle access | refusedDataPortAccess access =>
    cases access with
    | read => exact State.servedRead_elim _ h fun _ => rests (by simp) (by simp)
    | write b => exact State.served_elim _ h fun _ => rests (by simp) (by simp)
  case testReady | requestSense | readEngineState | sensorRead | readMediaParameters | readGlyphEntry | deleteGlyph
    | compactGlyphs | openLabel | placeGlyph | placeRule | closeLabel | discardLabel | cancelLabels | setRunGate
    | ramTest =>
    refine State.served_elim _ h fun _ => State.plain_elim _ h (fun _ _ => ?_) fun _ _ _ => ?_
    all_goals exact rests (by simp) (by simp)
  case setMediaParameters | defineGlyph | placeText | placeImage =>
    refine State.served_elim _ h fun _ => State.withPayload_elim _ h (fun _ _ => ?_) (fun _ _ => ?_) fun _ _ _ => ?_
    all_goals exact rests (by simp) (by simp)
  case setMechanismParameters strap decay =>
    refine State.served_elim _ h fun _ => State.setMechanism_elim _ h fun _ => ?_
    refine State.withPayload_elim s.Rests (rests (by simp) (by simp)) (fun _ _ => ?_) (fun _ _ => ?_) fun _ _ _ => ?_
    all_goals exact rests (by simp) (by simp)
  case storeProfile | loadProfile | verifyProfiles =>
    refine State.served_elim _ h fun _ => ?_
    simp only [State.storeProfile, State.loadSlot, State.verifyStore]
    split
    · refine State.plain_elim s.Rests (rests (by simp) (by simp)) (fun _ _ => ?_) fun _ _ _ => ?_
      all_goals exact rests (by simp) (by simp)
    · exact h
  case bandRender | runStart | idleSample | autoRecover | motorRelease =>
    refine State.served_elim _ h fun _ => ?_
    split
    · exact rests (by simp) (by simp)
    · exact h
  all_goals exact State.served_elim _ h fun _ => rests (by simp) (by simp)

/-- Table 11-1: a port reset sets the position to 0. -/
theorem State.portReset_pos (s : State) (i : Inputs) : (s.portReset i).fmu.pos = 0 := by
  simp [State.portReset, State.clearBlocks, State.reset]

/-- Table 11-1, R32: an ended power-up sequence sets the position to 0; the media stands still until it has ended. -/
theorem State.powerUpNow_pos (s : State) (kind : Nat) (p : PowerUp) :
    (s.powerUpNow kind p).fmu.pos = if p.ends then 0 else s.fmu.pos := by
  simp only [State.powerUpNow]
  split <;> simp [State.powerUp, State.clearBlocks, State.reset]

/-- Settles O59: the motor steps, the resets, and every other row. -/
theorem onlyMotorStepsMoveTheMedia : Obligations.OnlyMotorStepsMoveTheMedia := by
  intro i s t h
  rw [exec_rowEffect h]
  cases i
  case lineStep level elapsed =>
    refine State.served_elim (fun u => u.pending = s.pending ∧ (u.fmu.pos = s.fmu.pos ∨ u.fmu.pos = s.fmu.pos + 1))
      (by simp) fun _ => ?_
    split <;> simp
  case backwardStep elapsed =>
    refine State.served_elim (fun u => u.pending = s.pending ∧ (u.fmu.pos = s.fmu.pos ∨ u.fmu.pos = s.fmu.pos - 1))
      (by simp) fun _ => ?_
    split <;> simp
  case portReset value inputs =>
    exact State.served_elim (fun u => u.pending = s.pending ∧ (u.fmu.pos = s.fmu.pos ∨ u.fmu.pos = 0))
      (by simp) fun _ => ⟨by simp, .inr (s.portReset_pos inputs)⟩
  case pinReset found => exact ⟨by simp [rowEffect], s.powerUpNow_pos 2 found⟩
  case powerOnReset found => exact ⟨by simp [rowEffect], s.powerUpNow_pos 1 found⟩
  all_goals exact rowEffect_rests _ s nofun nofun nofun fun _ => ⟨nofun, nofun⟩

end Sys2Proof.Machine
end

section
/-! The phase of the port and the stage of the sequencer agree in every step (R5 to R10, R14, R23, R30). Whatever ends the
command in hand leaves them agreeing, and so does an operation that leaves both alone; a commit acts in EXECUTE. -/

namespace Sys2Proof.Machine

variable {s t : State}

/-- R5 to R10: the port and the sequencer alone are looked at. -/
theorem State.PortWf.of_eq (h : s.PortWf) (hp : t.hpu = s.hpu) (hc : t.csq = s.csq) : t.PortWf := by
  simpa only [State.PortWf, hp, hc] using h

/-- A command at work, past its first act, is in EXECUTE. -/
theorem State.PortWf.executes (h : s.PortWf) (i : s.csq.stage ≠ .idle) (v : s.csq.stage ≠ .validate) :
    s.hpu.phase = .execute :=
  (h.1 i).resolve_right fun d => v d.2

/-- In EXECUTE no byte timeout runs. -/
theorem State.PortWf.timerStopped (h : s.PortWf) (x : s.hpu.phase = .execute) : s.hpu.byteTimer = none := by
  by_contra running
  simpa [x] using h.2.2 running

/-- In EXECUTE any stage agrees with the phase. -/
theorem State.PortWf.of_execute (x : t.hpu.phase = .execute) (timer : t.hpu.byteTimer = none) : t.PortWf :=
  ⟨fun _ => .inl x, by simp [x], by simp [timer]⟩

/-- In EXECUTE the sequencer may change its stage. -/
theorem State.PortWf.of_hpu (h : s.PortWf) (x : s.hpu.phase = .execute) (hp : t.hpu = s.hpu) : t.PortWf :=
  .of_execute (by rw [hp, x]) (by rw [hp, h.timerStopped x])

/-- R10: in COMPLETION nothing is in hand. -/
theorem State.complete_portWf (s : State) (keep : Bool) (e : Ending) : (s.complete keep e).PortWf := by
  simp [State.PortWf, State.complete]

theorem State.finish_portWf (s : State) (e : Ending) : (s.finish e).PortWf := s.complete_portWf _ e

/-! ### The ends of motion and the halts -/

/-- R33 to R35: an attached command completes, and otherwise the port is left alone. -/
theorem State.endMotion_portWf (h : s.PortWf) (e : Ending) : (s.endMotion e).PortWf := by
  cases m : s.fmu.motion with
  | none =>
    simp only [State.endMotion, m]
    exact h.of_eq rfl rfl
  | some f =>
    cases o : f.owner with
    | attached => simpa [State.endMotion, m, o] using State.finish_portWf _ e
    | detached =>
      simp only [State.endMotion, m, o]
      exact h.of_eq (by simp) (by simp)
    | engine =>
      simp only [State.endMotion, m, o]
      exact h.of_eq rfl rfl

theorem State.failFreeMove_portWf (h : s.PortWf) (code : SenseCode) : (s.failFreeMove code).PortWf :=
  State.endMotion_portWf (h.of_eq (by simp) (by simp)) _

theorem State.abortFreeMove_portWf (h : s.PortWf) : s.abortFreeMove.PortWf :=
  State.endMotion_portWf (h.of_eq (by simp) (by simp)) _

theorem State.failSearch_portWf (h : s.PortWf) : s.failSearch.PortWf :=
  State.endMotion_portWf (h.of_eq (by simp) (by simp)) _

theorem State.stopForMediaOut_portWf (h : s.PortWf) : s.stopForMediaOut.PortWf := by
  rw [State.stopForMediaOut]
  split
  · exact h
  split
  · exact State.failFreeMove_portWf h _
  · exact h.of_eq (by simp) (by simp)

theorem State.halt_portWf (h : s.PortWf) (cs : List Cause) : (s.halt cs).PortWf :=
  State.endMotion_portWf (h.of_eq (by simp) (by simp)) _

theorem State.headOpens_portWf (h : s.PortWf) : s.headOpens.PortWf := by
  rw [State.headOpens]
  split
  · exact State.halt_portWf h _
  split
  · exact h.of_eq (by simp) (by simp)
  split
  · exact State.failFreeMove_portWf h _
  · exact h

theorem State.mediaGone_portWf (h : s.PortWf) : s.mediaGone.PortWf := by
  rw [State.mediaGone]
  split
  · exact State.halt_portWf h _
  split
  · exact h.of_eq (by simp) (by simp)
  split
  · split
    · exact h.of_eq (by simp) (by simp)
    · exact State.stopForMediaOut_portWf (h.of_eq (by simp) (by simp))
  · exact h

/-! ### Recovery, stops and Breaks -/

/-- R148: the engine that a recovery which succeeds leaves, before RECOVERED is posted. -/
def State.recoveredEngine (s : State) : State :=
  if s.toStopped.lbq.queue.isEmpty then { s.toStopped with eng := { s.toStopped.eng with cond := .idle } }
  else
    let s := ({ s.toStopped with eng := { s.toStopped.eng with cond := .running } } : State).beginRun
    if s.hdu.thermal.hold && !s.hdu.thermal.crit then s.enterHold else s.reviewRun

theorem State.recovered_eq (s : State) : s.recovered = (s.recoveredEngine.post ⟨.recovered,
    BitVec.ofNat 8 s.recoveredEngine.eng.applied, s.recoveredEngine.eng.recLabel,
    low16 s.recoveredEngine.fmu.pos⟩).endMotion .ok := rfl

@[simp] theorem State.recoveredEngine_keeps (s : State) :
    s.recoveredEngine.hpu = s.hpu ∧ s.recoveredEngine.csq = s.csq ∧ s.recoveredEngine.gst = s.gst ∧
    s.recoveredEngine.lbq = s.lbq ∧ s.recoveredEngine.ring = s.ring ∧ s.recoveredEngine.hdu = s.hdu ∧
    s.recoveredEngine.nvs = s.nvs ∧ s.recoveredEngine.ram = s.ram ∧ s.recoveredEngine.strap = s.strap ∧
    s.recoveredEngine.pending = s.pending ∧ s.recoveredEngine.fmu.pos = s.fmu.pos ∧
    s.recoveredEngine.eng.headOpen = s.eng.headOpen := by
  simp only [State.recoveredEngine]
  split
  · simp
  · split <;> simp

theorem State.recovered_portWf (h : s.PortWf) : s.recovered.PortWf := by
  rw [State.recovered_eq]
  exact State.endMotion_portWf (h.of_eq (by simp) (by simp)) _

theorem State.recoveryFind_portWf (h : s.PortWf) : s.recoveryFind.PortWf := by
  rw [State.recoveryFind]
  split
  · exact State.recovered_portWf (h.of_eq (by simp) (by simp))
  simp only
  split
  · exact State.recovered_portWf (h.of_eq (by simp) (by simp))
  · exact h.of_eq (by simp) (by simp)

theorem State.beginRecoveryFind_portWf (h : s.PortWf) : s.beginRecoveryFind.PortWf := by
  rw [State.beginRecoveryFind]
  split
  · exact h
  · exact State.recoveryFind_portWf h

theorem State.breakRecovery_portWf (s : State) : s.breakRecovery.PortWf := State.finish_portWf _ _

theorem State.stopEnded_portWf (h : s.PortWf) : s.stopEnded.PortWf := by
  rw [State.stopEnded]
  split
  · exact h.of_eq (by simp) (by simp)
  · split <;> exact h.of_eq (by simp) (by simp)
  · split
    · exact State.recoveryFind_portWf (h.of_eq (by simp) (by simp))
    · exact h.of_eq (by simp) (by simp)
  · exact State.failFreeMove_portWf h _
  · split
    · exact s.breakRecovery_portWf
    · exact State.abortFreeMove_portWf h
  · exact State.failSearch_portWf h

theorem State.breakMotion_portWf (h : s.PortWf) : s.breakMotion.PortWf := by
  rw [State.breakMotion]
  split
  · split
    · exact h.of_eq rfl rfl
    split
    · exact s.breakRecovery_portWf
    · exact h.of_eq (by simp) (by simp)
  split
  · exact h
  split
  · exact State.abortFreeMove_portWf h
  · exact h.of_eq (by simp) (by simp)

/-! ### The commits of the motion commands -/

/-- R33, R34: a detached command ends, an attached one is at work in EXECUTE. -/
theorem State.accept_portWf (h : s.PortWf) (x : s.hpu.phase = .execute) (code : Byte) : (s.accept code).PortWf := by
  simp only [State.accept]
  split
  · exact State.finish_portWf _ _
  · exact h.of_hpu x rfl

theorem State.commitFeed_portWf (h : s.PortWf) (x : s.hpu.phase = .execute) : s.commitFeed.PortWf := by
  simp only [State.commitFeed]
  split
  · exact State.finish_portWf _ _
  split
  · exact State.accept_portWf (h.of_eq (by simp) (by simp)) (by simpa) _
  · exact State.accept_portWf (h.of_eq (by simp) (by simp)) (by simpa) _

theorem State.commitAdvance_portWf (h : s.PortWf) (x : s.hpu.phase = .execute) : s.commitAdvance.PortWf := by
  simp only [State.commitAdvance]
  split
  · exact State.accept_portWf (h.of_eq (by simp) (by simp)) (by simpa) _
  split
  · exact State.finish_portWf _ _
  · exact State.accept_portWf (h.of_eq (by simp) (by simp)) (by simpa) _

theorem State.commitCalibrate_portWf (h : s.PortWf) (x : s.hpu.phase = .execute) : s.commitCalibrate.PortWf :=
  State.accept_portWf (h.of_eq (by simp) (by simp)) (by simpa) _

theorem State.commitPresent_portWf (h : s.PortWf) (x : s.hpu.phase = .execute) : s.commitPresent.PortWf := by
  simp only [State.commitPresent]
  split
  · exact State.finish_portWf _ _
  split
  · exact State.finish_portWf _ _
  · exact State.accept_portWf (h.of_eq (by simp) (by simp)) (by simpa) _

theorem State.commitRetract_portWf (h : s.PortWf) (x : s.hpu.phase = .execute) : s.commitRetract.PortWf := by
  simp only [State.commitRetract]
  split
  · exact State.finish_portWf _ _
  split
  · exact State.finish_portWf _ _
  · exact State.accept_portWf (h.of_eq (by simp) (by simp)) (by simpa) _

theorem State.commitResume_portWf (h : s.PortWf) (x : s.hpu.phase = .execute) : s.commitResume.PortWf := by
  simp only [State.commitResume]
  split
  · exact State.beginRecoveryFind_portWf (State.accept_portWf (h.of_eq (by simp) (by simp)) (by simpa) _)
  · exact State.finish_portWf _ _

theorem State.commitMotion_portWf (h : s.PortWf) (x : s.hpu.phase = .execute) : s.commitMotion.PortWf := by
  rw [State.commitMotion]
  split
  · exact State.commitFeed_portWf h x
  · exact State.commitAdvance_portWf h x
  · exact State.commitCalibrate_portWf h x
  · exact State.commitPresent_portWf h x
  · exact State.commitRetract_portWf h x
  · exact State.commitResume_portWf h x

/-! ### What follows in the same step -/

/-- R36: a command that waits is in EXECUTE, where it goes on to step 5. -/
theorem State.endWait_portWf (h : s.PortWf) : s.endWait.PortWf := by
  rw [State.endWait]
  split
  · next waits =>
    have x : s.hpu.phase = .execute := h.executes (by simp [waits.1]) (by simp [waits.1])
    have v : ({ s with csq := { s.csq with stage := .validate, waitTimer := none } } : State).PortWf := h.of_hpu x rfl
    exact State.act_elim _ (fun e => State.finish_portWf _ e) fun _ _ => State.commitMotion_portWf v x
  · exact h

theorem State.compactOn_portWf (h : s.PortWf) : s.compactOn.PortWf := by
  rw [State.compactOn]
  split
  · split
    · exact State.finish_portWf _ _
    split
    · exact State.finish_portWf _ _
    split
    · exact h.of_eq rfl rfl
    · exact h
  · exact h

theorem State.conclude_portWf (h : s.PortWf) : s.conclude.PortWf :=
  (State.compactOn_portWf (State.endWait_portWf h)).of_eq (by simp [State.conclude]) (by simp [State.conclude])

theorem State.completeAfter_portWf (s : State) (effect : State → State × Ending) : (s.completeAfter effect).PortWf :=
  State.finish_portWf _ _

/-! ### Motor steps and the other steps of the engine -/

theorem State.stopForFault_portWf (h : s.PortWf) (absent lost : Bool) : (s.stopForFault absent lost).PortWf := by
  rw [State.stopForFault]
  split
  · exact State.halt_portWf h _
  split
  · exact State.mediaGone_portWf h
  · exact h

theorem State.endFreeMove_portWf (h : s.PortWf) : s.endFreeMove.PortWf :=
  State.endMotion_portWf (h.of_eq (by simp) (by simp)) _

theorem State.targetReached_portWf (h : s.PortWf) : s.targetReached.PortWf := by
  rw [State.targetReached]
  split <;> exact State.endFreeMove_portWf (h.of_eq (by simp) (by simp))

theorem State.endOfFreeStep_portWf (h : s.PortWf) (m : MoveEnd) : (s.endOfFreeStep m).PortWf := by
  cases m with
  | found =>
    simp only [State.endOfFreeStep]
    split
    · exact State.recovered_portWf h
    · exact State.endFreeMove_portWf h
  | searchFailed =>
    simp only [State.endOfFreeStep, State.searchFails]
    split
    · exact State.failSearch_portWf h
    · exact h.of_eq (by simp) (by simp)
  | calibrated => exact State.endFreeMove_portWf (h.of_eq (by simp) (by simp))
  | calibrationFailed e => exact State.endMotion_portWf (h.of_eq (by simp) (by simp)) e
  | goesOn =>
    simp only [State.endOfFreeStep]
    split
    · exact State.targetReached_portWf h
    · exact h

theorem State.endOfStep_portWf (h : s.PortWf) (m : MoveEnd) : (s.endOfStep m).PortWf := by
  rw [State.endOfStep]
  split
  · exact h
  · split
    · exact State.stopEnded_portWf h
    · exact h
  · exact State.endOfFreeStep_portWf h m
  · exact h.of_eq (by simp) (by simp)

theorem State.lineStep_portWf (h : s.PortWf) (level : Byte) : (s.lineStep level).PortWf :=
  State.conclude_portWf (State.endOfStep_portWf (State.stopForFault_portWf (h.of_eq (by simp) (by simp)) _ _) _)

theorem State.backAtTarget_portWf (h : s.PortWf) : s.backAtTarget.PortWf := by
  rw [State.backAtTarget]
  split
  · simp only
    split
    · exact h.of_eq (by simp) (by simp)
    · exact State.endFreeMove_portWf (h.of_eq (by simp) (by simp))
  all_goals exact State.endFreeMove_portWf h

theorem State.backStep_portWf (h : s.PortWf) : s.backStep.PortWf := by
  have stepped : s.stepBackward.strobeNothing.PortWf := h.of_eq (by simp; rfl) (by simp; rfl)
  refine State.conclude_portWf ?_
  split
  · exact State.backAtTarget_portWf stepped
  · exact stepped

theorem State.readRequests_portWf (h : s.PortWf) (before : Bool) : (s.readRequests before).PortWf := by
  simp only [State.readRequests]
  split
  · split
    · exact State.halt_portWf (h.of_eq (by simp) (by simp)) _
    split <;> exact h.of_eq (by simp) (by simp)
  split
  · exact h.of_eq (by simp) (by simp)
  split
  · exact h.of_eq (by simp) (by simp)
  · exact h

theorem State.headChanges_portWf (h : s.PortWf) : s.headChanges.PortWf := by
  simp only [State.headChanges]
  split
  · exact State.headOpens_portWf (h.of_eq (by simp) (by simp))
  · exact h.of_eq (by simp) (by simp)

theorem State.idleStep_portWf (h : s.PortWf) (level : Byte) : (s.idleStep level).PortWf := by
  simp only [State.idleStep]
  split
  · exact State.mediaGone_portWf (h.of_eq (by simp) (by simp))
  · exact h.of_eq (by simp) (by simp)

/-! ### The rows of the host port -/

/-- R8: a command asks for its payload in its first EXECUTE. -/
theorem State.enterDataOut_portWf (x : s.csq.stage = .validate) (length : Nat) : (s.enterDataOut length).PortWf := by
  simp [State.PortWf, State.enterDataOut, x]

theorem State.enterDataIn_portWf (s : State) (bytes : List Byte) : (s.enterDataIn bytes).PortWf := by
  simp [State.PortWf, State.enterDataIn]

theorem State.handOver_portWf (s : State) (block : List Byte) : (s.handOver block).PortWf := by
  simp only [State.handOver]
  split
  · exact State.complete_portWf _ _ _
  split
  · exact State.finish_portWf _ _
  · exact .of_execute rfl rfl

theorem State.takeCommandByte_portWf (h : s.PortWf) (p : s.hpu.phase = .command) (b : Byte) :
    (s.takeCommandByte b).PortWf := by
  simp only [State.takeCommandByte]
  split
  · exact State.handOver_portWf _ _
  · exact ⟨h.1, h.2.1, by simp [p]⟩

theorem State.takePayloadByte_portWf (h : s.PortWf) (p : s.hpu.phase = .dataOut) (b : Byte) :
    (s.takePayloadByte b).PortWf := by
  simp only [State.takePayloadByte]
  split
  · exact .of_execute rfl rfl
  · exact ⟨h.1, h.2.1, by simp [State.raiseReq, p]⟩

theorem State.giveResultByte_portWf (h : s.PortWf) (p : s.hpu.phase = .dataIn) : s.giveResultByte.PortWf := by
  simp only [State.giveResultByte]
  split
  · exact State.finish_portWf _ _
  · exact ⟨h.1, h.2.1, by simp [State.raiseReq, p]⟩

/-- R10: after COMPLETION nothing is in hand. -/
theorem State.giveCompletionByte_portWf (h : s.PortWf) (p : s.hpu.phase = .completion) :
    s.giveCompletionByte.PortWf := by
  have idle : s.csq.stage = .idle := by
    by_contra busy
    simpa [p] using h.1 busy
  have timer : s.hpu.byteTimer = none := by
    by_contra running
    simpa [p] using h.2.2 running
  exact ⟨fun busy => absurd idle busy, fun _ => h.2.1 (by simp [p]), fun running => absurd timer running⟩

theorem State.refuseAccess_portWf (h : s.PortWf) (kind : Byte) : (s.refuseAccess kind).PortWf := by
  by_cases m : s.hpu.misuse = true
  · rwa [State.refuseAccess_latched m]
  · rw [State.refuseAccess_unlatched (by simpa using m)]
    simpa [State.PortWf] using h

theorem State.refuseRead_portWf (h : s.PortWf) : s.refuseRead.PortWf := State.refuseAccess_portWf (s := { s with
  hpu := { s.hpu with bus := 0xFF } }) h 3

theorem State.dataWrite_portWf (h : s.PortWf) (b : Byte) : (s.dataWrite b).PortWf := by
  cases p : s.hpu.phase with
  | command => simpa [State.dataWrite, p] using State.takeCommandByte_portWf h p b
  | dataOut => simpa [State.dataWrite, p] using State.takePayloadByte_portWf h p b
  | free | execute | dataIn | completion => simpa [State.dataWrite, p, State.refuseWrite] using State.refuseAccess_portWf h 2

theorem State.dataRead_portWf (h : s.PortWf) : s.dataRead.PortWf := by
  cases p : s.hpu.phase with
  | dataIn => simpa [State.dataRead, p] using State.giveResultByte_portWf h p
  | completion => simpa [State.dataRead, p] using State.giveCompletionByte_portWf h p
  | free | command | execute | dataOut => simpa [State.dataRead, p] using State.refuseRead_portWf h

theorem State.dataAccess_portWf (h : s.PortWf) (a : Access) : (s.dataAccess a).PortWf := by
  cases a with
  | read => exact State.servedRead_elim State.PortWf h fun _ => State.dataRead_portWf h
  | write b => exact State.served_elim State.PortWf h fun _ => State.dataWrite_portWf h b

theorem State.dack_portWf (h : s.PortWf) (a : Access) : (s.dack a).PortWf := by
  cases a with
  | read =>
    cases p : s.hpu.phase with
    | dataIn => simpa [State.dack, p] using State.giveResultByte_portWf h p
    | free | command | execute | dataOut | completion => simpa [State.dack, p] using State.refuseRead_portWf h
  | write b =>
    cases p : s.hpu.phase with
    | dataOut => simpa [State.dack, p] using State.takePayloadByte_portWf h p b
    | free | command | execute | dataIn | completion => simpa [State.dack, p, State.refuseWrite] using State.refuseAccess_portWf h 2

theorem State.selectNow_portWf (h : s.PortWf) : s.selectNow.PortWf := by
  by_cases p : s.hpu.phase = .free
  · rw [State.selectNow_free p]
    have idle : s.csq.stage = .idle := by
      by_contra busy
      simpa [p] using h.1 busy
    exact ⟨fun busy => absurd idle busy, fun _ => h.2.1 (by simp [p]), by simp⟩
  · rw [State.selectNow_refused p]
    exact State.refuseAccess_portWf h 1

theorem State.breakExecute_portWf (h : s.PortWf) : s.breakExecute.PortWf := by
  have pending : ({ s with hpu := { s.hpu with breakPending := true } } : State).PortWf := h
  simp only [State.breakExecute]
  split
  · exact h
  split
  · exact State.finish_portWf _ _
  · exact State.finish_portWf _ _
  · split
    · exact State.finish_portWf _ _
    · exact pending
  · exact State.breakMotion_portWf pending
  all_goals exact pending

theorem State.endEarly_portWf (s : State) (e : Ending) : (s.endEarly e).PortWf := State.finish_portWf _ e

theorem State.breakNow_portWf (h : s.PortWf) : s.breakNow.PortWf := by
  cases p : s.hpu.phase with
  | free | completion => simpa [State.breakNow, p] using h
  | command | dataOut | dataIn => simpa [State.breakNow, p] using State.endEarly_portWf s _
  | execute => simpa [State.breakNow, p] using State.conclude_portWf (State.breakExecute_portWf h)

/-- R153: a read of the Event Port touches the bus alone. -/
theorem State.readEvent_portWf (h : s.PortWf) : s.readEvent.PortWf := by
  cases q : s.eng.events with
  | nil =>
    simp only [State.readEvent, q]
    exact h
  | cons e rest =>
    simp only [State.readEvent, q]
    split
    · exact h
    · exact h

/-! ### Glyph moves, record writes, byte tests and resets -/

/-- R31, R54: GLYPH_MOVE finds no compaction at work, ends a move, or finds none to make. -/
theorem State.moveEnds_elim (P : State → Prop) (same : s.csq.stage ≠ .compacting → P s)
    (none : s.csq.stage = .compacting → P s.conclude)
    (moves : s.csq.stage = .compacting → ∀ cursor id,
      (s.gst.cursor = some cursor ∧ s.gst.moving = some id) ∨ s.gst.nextMove = some (cursor, id) →
      P (s.moveGlyph cursor id).conclude) : P s.moveEnds := by
  rw [State.moveEnds]
  split
  · next stage =>
    split
    · next cursor id at_ whose => exact moves stage cursor id (.inl ⟨at_, whose⟩)
    · split
      · next cursor id next =>
        split
        · exact none stage
        · exact moves stage cursor id (.inr next)
      · exact none stage
  · next stage => exact same stage

theorem State.moveEnds_portWf (h : s.PortWf) : s.moveEnds.PortWf :=
  State.moveEnds_elim _ (fun _ => h) (fun _ => State.conclude_portWf h)
    fun _ _ _ _ => State.conclude_portWf (h.of_eq (by simp) (by simp))

theorem State.attemptEnds_portWf (h : s.PortWf) (differs : List Byte) : (s.attemptEnds differs).PortWf := by
  cases stage : s.csq.stage with
  | writing w =>
    simp only [State.attemptEnds, stage]
    split
    · exact State.finish_portWf _ _
    split
    · exact State.finish_portWf _ _
    split
    · exact State.finish_portWf _ _
    · exact h.of_hpu (h.executes (by simp [stage]) (by simp [stage])) rfl
  | idle | validate | finish | waiting | compacting | ramTesting n | moving =>
    simpa only [State.attemptEnds, stage] using h

theorem State.testByte_portWf (h : s.PortWf) (x : s.hpu.phase = .execute) (offset : Nat) (answer : ByteTest) :
    (s.testByte offset answer).PortWf := by
  simp only [State.testByte, State.bytePasses]
  split
  · split
    · exact State.finish_portWf _ _
    split
    · exact State.finish_portWf _ _
    · exact h.of_hpu x rfl
  · exact State.finish_portWf _ _

theorem State.portReset_portWf (s : State) (i : Inputs) : (s.portReset i).PortWf := by
  simp [State.PortWf, State.portReset, State.clearBlocks, State.reset, State.readInputs, State.resetSample,
    State.sampleHead]

theorem State.outOfService_portWf (s : State) (service : Service) : (s.outOfService service).PortWf := by
  cases h : s.csq.stage <;> simp [State.PortWf, State.outOfService, State.reset, Stage.stopped, h]

theorem State.powerUpNow_portWf (s : State) (kind : Nat) (p : PowerUp) : (s.powerUpNow kind p).PortWf := by
  rw [State.powerUpNow]
  split
  · simp [State.PortWf, State.powerUp, State.clearBlocks, State.reset, State.readInputs, State.resetSample,
      State.sampleHead]
  · exact s.outOfService_portWf _

/-! ### Every row -/

/-- R5 to R10: whatever the row, the port and the sequencer agree after it. -/
theorem rowEffect_portWf (i : Instr) (s : State) (h : s.PortWf) : (rowEffect i s).PortWf := by
  have validate {u : State} {code : Byte} (d : u.inHand code .validate = true) : u.csq.stage = .validate :=
    (State.inHand_iff.1 d).2.1
  cases i <;> simp only [rowEffect]
  case select => exact State.served_elim _ h fun _ => State.selectNow_portWf h
  case breakRequest => exact State.served_elim _ h fun _ => State.breakNow_portWf h
  case notifyMaskWrite value => exact State.served_elim State.PortWf h fun _ => h
  case portReset value inputs => exact State.served_elim State.PortWf h fun _ => State.portReset_portWf _ _
  case pinReset found => exact State.powerUpNow_portWf _ _ _
  case powerOnReset found => exact State.powerUpNow_portWf _ _ _
  case resetInputHeld => exact State.outOfService_portWf _ _
  case commandByte | payloadByte | resultByteRead | completionByteRead | refusedDataPortAccess =>
    exact State.dataAccess_portWf h _
  case dackCycle access =>
    cases access with
    | read => exact State.servedRead_elim State.PortWf h fun _ => State.dack_portWf h _
    | write b => exact State.served_elim State.PortWf h fun _ => State.dack_portWf h _
  case byteTimeout =>
    refine State.served_elim _ h fun _ => ?_
    rw [State.timeoutNow]
    split
    · exact State.finish_portWf _ _
    · exact h
  case eventPortRead => exact State.servedRead_elim State.PortWf h fun _ => State.readEvent_portWf h
  case testReady =>
    exact State.served_elim _ h fun _ => State.plain_elim _ h (fun _ e => State.finish_portWf _ e)
      fun _ _ _ => State.finish_portWf _ _
  case requestSense | readEngineState | sensorRead | readMediaParameters | readGlyphEntry =>
    exact State.served_elim _ h fun _ => State.plain_elim _ h (fun _ e => State.finish_portWf _ e)
      fun _ _ _ => State.enterDataIn_portWf _ _
  case deleteGlyph | openLabel | placeGlyph | placeRule | closeLabel | discardLabel | setRunGate =>
    exact State.served_elim _ h fun _ => State.plain_elim _ h (fun _ e => State.finish_portWf _ e)
      fun _ _ _ => State.completeAfter_portWf _ _
  case cancelLabels =>
    refine State.served_elim _ h fun _ => State.plain_elim _ h (fun _ e => State.finish_portWf _ e) fun _ _ _ => ?_
    rw [State.cancelNow]
    split
    · exact State.finish_portWf _ _
    · exact State.completeAfter_portWf _ _
  case compactGlyphs =>
    refine State.served_elim _ h fun _ => State.plain_elim _ h (fun _ e => State.finish_portWf _ e) fun due _ _ => ?_
    exact State.conclude_portWf (h.of_hpu (State.inHand_iff.1 due).1 rfl)
  case ramTest =>
    refine State.served_elim _ h fun _ => State.plain_elim _ h (fun _ e => State.finish_portWf _ e) fun due _ _ => ?_
    exact h.of_hpu (State.inHand_iff.1 due).1 rfl
  case setMediaParameters | defineGlyph | placeText | placeImage =>
    exact State.served_elim _ h fun _ => State.withPayload_elim _ h (fun _ e => State.finish_portWf _ e)
      (fun due _ => State.enterDataOut_portWf (validate due) _) fun _ _ _ => State.completeAfter_portWf _ _
  case setMechanismParameters strap decay =>
    refine State.served_elim _ h fun _ => State.setMechanism_elim _ h fun _ => ?_
    refine State.withPayload_elim _ (h.of_eq (by simp) (by simp)) (fun _ e => State.finish_portWf _ e)
      (fun due _ => State.enterDataOut_portWf (validate due) _) fun due _ _ => State.conclude_portWf ?_
    exact h.of_hpu (State.inHand_iff.1 due).1 (by simp)
  case storeProfile strap decay =>
    refine State.served_elim _ h fun _ => ?_
    rw [State.storeProfile]
    split
    · refine State.plain_elim _ (h.of_eq (by simp) (by simp)) (fun _ e => State.finish_portWf _ e) fun due _ _ => ?_
      exact h.of_hpu (State.inHand_iff.1 due).1 rfl
    · exact h
  case loadProfile decay =>
    refine State.served_elim _ h fun _ => ?_
    rw [State.loadSlot]
    split
    · exact State.plain_elim _ (h.of_eq (by simp) (by simp)) (fun _ e => State.finish_portWf _ e)
        fun _ _ _ => State.completeAfter_portWf _ _
    · exact h
  case verifyProfiles decay =>
    refine State.served_elim _ h fun _ => ?_
    rw [State.verifyStore]
    split
    · exact State.plain_elim _ (h.of_eq (by simp) (by simp)) (fun _ e => State.finish_portWf _ e)
        fun _ _ _ => State.enterDataIn_portWf _ _
    · exact h
  case recordCopyWrite differs => exact State.served_elim _ h fun _ => State.attemptEnds_portWf h _
  case glyphMove => exact State.served_elim _ h fun _ => State.moveEnds_portWf h
  case feed | advanceToEdge | calibrateMedia | present | retract | resume =>
    refine State.served_elim _ h fun _ => State.motion_elim _ h (fun _ e => State.finish_portWf _ e)
      (fun due _ => ?_) fun due _ _ _ => ?_
    · exact h.of_hpu (State.inHand_iff.1 due).1 rfl
    · exact State.conclude_portWf (State.commitMotion_portWf h (State.inHand_iff.1 due).1)
  case ramByteTest answer =>
    cases stage : s.csq.stage with
    | ramTesting offset =>
      have x : s.hpu.phase = .execute := h.executes (by simp [stage]) (by simp [stage])
      exact State.served_elim _ h fun _ => State.testByte_portWf h x _ _
    | idle | validate | finish | waiting | compacting | writing w | moving => exact h
  case motionWaitTimeout =>
    refine State.served_elim _ h fun _ => ?_
    rw [State.waitExpires]
    split
    · exact State.finish_portWf _ _
    · exact h
  case bandRender =>
    refine State.served_elim _ h fun _ => ?_
    split
    · exact State.conclude_portWf (h.of_eq (by simp) (by simp))
    · exact h
  case lineStep level elapsed =>
    refine State.served_elim _ h fun _ => ?_
    split
    · exact State.lineStep_portWf (h.of_eq (by simp) (by simp)) level
    · exact h
  case backwardStep elapsed =>
    refine State.served_elim _ h fun _ => ?_
    split
    · exact State.backStep_portWf (h.of_eq (by simp) (by simp))
    · exact h
  case runStart =>
    refine State.served_elim _ h fun _ => ?_
    split
    · exact State.conclude_portWf (h.of_eq (by simp) (by simp))
    · exact h
  case temperatureSample degrees =>
    exact State.served_elim _ h fun _ => State.conclude_portWf (State.readRequests_portWf (h.of_eq (by simp) (by simp)) _)
  case headStateChange => exact State.served_elim _ h fun _ => State.conclude_portWf (State.headChanges_portWf h)
  case idleSample level =>
    refine State.served_elim _ h fun _ => ?_
    split
    · exact State.conclude_portWf (State.idleStep_portWf h level)
    · exact h
  case autoRecover =>
    refine State.served_elim _ h fun _ => ?_
    split
    · exact State.conclude_portWf (State.beginRecoveryFind_portWf (h.of_eq (by simp) (by simp)))
    · exact h
  case motorRelease =>
    refine State.served_elim State.PortWf h fun _ => ?_
    split <;> exact h

/-- Settles O58, row by row. -/
theorem portAndSequencerAgree : Obligations.PortAndSequencerAgree := fun _ _ h step =>
  step_keeps (fun _ _ h => h) rowEffect_portWf h step

end Sys2Proof.Machine
end

section
/-! The event queue stays bounded in every step (R152, R153). Records are posted one by one, each of which keeps the
bounds; a read of the Event Port takes one away; and the resets post at most what fits. -/

namespace Sys2Proof.Machine

variable {s t : State}

/-- R152, R153: the event queue of the machine is in its bounds. -/
def State.QueueWf (s : State) : Prop := s.eng.QueueWf

theorem State.QueueWf.of_eq (h : s.QueueWf) (events : t.eng.events = s.eng.events)
    (overflow : t.eng.overflow = s.eng.overflow) (cursor : t.eng.cursor = s.eng.cursor) : t.QueueWf := by
  simpa only [State.QueueWf, Eng.QueueWf, events, overflow, cursor] using h

/-- An operation that leaves the supervisor alone leaves its queue alone. -/
theorem State.QueueWf.of_eng (h : s.QueueWf) (eng : t.eng = s.eng) : t.QueueWf := by
  rwa [State.QueueWf, eng]

/-- R152: a record joins, or is lost and counted. -/
theorem State.post_queueWf (h : s.QueueWf) (e : Event) : (s.post e).QueueWf := by
  obtain ⟨length, overflow, cursor⟩ := h
  rw [State.post_eq]
  simp only [State.QueueWf, Eng.QueueWf]
  refine ⟨?_, ?_, cursor⟩
  · split
    · simp only [List.length_append, List.length_singleton]
      omega
    · exact length
  · split <;> omega

theorem State.postAll_queueWf (l : List Event) (h : s.QueueWf) : (s.postAll l).QueueWf := by
  induction l generalizing s with
  | nil => exact h
  | cons e l ih => exact ih (State.post_queueWf h e)

/-! ### Labels -/

theorem State.dropReference_queueWf (h : s.QueueWf) (number : Half) (ids : List Nat) (id : Nat) :
    (State.dropReference number ids s id).QueueWf := by
  simp only [State.dropReference]
  split
  · exact h
  split
  · exact State.post_queueWf (h.of_eng (by rfl)) _
  · exact h.of_eng (by rfl)

theorem State.dropReferences_queueWf (h : s.QueueWf) (number : Half) (ids : List Nat) :
    (s.dropReferences number ids).QueueWf := by
  rw [State.dropReferences]
  generalize List.range Config.glyphIds = l
  induction l generalizing s with
  | nil => exact h
  | cons id l ih => exact ih (State.dropReference_queueWf h number ids id)

theorem State.vacate_queueWf (h : s.QueueWf) (slot : Nat) (l : Label) : (s.vacate slot l).QueueWf :=
  (State.dropReferences_queueWf h l.number l.uses).of_eq (by rfl) (by rfl) (by rfl)

theorem State.removeLabel_queueWf (h : s.QueueWf) (slot : Nat) (report : Option Event) :
    (s.removeLabel slot report).QueueWf := by
  simp only [State.removeLabel]
  split
  · exact h
  · cases report with
    | none => exact State.vacate_queueWf h _ _
    | some e => exact State.vacate_queueWf (State.post_queueWf h e) _ _

theorem State.reportIdleQueue_queueWf (h : s.QueueWf) (before : Lbq) : (s.reportIdleQueue before).QueueWf := by
  rw [State.reportIdleQueue]
  split
  · exact State.post_queueWf h _
  · exact h

theorem State.copyDone_queueWf (h : s.QueueWf) (slot : Nat) : (s.copyDone slot).QueueWf := by
  simp only [State.copyDone]
  split
  · exact h
  split
  · exact State.reportIdleQueue_queueWf (State.removeLabel_queueWf (State.post_queueWf (h.of_eng (by rfl)) _) _ _) _
  split
  · exact State.reportIdleQueue_queueWf (State.removeLabel_queueWf (State.post_queueWf (h.of_eng (by rfl)) _) _ _) _
  · exact State.post_queueWf (h.of_eng (by rfl)) _

theorem State.cancelOne_queueWf (immediate : Bool) (h : s.QueueWf) (slot : Nat) :
    (State.cancelOne immediate s slot).QueueWf := by
  simp only [State.cancelOne]
  split
  · exact h
  split
  · exact State.removeLabel_queueWf h _ _
  · exact State.post_queueWf (h.of_eng (by rfl)) _
  · exact h
  · exact State.removeLabel_queueWf h _ _

theorem State.cancelTargets_queueWf (h : s.QueueWf) (immediate : Bool) (targets : List Nat) :
    (s.cancelTargets immediate targets).QueueWf := by
  have dealt : (targets.foldl (State.cancelOne immediate) s).QueueWf := by
    induction targets generalizing s with
    | nil => exact h
    | cons slot targets ih => exact ih (State.cancelOne_queueWf immediate h slot)
  exact State.reportIdleQueue_queueWf (dealt.of_eng (by simp)) _

theorem State.discardInterrupted_queueWf (h : s.QueueWf) (slot : Nat) : (s.discardInterrupted slot).QueueWf := by
  simp only [State.discardInterrupted]
  split
  · exact h
  next l held =>
    have removed := State.removeLabel_queueWf h slot (some (cancelled l 3))
    exact State.reportIdleQueue_queueWf (removed.of_eng (by simp)) _

/-! ### The sensor and the ends of motion -/

theorem State.countEmpty_queueWf (h : s.QueueWf) : s.countEmpty.1.QueueWf := by
  simp only [State.countEmpty]
  split
  · split
    · exact State.post_queueWf (h.of_eng (by rfl)) _
    · exact h.of_eng (by rfl)
  · exact h.of_eng (by rfl)

theorem State.stepSample_queueWf (h : s.QueueWf) (level : Byte) : (s.stepSample level).state.QueueWf := by
  simp only [State.stepSample]
  generalize Msu.debounceStep _ _ _ = d
  have counted := State.countEmpty_queueWf (s := { s with msu := d.1 }) (h.of_eng rfl)
  exact counted.of_eng (by simp)

theorem State.idleSample_queueWf (h : s.QueueWf) (level : Byte) : (s.idleSample level).1.QueueWf := by
  simp only [State.idleSample]
  split
  · exact State.post_queueWf (h.of_eng (by rfl)) _
  split
  · exact State.post_queueWf (h.of_eng (by rfl)) _
  · exact h.of_eng (by rfl)

theorem State.missTop_queueWf (h : s.QueueWf) (top : Pos) : (s.missTop top).1.QueueWf := by
  simp only [State.missTop]
  split
  · exact State.post_queueWf (h.of_eng (by simp)) _
  · exact State.post_queueWf (h.of_eng (by rfl)) _

theorem State.decideWindow_queueWf (h : s.QueueWf) : s.decideWindow.1.QueueWf := by
  simp only [State.decideWindow]
  split
  · exact h
  split
  · split
    · exact h.of_eng (by simp)
    · exact State.missTop_queueWf (h.of_eng (by rfl)) _
  · exact State.missTop_queueWf (h.of_eng (by rfl)) _

theorem State.endMotion_queueWf (h : s.QueueWf) (e : Ending) : (s.endMotion e).QueueWf := by
  cases m : s.fmu.motion with
  | none =>
    simp only [State.endMotion, m]
    exact h.of_eng (by rfl)
  | some f =>
    cases o : f.owner with
    | attached | engine =>
      simp only [State.endMotion, m, o]
      exact h.of_eng (by simp)
    | detached =>
      simp only [State.endMotion, m, o]
      exact State.post_queueWf (h.of_eng (by rfl)) _

theorem State.failFreeMove_queueWf (h : s.QueueWf) (code : SenseCode) : (s.failFreeMove code).QueueWf :=
  State.endMotion_queueWf (h.of_eng (by simp)) _

theorem State.abortFreeMove_queueWf (h : s.QueueWf) : s.abortFreeMove.QueueWf :=
  State.endMotion_queueWf (h.of_eng (by simp)) _

theorem State.failSearch_queueWf (h : s.QueueWf) : s.failSearch.QueueWf :=
  State.endMotion_queueWf (h.of_eng (by simp)) _

theorem State.stopForMediaOut_queueWf (h : s.QueueWf) : s.stopForMediaOut.QueueWf := by
  rw [State.stopForMediaOut]
  split
  · exact h
  split
  · exact State.failFreeMove_queueWf h _
  · exact h.of_eng (by simp)

/-! ### Halts, holds and recovery -/

theorem State.spoil_queueWf (h : s.QueueWf) : s.spoil.QueueWf := by
  simp only [State.spoil]
  split
  · exact h.of_eq (by rfl) (by rfl) (by rfl)
  · exact State.post_queueWf (h.of_eq (by rfl) (by rfl) (by rfl)) _

/-- R145: LABEL SPOILED and HALTED, and MOVE FAILED for a recovery's free motion. -/
theorem State.halt_queueWf (h : s.QueueWf) (cs : List Cause) : (s.halt cs).QueueWf := by
  have spoiled : (s.stopForHalt cs).spoil.QueueWf := State.spoil_queueWf (h.of_eng (by simp))
  refine State.endMotion_queueWf (State.post_queueWf ?_ _) _
  exact spoiled.of_eq (by simp [State.recordHalt]) (by simp [State.recordHalt]) (by simp [State.recordHalt])

theorem State.addCause_queueWf (h : s.QueueWf) (c : Cause) : (s.addCause c).QueueWf := by
  simp only [State.addCause]
  split <;> exact h.of_eq (by rfl) (by rfl) (by rfl)

theorem State.headOpens_queueWf (h : s.QueueWf) : s.headOpens.QueueWf := by
  rw [State.headOpens]
  split
  · exact State.halt_queueWf h _
  split
  · exact State.addCause_queueWf h _
  split
  · exact State.failFreeMove_queueWf h _
  · exact h

theorem State.mediaGone_queueWf (h : s.QueueWf) : s.mediaGone.QueueWf := by
  rw [State.mediaGone]
  split
  · exact State.halt_queueWf h _
  split
  · exact State.addCause_queueWf h _
  split
  · split
    · exact h.of_eng (by simp)
    · exact State.stopForMediaOut_queueWf (h.of_eng (by simp))
  · exact h

theorem State.enterHold_queueWf (h : s.QueueWf) : s.enterHold.QueueWf := by
  simp only [State.enterHold]
  refine State.post_queueWf ?_ _
  split
  · exact h.of_eq (by rfl) (by rfl) (by rfl)
  split <;> exact h.of_eq (by simp) (by simp) (by simp)

theorem State.releaseHold_queueWf (h : s.QueueWf) : s.releaseHold.QueueWf := by
  have released : (({ s with eng := { s.eng with cond := .running } } : State).post
      (s.tempEvent .holdReleased)).QueueWf := State.post_queueWf (h.of_eq (by rfl) (by rfl) (by rfl)) _
  simp only [State.releaseHold]
  split
  · exact released
  · exact released.of_eng (by simp)

theorem State.enterRecovery_queueWf (h : s.QueueWf) (discard : Bool) : (s.enterRecovery discard).QueueWf := by
  have disposed : (match s.eng.interrupted with
      | some c => if discard then s.discardInterrupted c.slot else s
      | none => s).QueueWf := by
    split
    · split
      · exact State.discardInterrupted_queueWf h _
      · exact h
    · exact h
  exact disposed.of_eq (by rfl) (by rfl) (by rfl)

theorem State.actOnRest_queue (s : State) :
    s.actOnRest.eng.events = s.eng.events ∧ s.actOnRest.eng.overflow = s.eng.overflow ∧
    s.actOnRest.eng.cursor = s.eng.cursor := by
  simp only [State.actOnRest]
  split
  · exact ⟨rfl, rfl, rfl⟩
  · exact ⟨rfl, rfl, rfl⟩
  · exact ⟨rfl, rfl, rfl⟩
  · simp [State.endRun]
  · split <;> simp [State.endRun]

theorem State.weighRest_queueWf (h : s.QueueWf) : s.weighRest.QueueWf := by
  rw [State.weighRest]
  split
  · obtain ⟨events, overflow, cursor⟩ := s.restReason.actOnRest_queue
    exact h.of_eq (by simp) (by simp [overflow]) (by simp [cursor])
  · exact h

theorem State.reviewRun_queueWf (h : s.QueueWf) : s.reviewRun.QueueWf :=
  State.weighRest_queueWf (State.weighRest_queueWf h)

theorem State.recovered_queueWf (h : s.QueueWf) : s.recovered.QueueWf := by
  rw [State.recovered_eq]
  refine State.endMotion_queueWf (State.post_queueWf ?_ _) _
  rw [State.recoveredEngine]
  split
  · exact h.of_eq (by rfl) (by rfl) (by rfl)
  · simp only
    split
    · exact State.enterHold_queueWf (h.of_eq (by simp) (by simp) (by simp))
    · exact State.reviewRun_queueWf (h.of_eq (by simp) (by simp) (by simp))

theorem State.recoveryFind_queueWf (h : s.QueueWf) : s.recoveryFind.QueueWf := by
  rw [State.recoveryFind]
  split
  · exact State.recovered_queueWf (h.of_eng (by simp))
  simp only
  split
  · exact State.recovered_queueWf (h.of_eng (by simp))
  · exact h.of_eng (by simp)

theorem State.beginRecoveryFind_queueWf (h : s.QueueWf) : s.beginRecoveryFind.QueueWf := by
  rw [State.beginRecoveryFind]
  split
  · exact h
  · exact State.recoveryFind_queueWf h

theorem State.breakRecovery_queueWf (h : s.QueueWf) : s.breakRecovery.QueueWf := by
  refine State.QueueWf.of_eng (s := State.halt (State.toStopped _) [.registrationLost]) ?_
    (State.finish_keeps _ _).2.2.2.2.2.2.1
  exact State.halt_queueWf (h.of_eng (by rfl)) _

theorem State.stopEnded_queueWf (h : s.QueueWf) : s.stopEnded.QueueWf := by
  rw [State.stopEnded]
  split
  · exact h.of_eng (by rfl)
  · split <;> exact h.of_eng (by simp)
  · split
    · exact State.recoveryFind_queueWf (h.of_eng (by rfl))
    · exact h.of_eng (by rfl)
  · exact State.failFreeMove_queueWf h _
  · split
    · exact State.breakRecovery_queueWf h
    · exact State.abortFreeMove_queueWf h
  · exact State.failSearch_queueWf h

theorem State.breakMotion_queueWf (h : s.QueueWf) : s.breakMotion.QueueWf := by
  rw [State.breakMotion]
  split
  · split
    · exact h.of_eng (by rfl)
    split
    · exact State.breakRecovery_queueWf h
    · exact h.of_eng (by rfl)
  split
  · exact h
  split
  · exact State.abortFreeMove_queueWf h
  · exact h.of_eng (by rfl)

/-! ### Commits of motion commands, and what follows -/

theorem State.commitResume_queueWf (h : s.QueueWf) : s.commitResume.QueueWf := by
  rw [State.commitResume]
  split
  · have entered := State.enterRecovery_queueWf h s.disposition
    exact State.beginRecoveryFind_queueWf (entered.of_eng (by simp))
  · exact h.of_eng (by simp)

theorem State.commitMotion_queueWf (h : s.QueueWf) : s.commitMotion.QueueWf := by
  rw [State.commitMotion]
  split
  case h_6 => exact State.commitResume_queueWf h
  all_goals exact h.of_eng (by simp)

theorem State.endWait_queueWf (h : s.QueueWf) : s.endWait.QueueWf := by
  rw [State.endWait]
  split
  · exact State.act_elim State.QueueWf (fun e => h.of_eng (by simp)) fun _ _ => State.commitMotion_queueWf (h.of_eng (by rfl))
  · exact h

theorem State.conclude_queueWf (h : s.QueueWf) : s.conclude.QueueWf := by
  have waited : s.endWait.compactOn.claim.QueueWf := (State.endWait_queueWf h).of_eng (by simp)
  have paused : s.endWait.compactOn.claim.reviewRun.leavePause.QueueWf := by
    rw [State.leavePause]
    split
    · exact (State.reviewRun_queueWf waited).of_eq (by rfl) (by rfl) (by rfl)
    · exact State.reviewRun_queueWf waited
  have started : s.endWait.compactOn.claim.reviewRun.leavePause.startRun.QueueWf := by
    rw [State.startRun]
    split
    · exact paused.of_eq (by simp) (by simp) (by simp)
    · exact paused
  exact (State.reviewRun_queueWf started).of_eng (by simp [State.conclude])

theorem State.completeAfter_queueWf {effect : State → State × Ending} (h : (effect s).1.QueueWf) :
    (s.completeAfter effect).QueueWf :=
  (State.conclude_queueWf h).of_eng (by simp [State.completeAfter])

/-! ### Motor steps and the other steps of the engine -/

theorem State.passLine_queueWf (h : s.QueueWf) (l : LabelLine) : (s.passLine l).QueueWf := by
  simp only [State.passLine]
  split <;> split
  · exact State.copyDone_queueWf (h.of_eng (by simp)) _
  · exact State.copyDone_queueWf (h.of_eng (by simp)) _
  · exact h.of_eng (by simp)
  · exact h.of_eng (by simp)

theorem State.lineParts12_queueWf (h : s.QueueWf) : s.lineParts12.QueueWf := by
  have moved (u : State) (v : Nat) : (u.stepForward v).eng = u.eng := rfl
  simp only [State.lineParts12]
  split <;> split
  · exact State.passLine_queueWf (h.of_eng (by simp [moved])) _
  · exact State.passLine_queueWf (h.of_eng (by simp [moved])) _
  · exact h.of_eng (by simp [moved])
  · exact h.of_eng (by simp [moved])

theorem State.decide4_queueWf (h : s.QueueWf) (under : Bool) (level : Byte) (change : Option ClassChange) :
    (s.decide4 under level change).state.QueueWf := by
  have decided : (if under then s.decideWindow else (s, false)).1.QueueWf := by
    split
    · exact State.decideWindow_queueWf h
    · exact h
  simp only [State.decide4]
  generalize (if under then s.decideWindow else (s, false)) = w at decided ⊢
  split
  · exact State.post_queueWf (decided.of_eng (by simp)) _
  split <;> exact decided.of_eng (by simp)

theorem State.stopForFault_queueWf (h : s.QueueWf) (absent lost : Bool) : (s.stopForFault absent lost).QueueWf := by
  rw [State.stopForFault]
  split
  · exact State.halt_queueWf h _
  split
  · exact State.mediaGone_queueWf h
  · exact h

theorem State.endFreeMove_queueWf (h : s.QueueWf) : s.endFreeMove.QueueWf := State.endMotion_queueWf (h.of_eng (by rfl)) _

theorem State.targetReached_queueWf (h : s.QueueWf) : s.targetReached.QueueWf := by
  rw [State.targetReached]
  split <;> exact State.endFreeMove_queueWf (h.of_eng (by simp))

theorem State.endOfFreeStep_queueWf (h : s.QueueWf) (m : MoveEnd) : (s.endOfFreeStep m).QueueWf := by
  cases m with
  | found =>
    simp only [State.endOfFreeStep]
    split
    · exact State.recovered_queueWf h
    · exact State.endFreeMove_queueWf h
  | searchFailed =>
    simp only [State.endOfFreeStep, State.searchFails]
    split
    · exact State.failSearch_queueWf h
    · exact h.of_eng (by rfl)
  | calibrated => exact State.endFreeMove_queueWf (h.of_eng (by simp))
  | calibrationFailed e => exact State.endMotion_queueWf (h.of_eng (by simp)) e
  | goesOn =>
    simp only [State.endOfFreeStep]
    split
    · exact State.targetReached_queueWf h
    · exact h

theorem State.reportUnderrun_queueWf (h : s.QueueWf) : s.reportUnderrun.QueueWf := by
  rw [State.reportUnderrun]
  split
  · split
    · exact State.post_queueWf (h.of_eng (by rfl)) _
    · exact h
  all_goals exact h

theorem State.endOfStep_queueWf (h : s.QueueWf) (m : MoveEnd) : (s.endOfStep m).QueueWf := by
  rw [State.endOfStep]
  split
  · exact h
  · split
    · exact State.stopEnded_queueWf h
    · exact h
  · exact State.endOfFreeStep_queueWf h m
  · rw [State.endOfRunStep]
    split
    · exact State.reportUnderrun_queueWf (h.of_eng (by simp))
    split
    · exact h.of_eng (by rfl)
    · exact h

theorem State.lineStep_queueWf (h : s.QueueWf) (level : Byte) : (s.lineStep level).QueueWf := by
  have passed := State.stepSample_queueWf (State.lineParts12_queueWf h) level
  exact State.conclude_queueWf
    (State.endOfStep_queueWf (State.stopForFault_queueWf (State.decide4_queueWf passed _ _ _) _ _) _)

theorem State.backAtTarget_queueWf (h : s.QueueWf) : s.backAtTarget.QueueWf := by
  rw [State.backAtTarget]
  split
  · simp only
    split
    · exact h.of_eng (by simp)
    · exact State.endFreeMove_queueWf (h.of_eng (by simp))
  all_goals exact State.endFreeMove_queueWf h

theorem State.backStep_queueWf (h : s.QueueWf) : s.backStep.QueueWf := by
  have stepped : s.stepBackward.strobeNothing.QueueWf := h.of_eng (by rfl)
  refine State.conclude_queueWf ?_
  split
  · exact State.backAtTarget_queueWf stepped
  · exact stepped

theorem State.readRequests_queueWf (h : s.QueueWf) (before : Bool) : (s.readRequests before).QueueWf := by
  simp only [State.readRequests]
  split
  · have reported := State.post_queueWf h (s.tempEvent .headCritical)
    split
    · exact State.halt_queueWf reported _
    split
    · exact State.addCause_queueWf reported _
    · exact reported
  split
  · exact State.enterHold_queueWf h
  split
  · exact State.releaseHold_queueWf h
  · exact h

theorem State.headChanges_queueWf (h : s.QueueWf) : s.headChanges.QueueWf := by
  simp only [State.headChanges]
  split
  · exact State.headOpens_queueWf (State.post_queueWf (h.of_eq (by rfl) (by rfl) (by rfl)) _)
  · rw [State.startSettle]
    split
    · exact (State.post_queueWf (s := { s with eng := { s.eng with headOpen := !s.eng.headOpen } })
        (h.of_eq (by rfl) (by rfl) (by rfl)) _).of_eq (by rfl) (by rfl) (by rfl)
    · exact State.post_queueWf (h.of_eq (by rfl) (by rfl) (by rfl)) _

theorem State.idleStep_queueWf (h : s.QueueWf) (level : Byte) : (s.idleStep level).QueueWf := by
  simp only [State.idleStep]
  split
  · exact State.mediaGone_queueWf (State.idleSample_queueWf h level)
  · exact State.idleSample_queueWf h level

/-! ### The rows of the host port, and the resets -/

theorem State.refuseAccess_queueWf (h : s.QueueWf) (kind : Byte) : (s.refuseAccess kind).QueueWf := by
  rw [State.refuseAccess]
  split
  · exact h
  · exact State.post_queueWf (h.of_eng (by rfl)) _

theorem State.dataWrite_queueWf (h : s.QueueWf) (b : Byte) : (s.dataWrite b).QueueWf := by
  rw [State.dataWrite]
  split
  · exact h.of_eng (by simp)
  · exact h.of_eng (by simp)
  all_goals exact State.refuseAccess_queueWf h 2

theorem State.dataRead_queueWf (h : s.QueueWf) : s.dataRead.QueueWf := by
  rw [State.dataRead]
  split
  · exact h.of_eng (by simp)
  · exact h.of_eng (by simp)
  all_goals exact State.refuseAccess_queueWf (h.of_eng (by rfl)) 3

theorem State.dataAccess_queueWf (h : s.QueueWf) (a : Access) : (s.dataAccess a).QueueWf := by
  cases a with
  | read => exact State.servedRead_elim State.QueueWf (h.of_eng (by rfl)) fun _ => State.dataRead_queueWf h
  | write b => exact State.served_elim State.QueueWf h fun _ => State.dataWrite_queueWf h b

theorem State.dack_queueWf (h : s.QueueWf) (a : Access) : (s.dack a).QueueWf := by
  cases a with
  | read =>
    cases p : s.hpu.phase with
    | dataIn =>
      simp only [State.dack, p]
      exact h.of_eng (by simp)
    | free | command | execute | dataOut | completion =>
      simp only [State.dack, p]
      exact State.refuseAccess_queueWf (h.of_eng (by rfl)) 3
  | write b =>
    cases p : s.hpu.phase with
    | dataOut =>
      simp only [State.dack, p]
      exact h.of_eng (by simp)
    | free | command | execute | dataIn | completion =>
      simp only [State.dack, p]
      exact State.refuseAccess_queueWf h 2

/-- R152, R153: a read takes a byte, and with the sixth the record; the OVERFLOW record takes the freed place. -/
theorem State.readEvent_queueWf (h : s.QueueWf) : s.readEvent.QueueWf := by
  obtain ⟨length, overflow, cursor⟩ := h
  cases q : s.eng.events with
  | nil =>
    simp only [State.readEvent, q]
    exact ⟨length, overflow, cursor⟩
  | cons e rest =>
    rw [q, List.length_cons] at length
    simp only [State.readEvent, q]
    split
    · simp only [State.QueueWf, Eng.QueueWf, Eng.reportOverflow]
      split
      · simp only [List.length_append, List.length_singleton]
        omega
      · exact ⟨by simp only; omega, overflow, by simp⟩
    · next inner => exact ⟨by simp only [List.length_cons]; omega, overflow, by simp only; omega⟩

theorem State.reportReset_queueWf (h : s.QueueWf) (kind : Byte) (own : List Event) :
    (s.reportReset kind own).QueueWf := State.postAll_queueWf _ h

theorem State.portReset_queueWf (s : State) (i : Inputs) : (s.portReset i).QueueWf := by
  refine State.reportReset_queueWf ?_ _ _
  simp [State.QueueWf, Eng.QueueWf, State.clearBlocks, State.reset]

theorem State.powerUpNow_queueWf (h : s.QueueWf) (kind : Nat) (p : PowerUp) : (s.powerUpNow kind p).QueueWf := by
  rw [State.powerUpNow]
  split
  · refine State.reportReset_queueWf ?_ _ _
    simp [State.QueueWf, Eng.QueueWf, State.clearBlocks, State.reset]
  · exact h.of_eng (by simp)

theorem State.cancelNow_queueWf (h : s.QueueWf) : s.cancelNow.QueueWf := by
  rw [State.cancelNow]
  split
  · exact h.of_eng (by simp)
  · refine State.completeAfter_queueWf ?_
    rw [State.commitCancel]
    split
    · exact h
    · exact State.cancelTargets_queueWf h _ _

theorem State.commitDiscard_queueWf (h : s.QueueWf) : s.commitDiscard.1.QueueWf := by
  cases o : s.lbq.openSlot <;> simp only [State.commitDiscard, o]
  case none => exact h
  case some slot => exact State.removeLabel_queueWf h slot none

theorem State.selectNow_queueWf (h : s.QueueWf) : s.selectNow.QueueWf := by
  by_cases p : s.hpu.phase = .free
  · rw [State.selectNow_free p]
    exact h.of_eng rfl
  · rw [State.selectNow_refused p]
    exact State.refuseAccess_queueWf h 1

theorem State.breakExecute_queueWf (h : s.QueueWf) : s.breakExecute.QueueWf := by
  simp only [State.breakExecute]
  split
  · exact h
  split
  · exact h.of_eng (by simp)
  · exact h.of_eng (by simp)
  · split <;> exact h.of_eng (by simp)
  · exact State.breakMotion_queueWf (h.of_eng rfl)
  all_goals exact h.of_eng rfl

theorem State.breakNow_queueWf (h : s.QueueWf) : s.breakNow.QueueWf := by
  rw [State.breakNow]
  split
  case h_6 => exact State.conclude_queueWf (State.breakExecute_queueWf h)
  all_goals exact h.of_eng (by simp)

/-! ### Every row -/

theorem rowEffect_queueWf (i : Instr) (s : State) (h : s.QueueWf) : (rowEffect i s).QueueWf := by
  cases i <;> simp only [rowEffect]
  case select => exact State.served_elim State.QueueWf h fun _ => State.selectNow_queueWf h
  case breakRequest => exact State.served_elim State.QueueWf h fun _ => State.breakNow_queueWf h
  case portReset value inputs => exact State.served_elim State.QueueWf h fun _ => State.portReset_queueWf s inputs
  case pinReset found => exact State.powerUpNow_queueWf h 2 found
  case powerOnReset found => exact State.powerUpNow_queueWf h 1 found
  case resetInputHeld => exact h.of_eng (by simp)
  case commandByte | payloadByte | resultByteRead | completionByteRead | refusedDataPortAccess =>
    exact State.dataAccess_queueWf h _
  case dackCycle access =>
    cases access with
    | read => exact State.servedRead_elim State.QueueWf (h.of_eng (by rfl)) fun _ => State.dack_queueWf h .read
    | write b => exact State.served_elim State.QueueWf h fun _ => State.dack_queueWf h (.write b)
  case eventPortRead => exact State.servedRead_elim State.QueueWf (h.of_eng (by rfl)) fun _ => State.readEvent_queueWf h
  case testReady | requestSense | readEngineState | sensorRead | readMediaParameters | readGlyphEntry | ramTest =>
    exact State.served_elim State.QueueWf h fun _ => State.plain_elim State.QueueWf h (fun _ _ => h.of_eng (by simp))
      fun _ _ _ => h.of_eng (by simp)
  case deleteGlyph | openLabel | placeGlyph | placeRule | closeLabel | setRunGate =>
    exact State.served_elim State.QueueWf h fun _ => State.plain_elim State.QueueWf h (fun _ _ => h.of_eng (by simp))
      fun _ _ _ => State.completeAfter_queueWf (h.of_eng (by simp))
  case discardLabel =>
    exact State.served_elim State.QueueWf h fun _ => State.plain_elim State.QueueWf h (fun _ _ => h.of_eng (by simp))
      fun _ _ _ => State.completeAfter_queueWf (State.commitDiscard_queueWf h)
  case cancelLabels =>
    exact State.served_elim State.QueueWf h fun _ => State.plain_elim State.QueueWf h (fun _ _ => h.of_eng (by simp))
      fun _ _ _ => State.cancelNow_queueWf h
  case compactGlyphs =>
    exact State.served_elim State.QueueWf h fun _ => State.plain_elim State.QueueWf h (fun _ _ => h.of_eng (by simp))
      fun _ _ _ => State.conclude_queueWf (h.of_eng (by rfl))
  case setMediaParameters | defineGlyph | placeText | placeImage =>
    exact State.served_elim State.QueueWf h fun _ => State.withPayload_elim State.QueueWf h (fun _ _ => h.of_eng (by simp))
      (fun _ _ => h.of_eng (by simp)) fun _ _ _ => State.completeAfter_queueWf (h.of_eng (by simp))
  case setMechanismParameters strap decay =>
    refine State.served_elim State.QueueWf h fun _ => State.setMechanism_elim State.QueueWf h fun _ => ?_
    exact State.withPayload_elim State.QueueWf (h.of_eng (by simp)) (fun _ _ => h.of_eng (by simp))
      (fun _ _ => h.of_eng (by simp)) fun _ _ _ => State.conclude_queueWf (h.of_eng (by simp))
  case storeProfile strap decay =>
    refine State.served_elim State.QueueWf h fun _ => ?_
    rw [State.storeProfile]
    split
    · exact State.plain_elim State.QueueWf (h.of_eng (by simp)) (fun _ _ => h.of_eng (by simp)) fun _ _ _ => h.of_eng (by simp)
    · exact h
  case loadProfile decay =>
    refine State.served_elim State.QueueWf h fun _ => ?_
    rw [State.loadSlot]
    split
    · exact State.plain_elim State.QueueWf (h.of_eng (by simp)) (fun _ _ => h.of_eng (by simp))
        fun _ _ _ => State.completeAfter_queueWf (h.of_eng (by simp))
    · exact h
  case verifyProfiles decay =>
    refine State.served_elim State.QueueWf h fun _ => ?_
    rw [State.verifyStore]
    split
    · exact State.plain_elim State.QueueWf (h.of_eng (by simp)) (fun _ _ => h.of_eng (by simp)) fun _ _ _ => h.of_eng (by simp)
    · exact h
  case glyphMove =>
    exact State.served_elim State.QueueWf h fun _ => State.moveEnds_elim State.QueueWf (fun _ => h)
      (fun _ => State.conclude_queueWf h)
      fun _ _ _ _ => State.conclude_queueWf (h.of_eng (by simp))
  case feed | advanceToEdge | calibrateMedia | present | retract | resume =>
    exact State.served_elim State.QueueWf h fun _ => State.motion_elim State.QueueWf h (fun _ _ => h.of_eng (by simp))
      (fun _ _ => h.of_eng (by simp)) fun _ _ _ _ => State.conclude_queueWf (State.commitMotion_queueWf h)
  case ramByteTest answer =>
    split
    · exact State.served_elim State.QueueWf h fun _ => h.of_eng (by simp)
    · exact h
  case bandRender =>
    refine State.served_elim State.QueueWf h fun _ => ?_
    split
    · exact State.conclude_queueWf (h.of_eng (by simp))
    · exact h
  case lineStep level elapsed =>
    refine State.served_elim State.QueueWf h fun _ => ?_
    split
    · exact State.lineStep_queueWf (h.of_eng (by simp)) level
    · exact h
  case backwardStep elapsed =>
    refine State.served_elim State.QueueWf h fun _ => ?_
    split
    · exact State.backStep_queueWf (h.of_eng (by simp))
    · exact h
  case runStart =>
    refine State.served_elim State.QueueWf h fun _ => ?_
    split
    · refine State.conclude_queueWf ?_
      by_cases may : s.mayRun <;> simp only [State.startRun, may, if_true]
      · exact h.of_eq (by simp) (by simp) (by simp)
      · exact h
    · exact h
  case temperatureSample degrees =>
    exact State.served_elim State.QueueWf h fun _ => State.conclude_queueWf (State.readRequests_queueWf (h.of_eng (by simp)) _)
  case headStateChange => exact State.served_elim State.QueueWf h fun _ => State.conclude_queueWf (State.headChanges_queueWf h)
  case idleSample level =>
    refine State.served_elim State.QueueWf h fun _ => ?_
    split
    · exact State.conclude_queueWf (State.idleStep_queueWf h level)
    · exact h
  case autoRecover =>
    refine State.served_elim State.QueueWf h fun _ => ?_
    split
    · exact State.conclude_queueWf (State.beginRecoveryFind_queueWf (State.enterRecovery_queueWf h _))
    · exact h
  case motorRelease =>
    refine State.served_elim State.QueueWf h fun _ => ?_
    split
    · exact h.of_eng (by simp)
    · exact h
  case notifyMaskWrite | byteTimeout | recordCopyWrite | motionWaitTimeout =>
    exact State.served_elim State.QueueWf h fun _ => h.of_eng (by simp)

/-- Settles O57, row by row. -/
theorem eventQueueStaysBounded : Obligations.EventQueueStaysBounded := fun _ _ h step =>
  step_keeps (P := State.QueueWf) (fun _ _ h => h) rowEffect_queueWf h step

end Sys2Proof.Machine
end

section
/-! The byte form of the two records (Tables 10-1 and 10-2) and what makes it well formed (R154). -/

namespace Sys2Proof.Machine

/-! ### Numbers and their bytes -/

theorem num8_lt (b : List Byte) (i : Nat) : num8 b i < 256 := (byteAt b i).isLt

/-- A 16-bit field read back from its two bytes. -/
theorem twoBytes_toNat {n : Nat} (h : n < 65536) :
    (((BitVec.ofNat 16 n >>> 8).setWidth 8 : Byte) ++ ((BitVec.ofNat 16 n).setWidth 8 : Byte)).toNat = n := by
  rw [BitVec.toNat_append, ← Nat.shiftLeft_add_eq_or_of_lt (BitVec.isLt _)]
  simp only [BitVec.toNat_setWidth, BitVec.toNat_ushiftRight, BitVec.toNat_ofNat, Nat.shiftLeft_eq,
    Nat.shiftRight_eq_div_pow]
  omega

/-- The two bytes of a number, low byte first. -/
theorem twoBytes_eq (n : Nat) : twoBytes n = [BitVec.ofNat 8 n, BitVec.ofNat 8 (n / 256)] := by
  simp only [twoBytes, lowHigh, List.cons.injEq, and_true]
  constructor
  · apply BitVec.eq_of_toNat_eq
    simp only [BitVec.toNat_setWidth, BitVec.toNat_ofNat]
    omega
  · apply BitVec.eq_of_toNat_eq
    simp only [BitVec.toNat_setWidth, BitVec.toNat_ushiftRight, BitVec.toNat_ofNat, Nat.shiftRight_eq_div_pow]
    omega

/-! ### Well formed -/

theorem passes_mechanismChecks (b : List Byte) :
    passes (mechanismChecks b) = true ↔ (Mechanism.ofBytes b).WellFormed := by
  have offset := num8_lt b 0
  have tear := num8_lt b 1
  have decel := num8_lt b 4
  have out := num8_lt b 8
  simp only [passes, mechanismChecks, outside, List.all_cons, List.all_nil, Bool.and_true, Bool.and_eq_true,
    Bool.not_eq_true', decide_eq_false_iff_not, Mechanism.WellFormed, Mechanism.ofBytes]
  omega

theorem passes_profileChecks (b : List Byte) :
    passes (profileChecks b) = true ↔
      (Profile.ofBytes b).WellFormed ∧ num8 b 0 ≤ 2 ∧ num8 b 13 ≤ 1 ∧ num8 b 14 ≤ 3 := by
  have empty := num8_lt b 2
  simp only [passes, profileChecks, outside, List.all_cons, List.all_nil, Bool.and_true, Bool.and_eq_true,
    Bool.not_eq_true', decide_eq_false_iff_not, Profile.WellFormed, Profile.ofBytes]
  omega

theorem recordWellFormed_mechanism (b : List Byte) :
    recordWellFormed 0 b = true ↔ (Mechanism.ofBytes b).WellFormed := passes_mechanismChecks b

theorem recordWellFormed_profile (b : List Byte) {record : Nat} (h : record ≠ 0) :
    recordWellFormed record b = true ↔
      (Profile.ofBytes b).WellFormed ∧ num8 b 0 ≤ 2 ∧ num8 b 13 ≤ 1 ∧ num8 b 14 ≤ 3 := by
  rw [recordWellFormed, if_neg h]
  exact passes_profileChecks b

/-! ### The bytes of a record, and the record of its bytes -/

theorem Profile.bytes_eq (p : Profile) :
    p.bytes =
      [match p.mode with | .gap => 0 | .mark => 1 | .continuous => 2, BitVec.ofNat 8 p.marker,
        BitVec.ofNat 8 p.empty] ++
        [BitVec.ofNat 8 p.pitch, BitVec.ofNat 8 (p.pitch / 256)] ++
        [BitVec.ofNat 8 p.gap, BitVec.ofNat 8 (p.gap / 256)] ++
        [BitVec.ofNat 8 p.speed, BitVec.ofNat 8 (p.speed / 256)] ++
        [BitVec.ofNat 8 p.accel, BitVec.ofNat 8 p.darkness, BitVec.ofNat 8 p.hot, BitVec.ofNat 8 p.tolerance,
         if p.afterBatch then 1 else 0, (if p.autoRecover then 1 else 0) + (if p.discard then 2 else 0),
         BitVec.ofInt 8 p.adjust] := by
  have one (b : Bool) : BitVec.ofNat 8 (bit b) = if b then 1 else 0 := by cases b <;> rfl
  have two (b c : Bool) :
      BitVec.ofNat 8 (bit b + 2 * bit c) = (if b then 1 else 0) + (if c then 2 else 0) := by
    cases b <;> cases c <;> rfl
  simp only [Profile.bytes, twoBytes_eq, one, two] <;> rfl

theorem Mechanism.bytes_eq (m : Mechanism) :
    m.bytes =
      [BitVec.ofNat 8 m.sensorOffset, BitVec.ofNat 8 m.tearOffset] ++
        [BitVec.ofNat 8 m.startSpeed, BitVec.ofNat 8 (m.startSpeed / 256)] ++ [BitVec.ofNat 8 m.faultDecel] ++
        [BitVec.ofNat 8 m.powerLimit, BitVec.ofNat 8 (m.powerLimit / 256)] ++
        [BitVec.ofNat 8 m.critical, BitVec.ofNat 8 m.outLength, BitVec.ofNat 8 m.powerSlot] := by
  rw [Mechanism.bytes, twoBytes_eq, twoBytes_eq]

/-- R154: a number in the range of one byte comes back from it. -/
theorem byte_toNat {n : Nat} (h : n < 256) : (BitVec.ofNat 8 n).toNat = n := Nat.mod_eq_of_lt h

theorem Mechanism.ofBytes_bytes {m : Mechanism} (h : m.WellFormed) : Mechanism.ofBytes m.bytes = m := by
  obtain ⟨⟨_, offset⟩, tear, ⟨_, start⟩, ⟨_, decel⟩, ⟨_, power⟩, ⟨_, critical⟩, ⟨_, out⟩, slot⟩ := h
  have fields : Mechanism.ofBytes m.bytes =
      ⟨(BitVec.ofNat 8 m.sensorOffset).toNat, (BitVec.ofNat 8 m.tearOffset).toNat,
       (((BitVec.ofNat 16 m.startSpeed >>> 8).setWidth 8 : Byte) ++
         ((BitVec.ofNat 16 m.startSpeed).setWidth 8 : Byte)).toNat,
       (BitVec.ofNat 8 m.faultDecel).toNat,
       (((BitVec.ofNat 16 m.powerLimit >>> 8).setWidth 8 : Byte) ++
         ((BitVec.ofNat 16 m.powerLimit).setWidth 8 : Byte)).toNat,
       (BitVec.ofNat 8 m.critical).toNat, (BitVec.ofNat 8 m.outLength).toNat,
       (BitVec.ofNat 8 m.powerSlot).toNat⟩ := rfl
  rw [fields, byte_toNat (by omega), byte_toNat (by omega), byte_toNat (by omega), byte_toNat (by omega),
    byte_toNat (by omega), byte_toNat (by omega), twoBytes_toNat (by omega), twoBytes_toNat (by omega)]

theorem Profile.mode_ofBytes_bytes (p : Profile) : (Profile.ofBytes p.bytes).mode = p.mode := by
  cases m : p.mode <;> simp [Profile.ofBytes, Profile.bytes, num8, byteAt, m]

theorem Profile.ofBytes_bytes {p : Profile} (h : p.WellFormed) : Profile.ofBytes p.bytes = p := by
  obtain ⟨⟨_, marker⟩, ⟨_, empty⟩, ⟨_, pitch⟩, ⟨_, gap⟩, ⟨_, speed⟩, ⟨_, accel⟩, darkness, ⟨_, hot⟩, ⟨_, tolerance⟩,
    ⟨least, most⟩, _⟩ := h
  have signed : (BitVec.ofInt 8 p.adjust).toInt = p.adjust := by
    rw [BitVec.toInt_ofInt, Int.bmod_eq_of_le] <;> omega
  have flag (b : Bool) : (BitVec.ofNat 8 (bit b)).getLsbD 0 = b := by cases b <;> rfl
  have flags (b c : Bool) : (BitVec.ofNat 8 (bit b + 2 * bit c)).getLsbD 0 = b ∧
      (BitVec.ofNat 8 (bit b + 2 * bit c)).getLsbD 1 = c := by cases b <;> cases c <;> exact ⟨rfl, rfl⟩
  have fields : Profile.ofBytes p.bytes =
      ⟨(Profile.ofBytes p.bytes).mode, (BitVec.ofNat 8 p.marker).toNat, (BitVec.ofNat 8 p.empty).toNat,
       (((BitVec.ofNat 16 p.pitch >>> 8).setWidth 8 : Byte) ++ ((BitVec.ofNat 16 p.pitch).setWidth 8 : Byte)).toNat,
       (((BitVec.ofNat 16 p.gap >>> 8).setWidth 8 : Byte) ++ ((BitVec.ofNat 16 p.gap).setWidth 8 : Byte)).toNat,
       (((BitVec.ofNat 16 p.speed >>> 8).setWidth 8 : Byte) ++ ((BitVec.ofNat 16 p.speed).setWidth 8 : Byte)).toNat,
       (BitVec.ofNat 8 p.accel).toNat, (BitVec.ofNat 8 p.darkness).toNat, (BitVec.ofNat 8 p.hot).toNat,
       (BitVec.ofNat 8 p.tolerance).toNat, (BitVec.ofNat 8 (bit p.afterBatch)).getLsbD 0,
       (BitVec.ofNat 8 (bit p.autoRecover + 2 * bit p.discard)).getLsbD 0,
       (BitVec.ofNat 8 (bit p.autoRecover + 2 * bit p.discard)).getLsbD 1,
       (BitVec.ofInt 8 p.adjust).toInt⟩ := rfl
  rw [fields, Profile.mode_ofBytes_bytes, signed, flag, (flags _ _).1, (flags _ _).2, byte_toNat (by omega),
    byte_toNat (by omega), byte_toNat (by omega), byte_toNat (by omega), byte_toNat (by omega), byte_toNat (by omega),
    twoBytes_toNat (by omega), twoBytes_toNat (by omega), twoBytes_toNat (by omega)]

theorem Profile.recordWellFormed_bytes {p : Profile} (h : p.WellFormed) : recordWellFormed 1 p.bytes = true := by
  rw [recordWellFormed_profile _ (by decide), Profile.ofBytes_bytes h]
  refine ⟨h, ?_, ?_, ?_⟩
  · cases p with
    | mk mode => cases mode <;> simp [Profile.bytes, num8, byteAt]
  · cases p with
    | mk _ _ _ _ _ _ _ _ _ _ afterBatch => cases afterBatch <;> simp [Profile.bytes, num8, byteAt, twoBytes, lowHigh, bit]
  · cases p with
    | mk _ _ _ _ _ _ _ _ _ _ _ autoRecover discard =>
      cases autoRecover <;> cases discard <;> simp [Profile.bytes, num8, byteAt, twoBytes, lowHigh, bit]

/-- Settles O24. -/
theorem wellFormedRecordsAreInRange : Obligations.WellFormedRecordsAreInRange :=
  ⟨recordWellFormed_mechanism, fun b _ h => recordWellFormed_profile b h, ⟨Profile.bytes_eq, Mechanism.bytes_eq⟩,
    fun _ h => ⟨Profile.ofBytes_bytes h, Profile.recordWellFormed_bytes h⟩,
    fun m h => ⟨Mechanism.ofBytes_bytes h, by rwa [recordWellFormed_mechanism, Mechanism.ofBytes_bytes h]⟩⟩

end Sys2Proof.Machine
end

section
/-! The working records stay well formed and agree in every step (R154). They change only where checked bytes are put in
force, at the end of a calibration and at power-up; and a calibration stays a free move outside any run, halt or
recovery, as each of these begins only where it is not in hand. -/

namespace Sys2Proof.Machine

variable {s t : State}

/-! ### What keeps the records -/

/-- R136: with no calibration in hand the records alone count. -/
theorem State.RecordsWf.of_clear (h : s.RecordsWf) (profile : t.nvs.profile = s.nvs.profile)
    (mech : t.nvs.mech = s.nvs.mech) (clear : t.msu.calib = none) : t.RecordsWf := by
  obtain ⟨wf, mechWf, agrees, _⟩ := h
  refine ⟨by rwa [profile], by rwa [mech], by rwa [profile, mech], fun c hc => ?_⟩
  rw [clear] at hc
  cases hc

theorem State.RecordsWf.of_none (h : s.RecordsWf) (nvs : t.nvs = s.nvs) (clear : t.msu.calib = none) : t.RecordsWf :=
  h.of_clear (by rw [nvs]) (by rw [nvs]) clear

/-- R121, R136: the calibration in hand, and the movement it is, are as before. -/
theorem State.RecordsWf.of_eq (h : s.RecordsWf) (profile : t.nvs.profile = s.nvs.profile)
    (mech : t.nvs.mech = s.nvs.mech) (calib : t.msu.calib = s.msu.calib) (motion : t.fmu.motion = s.fmu.motion)
    (move : t.fmu.move = s.fmu.move) (mode : t.fmu.mode = s.fmu.mode) (why : t.fmu.why = s.fmu.why)
    (cond : t.eng.cond = s.eng.cond) : t.RecordsWf := by
  obtain ⟨wf, mechWf, agrees, sound⟩ := h
  refine ⟨by rwa [profile], by rwa [mech], by rwa [profile, mech], fun c hc => ?_⟩
  rw [motion, move, mode, why, cond, profile]
  exact sound c (calib ▸ hc)

theorem State.RecordsWf.of_parts (h : s.RecordsWf) (nvs : t.nvs = s.nvs) (calib : t.msu.calib = s.msu.calib)
    (fmu : t.fmu = s.fmu) (cond : t.eng.cond = s.eng.cond) : t.RecordsWf :=
  h.of_eq (by rw [nvs]) (by rw [nvs]) calib (by rw [fmu]) (by rw [fmu]) (by rw [fmu]) (by rw [fmu]) cond

/-! ### Where no calibration is in hand -/

theorem State.RecordsWf.calib_of (h : s.RecordsWf)
    (other : s.fmu.motion = none ∨ s.eng.cond.live = true ∨ s.eng.cond = .halted ∨ s.fmu.mode = .printRun ∨
      s.fmu.mode = .stopped ∨ s.fmu.move ≠ .calibrate ∨
      (s.fmu.mode = .stopping ∧ s.fmu.why ≠ some .breakRequest)) : s.msu.calib = none := by
  obtain ⟨_, _, _, sound⟩ := h
  cases calib : s.msu.calib with
  | none => rfl
  | some c =>
    obtain ⟨motion, move, mode, live, halted, _⟩ := sound c calib
    rcases other with still | engine | halt | run | stopped | other | ⟨stopping, reason⟩
    · simp [still] at motion
    · simp [engine] at live
    · exact absurd halt halted
    · simp [run] at mode
    · simp [stopped] at mode
    · exact absurd move other
    · simp [stopping, reason] at mode

theorem State.RecordsWf.calib_of_still (h : s.RecordsWf) (still : s.fmu.motion = none) : s.msu.calib = none :=
  h.calib_of (.inl still)

theorem State.RecordsWf.calib_of_live (h : s.RecordsWf) (live : s.eng.cond.live = true) : s.msu.calib = none :=
  h.calib_of (.inr (.inl live))

theorem State.RecordsWf.calib_of_running (h : s.RecordsWf) (running : s.eng.cond = .running) : s.msu.calib = none :=
  h.calib_of_live (by rw [running]; rfl)

theorem State.RecordsWf.calib_of_recovering (h : s.RecordsWf) (recovering : s.eng.cond = .recovering) :
    s.msu.calib = none := h.calib_of_live (by rw [recovering]; rfl)

theorem State.RecordsWf.calib_of_halted (h : s.RecordsWf) (halted : s.eng.cond = .halted) : s.msu.calib = none :=
  h.calib_of (.inr (.inr (.inl halted)))

/-! ### Which operations leave the calibration alone -/

@[simp] theorem State.cutShort_calib (s : State) : s.cutShort.msu.calib = none := by
  simp only [State.cutShort]
  split <;> rfl

@[simp] theorem State.takeFind_calib (s : State) : s.takeFind.msu.calib = s.msu.calib := rfl

@[simp] theorem State.countEdges_calib (s : State) : s.countEdges.msu.calib = s.msu.calib := by
  simp only [State.countEdges]
  (repeat' split) <;> rfl

@[simp] theorem State.beginFind_calib (s : State) (n : Nat) : (s.beginFind n).msu.calib = s.msu.calib := by
  simp [State.beginFind]

@[simp] theorem State.prepareTop_calib (s : State) (top : Pos) (length : Nat) :
    (s.prepareTop top length).msu.calib = s.msu.calib := rfl

@[simp] theorem State.loseRegistration_calib (s : State) : s.loseRegistration.msu.calib = s.msu.calib := by
  simp [State.loseRegistration]

@[simp] theorem State.missTop_calib (s : State) (top : Pos) : (s.missTop top).1.msu.calib = s.msu.calib := by
  simp only [State.missTop]
  split <;> simp

@[simp] theorem State.decideWindow_calib (s : State) : s.decideWindow.1.msu.calib = s.msu.calib := by
  simp only [State.decideWindow]
  (repeat' split) <;> simp

@[simp] theorem State.mediaOut_calib (s : State) (attr : Byte) : (s.mediaOut attr).msu.calib = s.msu.calib := by
  simp [State.mediaOut]

@[simp] theorem State.countEmpty_calib (s : State) : s.countEmpty.1.msu.calib = s.msu.calib := by
  simp only [State.countEmpty]
  (repeat' split) <;> simp

@[simp] theorem State.takeEdge_calib (s : State) (change : Option ClassChange) :
    (s.takeEdge change).msu.calib = s.msu.calib := by
  rw [State.takeEdge.eq_def]
  split
  · (repeat' split) <;> rfl
  · rfl

@[simp] theorem Msu.restarted_calib (m : Msu) (kind : SampleKind) : (m.restarted kind).calib = m.calib := by
  rw [Msu.restarted]
  split <;> rfl

@[simp] theorem Msu.debounceStep_calib (m : Msu) (cls : Class) (p : Pos) : (m.debounceStep cls p).1.calib = m.calib := by
  rw [Msu.debounceStep]
  (repeat' split) <;> rfl

@[simp] theorem Msu.debounceIdle_calib (m : Msu) (cls : Class) (p : Pos) : (m.debounceIdle cls p).calib = m.calib := by
  rw [Msu.debounceIdle]
  (repeat' split) <;> rfl

@[simp] theorem State.stepSample_calib (s : State) (level : Byte) :
    (s.stepSample level).state.msu.calib = s.msu.calib := by
  simp [State.stepSample]

@[simp] theorem State.idleSample_calib (s : State) (level : Byte) :
    (s.idleSample level).1.msu.calib = s.msu.calib := by
  simp only [State.idleSample]
  (repeat' split) <;> simp

@[simp] theorem State.passLine_calib (s : State) (l : LabelLine) : (s.passLine l).msu.calib = s.msu.calib := by
  simp only [State.passLine]
  (repeat' split) <;> simp

@[simp] theorem State.idleSampling_calib (s : State) : s.idleSampling.msu.calib = s.msu.calib := by
  rw [State.idleSampling]
  split <;> rfl

@[simp] theorem State.runOn_calib (s : State) : s.runOn.msu.calib = s.msu.calib := by
  simp only [State.runOn]
  (repeat' split) <;> simp

@[simp] theorem State.beginRun_calib (s : State) : s.beginRun.msu.calib = s.msu.calib := by
  simp only [State.beginRun]
  (repeat' split) <;> simp

@[simp] theorem State.actOnRest_calib (s : State) : s.actOnRest.msu.calib = s.msu.calib := by
  simp only [State.actOnRest]
  (repeat' split) <;> simp [State.endRun]

@[simp] theorem State.weighRest_calib (s : State) : s.weighRest.msu.calib = s.msu.calib := by
  rw [State.weighRest]
  split <;> simp

@[simp] theorem State.reviewRun_calib (s : State) : s.reviewRun.msu.calib = s.msu.calib := by
  simp [State.reviewRun]

/-- R143: a hold clears what a search has in hand, and begins none. -/
theorem State.enterHold_calib (s : State) (clear : s.msu.calib = none) : s.enterHold.msu.calib = none := by
  simp only [State.enterHold]
  (repeat' split) <;> simp [clear]

/-- R145: a halt leaves no calibration. -/
@[simp] theorem State.halt_calib (s : State) (cs : List Cause) : (s.halt cs).msu.calib = none := by
  simp [State.halt, State.recordHalt]

theorem State.recoveredEngine_calib (s : State) (clear : s.msu.calib = none) :
    s.recoveredEngine.msu.calib = none := by
  rw [State.recoveredEngine]
  split
  · exact clear
  · simp only
    split
    · exact State.enterHold_calib _ (by simp [clear])
    · simp [clear]

/-! ### Labels and the movement -/

/-- R60: a removal touches none of what a movement is. -/
@[simp] theorem State.removeLabel_movement (s : State) (slot : Nat) (report : Option Event) :
    (s.removeLabel slot report).fmu.motion = s.fmu.motion ∧ (s.removeLabel slot report).fmu.move = s.fmu.move ∧
    (s.removeLabel slot report).fmu.mode = s.fmu.mode ∧ (s.removeLabel slot report).fmu.why = s.fmu.why := by
  cases l : s.lbq.label slot with
  | none => simp [State.removeLabel, l]
  | some l => cases report <;> simp [State.removeLabel, l, State.vacate]

@[simp] theorem State.cancelTargets_movement (s : State) (immediate : Bool) (targets : List Nat) :
    (s.cancelTargets immediate targets).fmu.motion = s.fmu.motion ∧
    (s.cancelTargets immediate targets).fmu.move = s.fmu.move ∧
    (s.cancelTargets immediate targets).fmu.mode = s.fmu.mode ∧
    (s.cancelTargets immediate targets).fmu.why = s.fmu.why := by
  have one (s : State) (slot : Nat) : (State.cancelOne immediate s slot).fmu.motion = s.fmu.motion ∧
      (State.cancelOne immediate s slot).fmu.move = s.fmu.move ∧
      (State.cancelOne immediate s slot).fmu.mode = s.fmu.mode ∧
      (State.cancelOne immediate s slot).fmu.why = s.fmu.why := by
    simp only [State.cancelOne]
    (repeat' split) <;> simp
  have dealt (targets : List Nat) (s : State) : (targets.foldl (State.cancelOne immediate) s).fmu.motion = s.fmu.motion ∧
      (targets.foldl (State.cancelOne immediate) s).fmu.move = s.fmu.move ∧
      (targets.foldl (State.cancelOne immediate) s).fmu.mode = s.fmu.mode ∧
      (targets.foldl (State.cancelOne immediate) s).fmu.why = s.fmu.why := by
    induction targets generalizing s with
    | nil => simp
    | cons slot targets ih => simp [ih, one]
  simp [State.cancelTargets, dealt]

@[simp] theorem State.energise_movement (s : State) :
    s.energise.fmu.motion = s.fmu.motion ∧ s.energise.fmu.move = s.fmu.move ∧
    s.energise.fmu.mode = s.fmu.mode ∧ s.energise.fmu.why = s.fmu.why := by
  rw [State.energise]
  split <;> simp

/-! ### The ends of motion -/

theorem State.failFreeMove_recordsWf (h : s.RecordsWf) (code : SenseCode) : (s.failFreeMove code).RecordsWf :=
  h.of_none (by simp) (by simp [State.failFreeMove])

theorem State.abortFreeMove_recordsWf (h : s.RecordsWf) : s.abortFreeMove.RecordsWf :=
  h.of_none (by simp) (by simp [State.abortFreeMove])

theorem State.failSearch_recordsWf (h : s.RecordsWf) : s.failSearch.RecordsWf :=
  h.of_none (by simp) (by simp [State.failSearch])

theorem State.halt_recordsWf (h : s.RecordsWf) (cs : List Cause) : (s.halt cs).RecordsWf :=
  h.of_none (by simp) (by simp)

theorem State.addCause_recordsWf (h : s.RecordsWf) (halted : s.eng.cond = .halted) (c : Cause) :
    (s.addCause c).RecordsWf :=
  h.of_none (by simp) (by simp [h.calib_of_halted halted])

theorem State.stopForMediaOut_recordsWf (h : s.RecordsWf) : s.stopForMediaOut.RecordsWf := by
  rw [State.stopForMediaOut]
  split
  · exact h
  split
  · exact State.failFreeMove_recordsWf h _
  · exact h.of_none (by simp) (by simp)

theorem State.headOpens_recordsWf (h : s.RecordsWf) : s.headOpens.RecordsWf := by
  rw [State.headOpens]
  split
  · exact State.halt_recordsWf h _
  split
  · next halted => exact State.addCause_recordsWf h halted _
  split
  · exact State.failFreeMove_recordsWf h _
  · exact h

theorem State.mediaGone_recordsWf (h : s.RecordsWf) : s.mediaGone.RecordsWf := by
  have unregistered : s.unregister.RecordsWf := h.of_parts rfl rfl rfl rfl
  rw [State.mediaGone]
  split
  · exact State.halt_recordsWf h _
  split
  · next halted => exact State.addCause_recordsWf h halted _
  split
  · split
    · exact unregistered
    · exact State.stopForMediaOut_recordsWf unregistered
  · exact h

/-! ### Recovery, stops and Breaks -/

theorem State.recovered_recordsWf (h : s.RecordsWf) (clear : s.msu.calib = none) : s.recovered.RecordsWf := by
  refine h.of_none (by simp) ?_
  rw [State.recovered_eq]
  simp [State.recoveredEngine_calib, clear]

theorem State.recoveryFind_recordsWf (h : s.RecordsWf) (clear : s.msu.calib = none) : s.recoveryFind.RecordsWf := by
  have registered : (s.registerAt (s.fmu.pos + 1)).RecordsWf := h.of_parts rfl rfl rfl rfl
  have found : (s.beginFind 1).takeFind.RecordsWf := h.of_none (by simp) (by simp [clear])
  rw [State.recoveryFind]
  split
  · exact State.recovered_recordsWf registered clear
  simp only
  split
  · exact State.recovered_recordsWf found (by simp [clear])
  · exact h.of_none (by simp) (by simp [clear])

theorem State.beginRecoveryFind_recordsWf (h : s.RecordsWf) (clear : s.msu.calib = none) :
    s.beginRecoveryFind.RecordsWf := by
  rw [State.beginRecoveryFind]
  split
  · exact h
  · exact State.recoveryFind_recordsWf h clear

theorem State.breakRecovery_recordsWf (h : s.RecordsWf) : s.breakRecovery.RecordsWf :=
  h.of_none (by simp) (by simp [State.breakRecovery])

/-- R120: of the stops that end, only a Break's finds a calibration in hand, and ends it. -/
theorem State.stopEnded_recordsWf (h : s.RecordsWf) (stopping : s.fmu.mode = .stopping) : s.stopEnded.RecordsWf := by
  by_cases reason : s.fmu.why = some .breakRequest
  · rw [State.stopEnded, reason]
    simp only
    split
    · exact State.breakRecovery_recordsWf h
    · exact State.abortFreeMove_recordsWf h
  · have clear : s.msu.calib = none := h.calib_of (by simp [stopping, reason])
    have stopped : s.toStopped.RecordsWf := h.of_none rfl clear
    cases why : s.fmu.why with
    | none => simpa [State.stopEnded, why] using stopped
    | some why' =>
      cases why' with
      | hold =>
        simp only [State.stopEnded, why]
        split
        · exact h.of_none (by simp) (by simp [clear])
        · exact stopped
      | halt =>
        simp only [State.stopEnded, why]
        split
        · exact State.recoveryFind_recordsWf stopped clear
        · exact stopped
      | mediaOut => simpa [State.stopEnded, why] using State.failFreeMove_recordsWf h _
      | breakRequest => exact absurd why reason
      | searchFailed => simpa [State.stopEnded, why] using State.failSearch_recordsWf h

/-- R13, R121: a Break brings a calibration to rest by a soft stop. -/
theorem State.beginBreak_recordsWf (h : s.RecordsWf) :
    (({ s with msu := { s.msu with find := none } } : State).beginStop .soft .breakRequest).RecordsWf := by
  obtain ⟨profile, mech, agrees, sound⟩ := h
  refine ⟨profile, mech, agrees, fun c hc => ?_⟩
  obtain ⟨motion, move, _, live, halted, threshold, lengths⟩ := sound c hc
  exact ⟨motion, move, .inr ⟨rfl, rfl⟩, live, halted, threshold, lengths⟩

theorem State.breakMotion_recordsWf (h : s.RecordsWf) : s.breakMotion.RecordsWf := by
  rw [State.breakMotion]
  split
  · next recovering =>
    have clear := h.calib_of_recovering recovering
    split
    · exact h.of_none rfl clear
    split
    · exact State.breakRecovery_recordsWf h
    · exact State.beginBreak_recordsWf h
  split
  · exact h
  split
  · exact State.abortFreeMove_recordsWf h
  · exact State.beginBreak_recordsWf h

/-! ### Commits of motion commands, and what follows -/

/-- R136: a calibration begins in IDLE or PAUSED, with its survey. -/
theorem State.commitCalibrate_recordsWf (h : s.RecordsWf) (live : s.eng.cond.live = false)
    (halted : s.eng.cond ≠ .halted) : s.commitCalibrate.RecordsWf := by
  obtain ⟨profile, mech, agrees, _⟩ := h
  have began : s.commitCalibrate.msu.calib = some Calib.start := by simp [State.commitCalibrate, State.beginMove]
  refine ⟨by simpa using profile, by simpa using mech, by simpa using agrees, fun c hc => ?_⟩
  rw [began] at hc
  cases hc
  refine ⟨?_, ?_, .inl ?_, by simpa using live, by simpa using halted, fun h => absurd rfl h, nofun⟩
  all_goals
    simp only [State.commitCalibrate, State.accept]
    split <;> simp [State.beginMove]

/-- R122 to R136, R147: with no free motion in progress every other motion command begins no calibration. -/
theorem State.commitMotion_recordsWf (h : s.RecordsWf) (still : s.fmu.motion = none)
    (checked : firstOf s.motionChecksFor = none) : s.commitMotion.RecordsWf := by
  have clear := h.calib_of_still still
  rw [State.commitMotion]
  split
  · exact h.of_none (by simp) (by simp only [State.commitFeed]; (repeat' split) <;> simp [clear])
  · exact h.of_none (by simp) (by simp only [State.commitAdvance]; (repeat' split) <;> simp [clear])
  · next code =>
    obtain ⟨live, halted, _⟩ : s.eng.cond.live = false ∧ s.eng.cond ≠ .halted ∧ s.eng.headOpen = false ∧
        s.msu.absent = false := by
      have search : s.motionChecksFor = s.searchChecks := by simp [State.motionChecksFor, code]
      rw [search, firstOf_eq_none] at checked
      simpa [State.searchChecks, State.motionChecks] using checked
    exact State.commitCalibrate_recordsWf h live halted
  · exact h.of_none (by simp) (by simp only [State.commitPresent]; (repeat' split) <;> simp [clear])
  · exact h.of_none (by simp) (by simp only [State.commitRetract]; (repeat' split) <;> simp [clear])
  · rw [State.commitResume]
    split
    · refine State.beginRecoveryFind_recordsWf (h.of_none (by simp) (by simp [clear])) (by simp [clear])
    · exact h.of_none (by simp) (by simp [clear])

theorem State.endWait_recordsWf (h : s.RecordsWf) : s.endWait.RecordsWf := by
  rw [State.endWait]
  split
  · next due =>
    have waited : ({ s with csq := { s.csq with stage := .validate, waitTimer := none } } : State).RecordsWf :=
      h.of_parts rfl rfl rfl rfl
    exact State.act_elim State.RecordsWf (fun e => waited.of_parts (by simp) (by simp) (by simp) (by simp))
      fun checked _ => State.commitMotion_recordsWf waited due.2 checked
  · exact h

theorem State.weighRest_recordsWf (h : s.RecordsWf) : s.weighRest.RecordsWf := by
  by_cases run : s.inRun
  · have running : s.eng.cond = .running := by
      simp only [State.inRun, Bool.and_eq_true, beq_iff_eq] at run
      exact run.1.1
    exact h.of_none (by simp) (by simp [h.calib_of_running running])
  · rw [State.weighRest, if_neg run]
    exact h

theorem State.startRun_recordsWf (h : s.RecordsWf) : s.startRun.RecordsWf := by
  rw [State.startRun]
  split
  · next may =>
    have still : s.fmu.motion = none := by
      simp only [State.mayRun, Bool.and_eq_true, Option.isNone_iff_eq_none] at may
      exact may.2
    exact h.of_none (by simp) (by simp [h.calib_of_still still])
  · exact h

theorem State.leavePause_recordsWf (h : s.RecordsWf) : s.leavePause.RecordsWf := by
  rw [State.leavePause]
  split
  · obtain ⟨profile, mech, agrees, sound⟩ := h
    refine ⟨profile, mech, agrees, fun c hc => ?_⟩
    obtain ⟨motion, move, mode, _, _, rest⟩ := sound c hc
    exact ⟨motion, move, mode, rfl, nofun, rest⟩
  · exact h

theorem State.conclude_recordsWf (h : s.RecordsWf) : s.conclude.RecordsWf := by
  have claimed : s.endWait.compactOn.claim.RecordsWf :=
    (State.endWait_recordsWf h).of_parts (by simp) (by simp) (by simp) (by simp)
  have reviewed := State.weighRest_recordsWf (State.weighRest_recordsWf claimed)
  have started := State.startRun_recordsWf (State.leavePause_recordsWf reviewed)
  have again := State.weighRest_recordsWf (State.weighRest_recordsWf started)
  exact again.of_eq (by simp [State.conclude, State.reviewRun]) (by simp [State.conclude, State.reviewRun])
    (by simp [State.conclude, State.reviewRun]) (by simp [State.conclude, State.reviewRun])
    (by simp [State.conclude, State.reviewRun]) (by simp [State.conclude, State.reviewRun])
    (by simp [State.conclude, State.reviewRun]) (by simp [State.conclude, State.reviewRun])

theorem State.completeAfter_recordsWf {effect : State → State × Ending} (h : (effect s).1.RecordsWf) :
    (s.completeAfter effect).RecordsWf :=
  (State.conclude_recordsWf h).of_parts (by simp [State.completeAfter]) (by simp [State.completeAfter])
    (by simp [State.completeAfter]) (by simp [State.completeAfter])

/-! ### A calibration's own steps -/

/-- R136: the survey's candidate lies between the darkest and the brightest level, 24 apart at least. -/
theorem State.surveyStep_recordsWf (h : s.RecordsWf) {c : Calib} (calib : s.msu.calib = some c)
    (phase : c.phase = .survey) (level : Byte) : (s.surveyStep c level).1.RecordsWf := by
  obtain ⟨profile, mech, agrees, sound⟩ := h
  obtain ⟨motion, move, mode, live, halted, _⟩ := sound c calib
  have surveys (x : Calib) (survey : x.phase = .survey) :
      ({ s with msu := { s.msu with calib := some x } } : State).RecordsWf := by
    refine ⟨profile, mech, agrees, fun y hy => ?_⟩
    cases hy
    exact ⟨motion, move, mode, live, halted, fun h => absurd survey h, fun h => by rw [survey] at h; cases h⟩
  simp only [State.surveyStep]
  split
  · exact surveys _ phase
  split
  · exact surveys _ phase
  split
  · exact surveys _ phase
  · next contrast bright =>
    refine ⟨profile, mech, agrees, fun y hy => ?_⟩
    cases hy
    refine ⟨motion, move, mode, live, halted, fun _ => ?_, nofun⟩
    simp only [Config.leastContrast] at contrast ⊢
    omega

/-- R137: a note adds to the measure and leaves its phase and its threshold alone. -/
theorem Calib.note_keeps (c : Calib) (change : ClassChange) :
    (c.note change).1.phase = c.phase ∧ (c.note change).1.threshold = c.threshold := by
  simp only [Calib.note]
  (repeat' split) <;> exact ⟨rfl, rfl⟩

theorem State.measureStep_recordsWf (h : s.RecordsWf) {c : Calib} (calib : s.msu.calib = some c)
    (phase : c.phase = .measure) (change : Option ClassChange) : (s.measureStep c change).1.RecordsWf := by
  obtain ⟨profile, mech, agrees, sound⟩ := h
  obtain ⟨motion, move, mode, live, halted, threshold, _⟩ := sound c calib
  have bounds := threshold (by rw [phase]; nofun)
  have measures (x : Calib) (measure : x.phase = .measure) (same : x.threshold = c.threshold) :
      ({ s with msu := { s.msu with calib := some x } } : State).RecordsWf := by
    refine ⟨profile, mech, agrees, fun y hy => ?_⟩
    cases hy
    exact ⟨motion, move, mode, live, halted, fun _ => by rwa [same], fun h => by rw [measure] at h; cases h⟩
  have measured (x : Calib) (measure : x.phase = .measure) (same : x.threshold = c.threshold) (e1 m e2 : Pos) :
      (({ s with msu := { s.msu with calib := some x } } : State).measured x e1 m e2).1.RecordsWf := by
    simp only [State.measured]
    split
    · next room =>
      refine ⟨profile, mech, agrees, fun y hy => ?_⟩
      cases hy
      refine ⟨motion, move, mode, live, halted, fun _ => by rwa [same], fun _ => ?_⟩
      simp only
      omega
    · exact measures x measure same
  cases change with
  | none =>
    simp only [State.measureStep]
    split <;> exact measures _ phase rfl
  | some change =>
    obtain ⟨keptPhase, keptThreshold⟩ := Calib.note_keeps { c with steps := c.steps + 1 } change
    cases note : ({ c with steps := c.steps + 1 } : Calib).note change with
    | mk x done =>
      rw [note] at keptPhase keptThreshold
      simp only [State.measureStep, note]
      cases done with
      | none =>
        simp only
        split <;> exact measures x (keptPhase.trans phase) keptThreshold
      | some edges => exact measured x (keptPhase.trans phase) keptThreshold _ _ _

/-- What the decisions of a step say of the movement in hand fits the calibration in hand: no edge find ends while there is
one, and it succeeds from its last phase alone. -/
def State.Fits (s : State) (m : MoveEnd) : Prop :=
  ∀ c, s.msu.calib = some c → m ≠ .found ∧ m ≠ .searchFailed ∧ (m = .calibrated → c.phase = .finishing)

theorem State.finishCalibration_fits (s : State) (c : Calib) :
    s.finishCalibration c ≠ .found ∧ s.finishCalibration c ≠ .searchFailed := by
  simp only [State.finishCalibration, State.calibrationFailed]
  (repeat' split) <;> simp

theorem State.surveyStep_fits (s : State) (c : Calib) (level : Byte) :
    (s.surveyStep c level).2 ≠ .found ∧ (s.surveyStep c level).2 ≠ .searchFailed ∧
    (s.surveyStep c level).2 ≠ .calibrated := by
  simp only [State.surveyStep, State.calibrationFailed]
  (repeat' split) <;> simp

theorem State.measured_fits (s : State) (c : Calib) (e1 m e2 : Pos) :
    (s.measured c e1 m e2).2 ≠ .found ∧ (s.measured c e1 m e2).2 ≠ .searchFailed ∧
    ((s.measured c e1 m e2).2 = .calibrated →
      ∀ x, (s.measured c e1 m e2).1.msu.calib = some x → x.phase = .finishing) := by
  simp only [State.measured]
  split
  · obtain ⟨found, failed⟩ := State.finishCalibration_fits _ _
    refine ⟨found, failed, fun _ x hx => ?_⟩
    cases hx
    rfl
  · simp [State.calibrationFailed]

theorem State.measureStep_fits (s : State) (c : Calib) (change : Option ClassChange) :
    (s.measureStep c change).1.Fits (s.measureStep c change).2 := by
  have notYet (t : State) : t.Fits (if Config.measureSteps ≤ c.steps + 1 then
      (t, t.calibrationFailed) else (t, .goesOn)).2 := by
    intro x _
    simp only [State.calibrationFailed]
    split <;> simp
  have split (t : State) : (if Config.measureSteps ≤ c.steps + 1 then
      (t, t.calibrationFailed) else (t, .goesOn)).1 = t := by
    split <;> rfl
  cases change with
  | none =>
    simp only [State.measureStep]
    rw [split]
    exact notYet _
  | some change =>
    cases note : ({ c with steps := c.steps + 1 } : Calib).note change with
    | mk x done =>
      simp only [State.measureStep, note]
      cases done with
      | none =>
        simp only
        rw [split]
        exact notYet _
      | some edges =>
        intro y hy
        obtain ⟨found, failed, finishing⟩ := State.measured_fits _ x edges.1 edges.2.1 edges.2.2
        exact ⟨found, failed, fun m => finishing m y hy⟩

theorem State.searchStep_fits (s : State) (level : Byte) (change : Option ClassChange) :
    (s.searchStep level change).1.Fits (s.searchStep level change).2 := by
  cases calib : s.msu.calib with
  | none =>
    have same : (s.searchStep level change).1.msu.calib = none := by
      simp only [State.searchStep, calib, State.findStep]
      (repeat' split) <;> simp_all
    intro c hc
    rw [same] at hc
    cases hc
  | some c =>
    rw [State.searchStep, calib]
    cases phase : c.phase with
    | survey =>
      intro x _
      obtain ⟨found, failed, calibrated⟩ := State.surveyStep_fits s c level
      simpa [State.calibStep, calib, phase] using ⟨found, failed, fun m => absurd m calibrated⟩
    | measure => simpa [State.calibStep, calib, phase] using State.measureStep_fits s c change
    | finishing =>
      intro x hx
      obtain ⟨found, failed⟩ := State.finishCalibration_fits s c
      have same : x = c := by simpa [State.calibStep, calib, phase, eq_comm] using hx
      simpa [State.calibStep, calib, phase, same] using ⟨found, failed⟩

theorem State.searchStep_recordsWf (h : s.RecordsWf) (level : Byte) (change : Option ClassChange) :
    (s.searchStep level change).1.RecordsWf := by
  cases calib : s.msu.calib with
  | none =>
    refine h.of_none (by simp) ?_
    simp only [State.searchStep, calib, State.findStep]
    (repeat' split) <;> simp_all
  | some c =>
    cases phase : c.phase with
    | survey =>
      simpa [State.searchStep, State.calibStep, calib, phase] using State.surveyStep_recordsWf h calib phase level
    | measure =>
      simpa [State.searchStep, State.calibStep, calib, phase] using State.measureStep_recordsWf h calib phase change
    | finishing => simpa [State.searchStep, State.calibStep, calib, phase] using h

/-! ### A forward step -/

theorem State.takeFind_recordsWf (h : s.RecordsWf) : s.takeFind.RecordsWf :=
  h.of_eq rfl rfl rfl rfl rfl rfl rfl rfl

/-- R111 parts 1 and 2: a line is passed under the horizon of a run alone. -/
theorem State.lineParts12_recordsWf (h : s.RecordsWf) : s.lineParts12.RecordsWf := by
  have moved (u : State) (hu : u.RecordsWf) (v : Nat) : (u.stepForward v).RecordsWf :=
    hu.of_eq rfl rfl rfl rfl rfl rfl rfl rfl
  have unregistered : s.unregister.RecordsWf := h.of_parts rfl rfl rfl rfl
  by_cases under : s.underHorizon
  · have run : s.fmu.move = .run := by
      simp only [State.underHorizon, Bool.and_eq_true, beq_iff_eq] at under
      exact under.1
    have clear : s.msu.calib = none := h.calib_of (by simp [run])
    refine h.of_none (by simp) ?_
    simp only [State.lineParts12]
    (repeat' split) <;> simp [clear, State.stepForward]
  · have step : (if s.overrunStep s.horizon then s.unregister else s).RecordsWf := by
      split
      · exact unregistered
      · exact h
    have stepped := moved _ step (s.forwardSpeed s.horizon)
    simp only [State.lineParts12, under]
    exact stepped.of_parts (by simp) (by simp) (by simp) (by simp)

theorem State.decide4_recordsWf (h : s.RecordsWf) (under : Bool) (level : Byte) (change : Option ClassChange) :
    (s.decide4 under level change).state.RecordsWf ∧
    (s.decide4 under level change).state.Fits (s.decide4 under level change).move := by
  have decided : (if under then s.decideWindow else (s, false)).1.RecordsWf := by
    split
    · exact h.of_parts (by simp) (by simp) (by simp) (by simp)
    · exact h
  simp only [State.decide4]
  generalize (if under then s.decideWindow else (s, false)) = w at decided ⊢
  have searched := State.searchStep_recordsWf decided level change
  have fits := State.searchStep_fits w.1 level change
  split
  · next failed =>
    refine ⟨searched.of_parts (by simp) (by simp) (by simp) (by simp), fun c _ => by simp⟩
  split
  · next found =>
    refine ⟨State.takeFind_recordsWf searched, fun c hc => ?_⟩
    exact absurd found (fits c hc).1
  · exact ⟨searched, fits⟩

/-- R144: a fault's stop leaves the calibration as it is, or there is none afterwards. -/
theorem State.stopForFault_calib (s : State) (absent lost : Bool) :
    (s.stopForFault absent lost).msu.calib = none ∨ (s.stopForFault absent lost).msu.calib = s.msu.calib := by
  rw [State.stopForFault]
  split
  · exact .inl (by simp)
  split
  · rw [State.mediaGone]
    split
    · exact .inl (by simp)
    split
    · exact .inr (by simp)
    split
    · split
      · exact .inr rfl
      · rw [State.stopForMediaOut]
        split
        · exact .inr rfl
        split
        · exact .inl (by simp [State.failFreeMove])
        · exact .inl (by simp)
    · exact .inr rfl
  · exact .inr rfl

theorem State.stopForFault_recordsWf (h : s.RecordsWf) (absent lost : Bool) :
    (s.stopForFault absent lost).RecordsWf := by
  rw [State.stopForFault]
  split
  · exact State.halt_recordsWf h _
  split
  · exact State.mediaGone_recordsWf h
  · exact h

/-- R137: the profile takes what was measured, in range, with a tolerance no larger than it was. -/
theorem State.takeCalibration_recordsWf (h : s.RecordsWf)
    (finishing : ∀ c, s.msu.calib = some c → c.phase = .finishing) : s.takeCalibration.RecordsWf := by
  cases calib : s.msu.calib with
  | none => simpa [State.takeCalibration, calib] using h
  | some c =>
    obtain ⟨profile, mech, agrees, sound⟩ := h
    obtain ⟨_, _, _, _, _, threshold, lengths⟩ := sound c calib
    have phase := finishing c calib
    have bounds := threshold (by rw [phase]; nofun)
    have ranges := lengths phase
    simp only [State.takeCalibration, calib]
    refine ⟨?_, mech, ?_, nofun⟩
    · simp only [Profile.WellFormed, State.registerAt, calibTolerance] at profile ⊢
      omega
    · simp only [Agrees, State.registerAt, calibTolerance] at agrees ⊢
      omega

theorem State.endFreeMove_recordsWf (h : s.RecordsWf) (clear : s.msu.calib = none) : s.endFreeMove.RecordsWf :=
  h.of_none (by simp) (by simp [State.endFreeMove, clear])

theorem State.takeCalibration_calib (s : State) : s.takeCalibration.msu.calib = none := by
  cases calib : s.msu.calib <;> simp [State.takeCalibration, calib, State.registerAt]

theorem State.endOfFreeStep_recordsWf (h : s.RecordsWf) {m : MoveEnd} (fits : s.Fits m) :
    (s.endOfFreeStep m).RecordsWf := by
  have clear_of (other : m = .found ∨ m = .searchFailed) : s.msu.calib = none := by
    cases calib : s.msu.calib with
    | none => rfl
    | some c =>
      obtain ⟨found, failed, _⟩ := fits c calib
      exact absurd other (by simp [found, failed])
  cases m with
  | found =>
    have clear := clear_of (.inl rfl)
    simp only [State.endOfFreeStep]
    split
    · exact State.recovered_recordsWf h clear
    · exact State.endFreeMove_recordsWf h clear
  | searchFailed =>
    have clear := clear_of (.inr rfl)
    simp only [State.endOfFreeStep, State.searchFails]
    split
    · exact State.failSearch_recordsWf h
    · exact h.of_none rfl clear
  | calibrated =>
    have taken := State.takeCalibration_recordsWf h fun c hc => (fits c hc).2.2 rfl
    exact State.endFreeMove_recordsWf taken s.takeCalibration_calib
  | calibrationFailed e => exact h.of_none (by simp [State.endOfFreeStep]) (by simp [State.endOfFreeStep, State.calibrationEnds])
  | goesOn =>
    simp only [State.endOfFreeStep]
    split
    · next other =>
      have clear : s.msu.calib = none := h.calib_of (by simp [other.2.1])
      refine h.of_none (by simp) ?_
      rw [State.targetReached]
      split <;> simp [State.endFreeMove, clear]
    · exact h

theorem State.endOfStep_recordsWf (h : s.RecordsWf) {m : MoveEnd} (fits : s.Fits m) : (s.endOfStep m).RecordsWf := by
  cases mode : s.fmu.mode with
  | stopped => simpa [State.endOfStep, mode] using h
  | stopping =>
    simp only [State.endOfStep, mode]
    split
    · exact State.stopEnded_recordsWf h mode
    · exact h
  | freeMove => simpa [State.endOfStep, mode] using State.endOfFreeStep_recordsWf h fits
  | printRun =>
    have clear : s.msu.calib = none := h.calib_of (by simp [mode])
    simp only [State.endOfStep, mode, State.endOfRunStep]
    (repeat' split) <;> exact h.of_none (by simp) (by simp [clear])

theorem State.lineStep_recordsWf (h : s.RecordsWf) (level : Byte) : (s.lineStep level).RecordsWf := by
  have sampled : (s.lineParts12.stepSample level).state.RecordsWf :=
    (State.lineParts12_recordsWf h).of_parts (by simp) (by simp) (by simp) (by simp)
  simp only [State.lineStep]
  generalize s.lineParts12.stepSample level = p at sampled ⊢
  obtain ⟨decided, fits⟩ := State.decide4_recordsWf sampled s.underHorizon level p.change
  generalize p.state.decide4 s.underHorizon level p.change = d at decided fits ⊢
  refine State.conclude_recordsWf (State.endOfStep_recordsWf (State.stopForFault_recordsWf decided _ _) ?_)
  intro c hc
  rcases State.stopForFault_calib d.state p.absentNow d.lost with clear | same
  · rw [clear] at hc
    cases hc
  · exact fits c (same ▸ hc)

end Sys2Proof.Machine
end

section
/-! R154 of every row: what puts a record in force (R155, R157, R162, R163), and the settled obligation. -/

namespace Sys2Proof.Machine

variable {s t : State}

/-! ### Checked records -/

theorem passes_append (l r : List (Bool × Nat)) : passes (l ++ r) = (passes l && passes r) := List.all_append

theorem passes_profileAgreement (p : Profile) (m : Mechanism) : passes (profileAgreement p m) = true ↔ Agrees p m := by
  simp [passes, profileAgreement, Agrees]

theorem passes_mechanismAgreement (p : Profile) (m : Mechanism) :
    passes (mechanismAgreement p m) = true ↔ Agrees p m := by
  simp [passes, mechanismAgreement, Agrees]

/-- R28: the fields refuse nothing exactly when every check passes. -/
theorem firstOf_fieldRefusals {l : List (Bool × Nat)} : firstOf (fieldRefusals l) = none ↔ passes l = true := by
  simp [firstOf_eq_none, fieldRefusals, passes]

/-- R155: the ENGINE BUSY preconditions. -/
theorem State.busyChecks_pass (h : firstOf s.busyChecks = none) :
    s.eng.cond = .idle ∧ s.fmu.motion = none ∧ s.lbq.queue = [] ∧ s.lbq.openSlot = none := by
  rw [firstOf_eq_none] at h
  simpa [State.busyChecks, and_assoc] using h

theorem State.mediaChecks_pass (h : firstOf s.mediaChecks = none) :
    s.fmu.motion = none ∧ (Profile.ofBytes s.csq.body).WellFormed ∧ Agrees (Profile.ofBytes s.csq.body) s.nvs.mech := by
  rw [State.mediaChecks, firstOf_append, Option.or_eq_none_iff, firstOf_fieldRefusals, passes_append, Bool.and_eq_true,
    passes_profileChecks, passes_profileAgreement] at h
  obtain ⟨⟨⟨fields, _⟩, agrees⟩, busy⟩ := h
  exact ⟨(State.busyChecks_pass busy).2.1, fields, agrees⟩

theorem State.mechanismPayloadChecks_pass (h : firstOf s.mechanismPayloadChecks = none) :
    s.fmu.motion = none ∧ (Mechanism.ofBytes s.csq.body).WellFormed ∧
    Agrees s.nvs.profile (Mechanism.ofBytes s.csq.body) := by
  rw [State.mechanismPayloadChecks, List.append_assoc, firstOf_append, Option.or_eq_none_iff, firstOf_fieldRefusals,
    passes_append, Bool.and_eq_true, passes_mechanismChecks, passes_mechanismAgreement, firstOf_append,
    Option.or_eq_none_iff] at h
  obtain ⟨⟨fields, agrees⟩, busy, _⟩ := h
  exact ⟨(State.busyChecks_pass busy).2.1, fields, agrees⟩

/-- R158: a copy that is selected is valid. -/
theorem StoredRecord.selected_valid {record : Nat} {r : StoredRecord} {copyB : Bool}
    (h : r.selected record = some copyB) : (r.copy copyB).valid record = true := by
  rw [StoredRecord.selected] at h
  cases a : r.a.valid record <;> cases b : r.b.valid record <;> cases copyB <;> simp [StoredRecord.copy, a, b] at h ⊢

/-- R158: the record of the selected copy is well formed. -/
theorem Nvs.load_wellFormed {n : Nvs} {record : Nat} {b : List Byte} (h : n.load record = some b) :
    recordWellFormed record (copyRecord record b) = true := by
  simp only [Nvs.load, Option.map_eq_some_iff] at h
  obtain ⟨copyB, selected, rfl⟩ := h
  have valid := StoredRecord.selected_valid selected
  rw [StoredCopy.valid, Bool.and_eq_true] at valid
  exact valid.2

theorem State.loadChecks_pass {record : Nat} (h : firstOf (s.loadChecks record) = none) (profile : record ≠ 0) :
    ∃ b, s.nvs.load record = some b ∧ (Profile.ofBytes (copyRecord record b)).WellFormed ∧
      Agrees (Profile.ofBytes (copyRecord record b)) s.nvs.mech := by
  cases load : s.nvs.load record with
  | none => simp [State.loadChecks, load] at h
  | some b =>
    simp only [State.loadChecks, load, firstOf_fieldRefusals, passes_profileAgreement] at h
    exact ⟨b, rfl, ((recordWellFormed_profile _ profile).1 (Nvs.load_wellFormed load)).1, h⟩

/-! ### Records put in force -/

theorem State.useProfile_recordsWf (h : s.RecordsWf) (still : s.fmu.motion = none) {p : Profile} (wf : p.WellFormed)
    (agrees : Agrees p s.nvs.mech) : (s.useProfile p).RecordsWf := by
  refine ⟨wf, h.2.1, agrees, fun c hc => ?_⟩
  have clear := h.calib_of_still still
  exact absurd (hc.symm.trans clear) nofun

theorem State.useMechanism_recordsWf (h : s.RecordsWf) (still : s.fmu.motion = none) {m : Mechanism}
    (wf : m.WellFormed) (agrees : Agrees s.nvs.profile m) : (s.useMechanism m).RecordsWf := by
  have clear := h.calib_of_still still
  simp only [State.useMechanism]
  split <;> exact ⟨h.1, wf, agrees, fun c hc => absurd (hc.symm.trans clear) nofun⟩

theorem State.loadProfile_recordsWf (h : s.RecordsWf) (still : s.fmu.motion = none) {record : Nat}
    (checked : firstOf (s.loadChecks record) = none) (profile : record ≠ 0) : (s.loadProfile record).RecordsWf := by
  obtain ⟨b, load, wf, agrees⟩ := State.loadChecks_pass checked profile
  simp only [State.loadProfile, load]
  exact State.useProfile_recordsWf h still wf agrees

/-! ### The records at power-up -/

theorem Profile.default_wellFormed : Profile.default.WellFormed := by
  simp [Profile.WellFormed, Profile.default]

theorem Mechanism.default_wellFormed : Mechanism.default.WellFormed := by
  simp [Mechanism.WellFormed, Mechanism.default]

theorem Profile.default_agrees : Agrees Profile.default Mechanism.default := by
  simp [Agrees, Profile.default, Mechanism.default]

/-- R163 step 3: the adjusted default agrees with any mechanism record, and is well formed still. -/
theorem adjustedDefault_wellFormed {m : Mechanism} (h : m.WellFormed) :
    (adjustedDefault m).WellFormed ∧ Agrees (adjustedDefault m) m := by
  obtain ⟨⟨offset, _⟩, _, _, _, _, ⟨critical, _⟩, _⟩ := h
  simp only [adjustedDefault, Profile.default, Profile.WellFormed, Agrees]
  omega

/-- R163: the records that a power-up puts in force are well formed and agree. -/
theorem Nvs.powerUp_wellFormed (n : Nvs) :
    n.powerUp.1.profile.WellFormed ∧ n.powerUp.1.mech.WellFormed ∧ Agrees n.powerUp.1.profile n.powerUp.1.mech := by
  have profile (m : Mechanism) (wf : m.WellFormed) :
      let p := match n.load (m.powerSlot + 1) with
        | some b =>
          let p := Profile.ofBytes (copyRecord (m.powerSlot + 1) b)
          if passes (profileAgreement p m) then (p, []) else (adjustedDefault m, [defaulted (m.powerSlot + 1)])
        | none => (adjustedDefault m, [defaulted (m.powerSlot + 1)])
      p.1.WellFormed ∧ Agrees p.1 m := by
    cases load : n.load (m.powerSlot + 1) with
    | none => exact adjustedDefault_wellFormed wf
    | some b =>
      simp only
      split
      · next agrees =>
        exact ⟨((recordWellFormed_profile _ (Nat.succ_ne_zero _)).1 (Nvs.load_wellFormed load)).1,
          (passes_profileAgreement _ _).1 agrees⟩
      · exact adjustedDefault_wellFormed wf
  cases load : n.load 0 with
  | none =>
    obtain ⟨wf, agrees⟩ := profile .default Mechanism.default_wellFormed
    simp only [Nvs.powerUp, load]
    exact ⟨wf, Mechanism.default_wellFormed, agrees⟩
  | some b =>
    have mech := (recordWellFormed_mechanism _).1 (Nvs.load_wellFormed load)
    obtain ⟨wf, agrees⟩ := profile _ mech
    simp only [Nvs.powerUp, load]
    exact ⟨wf, mech, agrees⟩

theorem State.portReset_recordsWf (h : s.RecordsWf) (i : Inputs) : (s.portReset i).RecordsWf := by
  refine h.of_clear (by simp) (by simp) ?_
  simp [State.portReset, State.readInputs, State.clearBlocks, State.reset, State.resetSample]

theorem State.powerUp_recordsWf (s : State) (kind : Nat) (p : PowerUp) : (s.powerUp kind p).RecordsWf := by
  have records (n : Nvs) (outcome : RamOutcome) : (n.afterTest outcome).1.profile.WellFormed ∧
      (n.afterTest outcome).1.mech.WellFormed ∧ Agrees (n.afterTest outcome).1.profile (n.afterTest outcome).1.mech := by
    cases outcome with
    | passed => exact n.powerUp_wellFormed
    | failed => exact ⟨Profile.default_wellFormed, Mechanism.default_wellFormed, Profile.default_agrees⟩
  obtain ⟨profile, mech, agrees⟩ := records ((s.tearWrite p.inputs.torn).nvs.decayed p.decay) (ramOutcome p.misreads)
  refine ⟨by simpa [State.powerUp] using profile, by simpa [State.powerUp] using mech,
    by simpa [State.powerUp] using agrees, fun c hc => ?_⟩
  simp [State.powerUp, State.readInputs, State.clearBlocks, State.reset, State.resetSample] at hc

theorem State.powerUpNow_recordsWf (h : s.RecordsWf) (kind : Nat) (p : PowerUp) : (s.powerUpNow kind p).RecordsWf := by
  rw [State.powerUpNow]
  split
  · exact s.powerUp_recordsWf kind p
  · exact h.of_none (by simp) (by simp [State.outOfService])

/-! ### The other rows -/

theorem State.dataAccess_recordsWf (h : s.RecordsWf) (a : Access) : (s.dataAccess a).RecordsWf := by
  cases a with
  | read =>
    exact State.servedRead_elim State.RecordsWf (h.of_parts rfl rfl rfl rfl) fun _ =>
      h.of_parts (by simp) (by simp) (by simp) (by simp)
  | write b =>
    exact State.served_elim State.RecordsWf h fun _ => h.of_parts (by simp) (by simp) (by simp) (by simp)

theorem State.breakNow_recordsWf (h : s.RecordsWf) : s.breakNow.RecordsWf := by
  have broken : s.breakExecute.RecordsWf := by
    simp only [State.breakExecute]
    split
    · exact h
    split
    · exact h.of_parts (by simp) (by simp) (by simp) (by simp)
    · exact h.of_parts (by simp) (by simp) (by simp) (by simp)
    · split
      · exact h.of_parts (by simp) (by simp) (by simp) (by simp)
      · exact h.of_parts (by rfl) (by rfl) (by rfl) (by rfl)
    · exact State.breakMotion_recordsWf (h.of_parts (by rfl) (by rfl) (by rfl) (by rfl))
    all_goals exact h.of_parts (by rfl) (by rfl) (by rfl) (by rfl)
  rw [State.breakNow]
  split
  case h_6 => exact State.conclude_recordsWf broken
  all_goals exact h.of_parts (by simp) (by simp) (by simp) (by simp)

theorem State.readRequests_recordsWf (h : s.RecordsWf) (before : Bool) : (s.readRequests before).RecordsWf := by
  simp only [State.readRequests]
  split
  · have reported : (s.post (s.tempEvent .headCritical)).RecordsWf :=
      h.of_parts (by simp) (by simp) (by simp) (by simp)
    split
    · exact State.halt_recordsWf reported _
    split
    · next halted => exact State.addCause_recordsWf reported halted _
    · exact reported
  split
  · next run => exact h.of_none (by simp) (State.enterHold_calib _ (h.calib_of_running run.1))
  split
  · next hold =>
    have clear : s.msu.calib = none := h.calib_of_live (by rw [hold.1]; rfl)
    refine h.of_none (by simp) ?_
    simp only [State.releaseHold]
    split <;> simp [clear]
  · exact h

theorem State.headChanges_recordsWf (h : s.RecordsWf) : s.headChanges.RecordsWf := by
  simp only [State.headChanges]
  split
  · exact State.headOpens_recordsWf (h.of_parts (by simp) (by simp) (by simp) (by simp))
  · exact h.of_parts (by simp) (by simp) (by simp) (by simp)

theorem State.idleStep_recordsWf (h : s.RecordsWf) (level : Byte) : (s.idleStep level).RecordsWf := by
  have sampled : (s.idleSample level).1.RecordsWf := h.of_parts (by simp) (by simp) (by simp) (by simp)
  simp only [State.idleStep]
  split
  · exact State.mediaGone_recordsWf sampled
  · exact sampled

/-- R122, R123: a backward step is none of a calibration's. -/
theorem State.backStep_recordsWf (h : s.RecordsWf) (due : s.backwardDue = true) : s.backStep.RecordsWf := by
  have other : s.fmu.move ≠ .calibrate := by
    intro calibrate
    simp [State.backwardDue, Fmu.goesBack, calibrate] at due
  have clear : s.msu.calib = none := h.calib_of (by simp [other])
  refine State.conclude_recordsWf (h.of_none ?_ ?_)
  · split <;> simp [State.stepBackward]
  · split
    · rw [State.backAtTarget]
      split
      · simp only
        split <;> simp [clear, State.stepBackward, State.endFreeMove]
      all_goals simp [clear, State.stepBackward, State.endFreeMove]
    · simp [clear, State.stepBackward]

theorem rowEffect_recordsWf (i : Instr) (s : State) (h : s.RecordsWf) : (rowEffect i s).RecordsWf := by
  have ended (u : State) (hu : u.RecordsWf) (e : Ending) : (u.finish e).RecordsWf :=
    hu.of_parts (by simp) (by simp) (by simp) (by simp)
  have given (u : State) (hu : u.RecordsWf) (l : List Byte) : (u.enterDataIn l).RecordsWf :=
    hu.of_parts (by simp) (by simp) (by simp) (by simp)
  have asked (u : State) (hu : u.RecordsWf) (n : Nat) : (u.enterDataOut n).RecordsWf :=
    hu.of_parts (by simp) (by simp) (by simp) (by simp)
  have read (decay : List Decay) : (s.readStore decay).RecordsWf :=
    h.of_eq (by simp [State.readStore]) (by simp [State.readStore]) (by rfl) (by rfl) (by rfl) (by rfl) (by rfl) (by rfl)
  have removed (slot : Nat) : (s.removeLabel slot none).RecordsWf :=
    h.of_eq (by simp) (by simp) (by simp) (by simp) (by simp) (by simp) (by simp) (by simp)
  have clocked (elapsed : Nat) : (s.advanceClock elapsed).RecordsWf := h.of_parts rfl rfl rfl rfl
  cases i <;> simp only [rowEffect]
  case select | notifyMaskWrite | byteTimeout | motionWaitTimeout =>
    exact State.served_elim State.RecordsWf h fun _ => h.of_parts (by simp) (by simp) (by simp) (by simp)
  case breakRequest => exact State.served_elim State.RecordsWf h fun _ => State.breakNow_recordsWf h
  case portReset value inputs => exact State.served_elim State.RecordsWf h fun _ => State.portReset_recordsWf h inputs
  case pinReset found => exact State.powerUpNow_recordsWf h 2 found
  case powerOnReset found => exact State.powerUpNow_recordsWf h 1 found
  case resetInputHeld => exact h.of_none (by simp) (by simp [State.outOfService])
  case commandByte | payloadByte | resultByteRead | completionByteRead | refusedDataPortAccess =>
    exact State.dataAccess_recordsWf h _
  case dackCycle access =>
    cases access with
    | read =>
      exact State.servedRead_elim State.RecordsWf (h.of_parts rfl rfl rfl rfl) fun _ =>
        h.of_parts (by simp) (by simp) (by simp) (by simp)
    | write b =>
      exact State.served_elim State.RecordsWf h fun _ => h.of_parts (by simp) (by simp) (by simp) (by simp)
  case eventPortRead =>
    exact State.servedRead_elim State.RecordsWf (h.of_parts rfl rfl rfl rfl) fun _ =>
      h.of_parts (by simp) (by simp) (by simp) (by simp)
  case testReady =>
    exact State.served_elim State.RecordsWf h fun _ => State.plain_elim State.RecordsWf h
      (fun _ e => ended s h e) fun _ _ _ => ended s h _
  case requestSense | readEngineState | sensorRead | readMediaParameters | readGlyphEntry =>
    exact State.served_elim State.RecordsWf h fun _ => State.plain_elim State.RecordsWf h
      (fun _ e => ended s h e) fun _ _ _ => given s h _
  case ramTest =>
    exact State.served_elim State.RecordsWf h fun _ => State.plain_elim State.RecordsWf h
      (fun _ e => ended s h e) fun _ _ _ => h.of_parts rfl rfl rfl rfl
  case deleteGlyph | openLabel | placeGlyph | placeRule | closeLabel | setRunGate =>
    exact State.served_elim State.RecordsWf h fun _ => State.plain_elim State.RecordsWf h (fun _ e => ended s h e)
      fun _ _ _ => State.completeAfter_recordsWf (h.of_parts (by simp) (by simp) (by simp) (by simp))
  case discardLabel =>
    refine State.served_elim State.RecordsWf h fun _ => State.plain_elim State.RecordsWf h (fun _ e => ended s h e)
      fun _ _ _ => State.completeAfter_recordsWf ?_
    cases held : s.lbq.openSlot with
    | none => simpa [State.commitDiscard, held] using h
    | some slot => simpa [State.commitDiscard, held] using removed slot
  case cancelLabels =>
    refine State.served_elim State.RecordsWf h fun _ => State.plain_elim State.RecordsWf h (fun _ e => ended s h e)
      fun _ _ _ => ?_
    rw [State.cancelNow]
    split
    · exact ended s h _
    · refine State.completeAfter_recordsWf ?_
      rw [State.commitCancel]
      split
      · exact h
      · exact h.of_eq (by simp) (by simp) (by simp) (by simp) (by simp) (by simp) (by simp) (by simp)
  case compactGlyphs =>
    exact State.served_elim State.RecordsWf h fun _ => State.plain_elim State.RecordsWf h (fun _ e => ended s h e)
      fun _ _ _ => State.conclude_recordsWf (h.of_parts rfl rfl rfl rfl)
  case setMediaParameters =>
    refine State.served_elim State.RecordsWf h fun _ => State.withPayload_elim State.RecordsWf h
      (fun _ e => ended s h e) (fun _ _ => asked s h _) fun _ checked _ => State.completeAfter_recordsWf ?_
    obtain ⟨still, wf, agrees⟩ := State.mediaChecks_pass checked
    exact State.useProfile_recordsWf h still wf agrees
  case defineGlyph | placeText | placeImage =>
    exact State.served_elim State.RecordsWf h fun _ => State.withPayload_elim State.RecordsWf h
      (fun _ e => ended s h e) (fun _ _ => asked s h _) fun _ _ _ =>
        State.completeAfter_recordsWf (h.of_parts (by simp) (by simp) (by simp) (by simp))
  case setMechanismParameters strap decay =>
    have sampled : ((s.sampleStrap strap).readStore decay).RecordsWf := (read decay).of_parts rfl rfl rfl rfl
    refine State.served_elim State.RecordsWf h fun _ => State.setMechanism_elim State.RecordsWf h fun _ => ?_
    refine State.withPayload_elim State.RecordsWf sampled (fun _ e => ended _ sampled e)
      (fun _ _ => asked _ sampled _) fun _ checked _ => State.conclude_recordsWf ?_
    obtain ⟨still, wf, agrees⟩ := State.mechanismPayloadChecks_pass checked
    exact (State.useMechanism_recordsWf sampled still wf agrees).of_parts rfl rfl rfl rfl
  case storeProfile strap decay =>
    have sampled : ((s.sampleStrap strap).readStore decay).RecordsWf := (read decay).of_parts rfl rfl rfl rfl
    refine State.served_elim State.RecordsWf h fun _ => ?_
    rw [State.storeProfile]
    split
    · exact State.plain_elim State.RecordsWf sampled (fun _ e => ended _ sampled e)
        fun _ _ _ => sampled.of_parts (by rfl) (by rfl) (by rfl) (by rfl)
    · exact h
  case loadProfile decay =>
    refine State.served_elim State.RecordsWf h fun _ => ?_
    rw [State.loadSlot]
    split
    · refine State.plain_elim State.RecordsWf (read decay) (fun _ e => ended _ (read decay) e)
        fun _ checked _ => State.completeAfter_recordsWf ?_
      rw [firstOf_append, Option.or_eq_none_iff] at checked
      exact State.loadProfile_recordsWf (read decay) (State.busyChecks_pass checked.1).2.1 checked.2
        (Nat.succ_ne_zero _)
    · exact h
  case verifyProfiles decay =>
    refine State.served_elim State.RecordsWf h fun _ => ?_
    rw [State.verifyStore]
    split
    · exact State.plain_elim State.RecordsWf (read decay) (fun _ e => ended _ (read decay) e)
        fun _ _ _ => given _ (read decay) _
    · exact h
  case glyphMove =>
    exact State.served_elim State.RecordsWf h fun _ => State.moveEnds_elim State.RecordsWf (fun _ => h)
      (fun _ => State.conclude_recordsWf h)
      fun _ _ _ _ => State.conclude_recordsWf (h.of_parts (by simp) (by simp) (by simp) (by simp))
  case feed | advanceToEdge | calibrateMedia | present | retract | resume =>
    exact State.served_elim State.RecordsWf h fun _ => State.motion_elim State.RecordsWf h (fun _ e => ended s h e)
      (fun _ _ => h.of_parts rfl rfl rfl rfl)
      fun _ still checked _ => State.conclude_recordsWf (State.commitMotion_recordsWf h still checked)
  case recordCopyWrite differs =>
    exact State.served_elim State.RecordsWf h fun _ =>
      h.of_eq (by simp) (by simp) (by simp) (by simp) (by simp) (by simp) (by simp) (by simp)
  case ramByteTest answer =>
    split
    · exact State.served_elim State.RecordsWf h fun _ => h.of_parts (by simp) (by simp) (by simp) (by simp)
    · exact h
  case bandRender =>
    refine State.served_elim State.RecordsWf h fun _ => ?_
    split
    · exact State.conclude_recordsWf (h.of_parts (by simp) (by simp) (by simp) (by simp))
    · exact h
  case lineStep level elapsed =>
    refine State.served_elim State.RecordsWf h fun _ => ?_
    split
    · exact State.lineStep_recordsWf (clocked elapsed) level
    · exact h
  case backwardStep elapsed =>
    refine State.served_elim State.RecordsWf h fun _ => ?_
    split
    · next due => exact State.backStep_recordsWf (clocked elapsed) due
    · exact h
  case runStart =>
    refine State.served_elim State.RecordsWf h fun _ => ?_
    split
    · exact State.conclude_recordsWf (State.startRun_recordsWf h)
    · exact h
  case temperatureSample degrees =>
    exact State.served_elim State.RecordsWf h fun _ => State.conclude_recordsWf
      (State.readRequests_recordsWf (h.of_parts (by simp) (by simp) (by simp) (by simp)) _)
  case headStateChange =>
    exact State.served_elim State.RecordsWf h fun _ => State.conclude_recordsWf (State.headChanges_recordsWf h)
  case idleSample level =>
    refine State.served_elim State.RecordsWf h fun _ => ?_
    split
    · exact State.conclude_recordsWf (State.idleStep_recordsWf h level)
    · exact h
  case autoRecover =>
    refine State.served_elim State.RecordsWf h fun _ => ?_
    split
    · next due =>
      have halted : s.eng.cond = .halted := by
        simp only [Bool.and_eq_true, beq_iff_eq] at due
        exact due.2
      have clear := h.calib_of_halted halted
      exact State.conclude_recordsWf (State.beginRecoveryFind_recordsWf
        (h.of_none (by simp) (by simp [clear])) (by simp [clear]))
    · exact h
  case motorRelease =>
    refine State.served_elim State.RecordsWf h fun _ => ?_
    split
    · exact h.of_eq rfl rfl rfl rfl rfl rfl rfl rfl
    · exact h

/-- Settles O56, row by row. -/
theorem workingRecordsStayWellFormed : Obligations.WorkingRecordsStayWellFormed := fun _ _ h step =>
  step_keeps (P := State.RecordsWf) (fun _ _ h => h) rowEffect_recordsWf h step

end Sys2Proof.Machine
end

section
/-! The rows of the host port (Chapter 1): what an access does in each phase, and the obligations on bytes that cross the
port, refused accesses, transfers that end early, the Event Port and the port out of service. -/

namespace Sys2Proof.Machine

variable {s : State}

/-! ### A row in service, and out of it -/

/-- Every row but a byte test at an offset that memory lacks goes on to the machine of its effect. -/
theorem exec_eq_rowEffect {i : Instr} (h : ∀ answer, i ≠ .ramByteTest answer) (s : State) :
    exec i s = .next (rowEffect i s) := by
  cases i with
  | ramByteTest answer => exact absurd rfl (h answer)
  | dackCycle access => cases access <;> rfl
  | _ => rfl

theorem State.servedRead_inService (h : s.InService) (f : State → State) : s.servedRead f = f s := by
  simp [State.servedRead, State.running, h]

theorem State.servedRead_outOfService (h : ¬ s.InService) (f : State → State) :
    s.servedRead f = { s with hpu := { s.hpu with bus := 0xFF } } := by
  simp [State.servedRead, State.running, h]

/-- The rows that write a byte to the Data Port are served alike (log 14). -/
theorem exec_dataWrite (h : s.InService) (b : Byte) :
    ∀ row ∈ [Instr.commandByte b, .payloadByte b, .refusedDataPortAccess (.write b)],
      exec row s = .next (s.dataWrite b) := by
  intro row hrow
  have written : rowEffect row s = s.dataAccess (.write b) ∧ ∀ answer, row ≠ .ramByteTest answer := by
    simp only [List.mem_cons, List.not_mem_nil, or_false] at hrow
    rcases hrow with rfl | rfl | rfl <;> exact ⟨rfl, nofun⟩
  rw [exec_eq_rowEffect written.2, written.1, State.dataAccess, State.served_inService h]

/-- The rows that read a byte from the Data Port are served alike (log 14). -/
theorem exec_dataRead (h : s.InService) :
    ∀ row ∈ [Instr.resultByteRead, .completionByteRead, .refusedDataPortAccess .read],
      exec row s = .next s.dataRead := by
  intro row hrow
  have read : rowEffect row s = s.dataAccess .read ∧ ∀ answer, row ≠ .ramByteTest answer := by
    simp only [List.mem_cons, List.not_mem_nil, or_false] at hrow
    rcases hrow with rfl | rfl | rfl <;> exact ⟨rfl, nofun⟩
  rw [exec_eq_rowEffect read.2, read.1, State.dataAccess, State.servedRead_inService h]

theorem exec_dackWrite (h : s.InService) (b : Byte) :
    exec (.dackCycle (.write b)) s = .next (s.dack (.write b)) := congrArg _ (State.served_inService h _)

theorem exec_dackRead (h : s.InService) : exec (.dackCycle .read) s = .next (s.dack .read) :=
  congrArg _ (State.servedRead_inService h _)

theorem exec_breakRequest (h : s.InService) : exec .breakRequest s = .next s.breakNow :=
  congrArg _ (State.served_inService h _)

theorem exec_byteTimeout (h : s.InService) : exec .byteTimeout s = .next s.timeoutNow :=
  congrArg _ (State.served_inService h _)

theorem exec_eventPortRead (h : s.InService) : exec .eventPortRead s = .next s.readEvent :=
  congrArg _ (State.servedRead_inService h _)

/-! ### Accesses by phase -/

theorem State.dataWrite_command (h : s.hpu.phase = .command) (b : Byte) : s.dataWrite b = s.takeCommandByte b := by
  rw [State.dataWrite, h]

theorem State.dataWrite_dataOut (h : s.hpu.phase = .dataOut) (b : Byte) : s.dataWrite b = s.takePayloadByte b := by
  rw [State.dataWrite, h]

theorem State.dataWrite_refused (h : s.hpu.phase ∉ [Phase.command, .dataOut]) (b : Byte) :
    s.dataWrite b = s.refuseAccess 2 := by
  cases p : s.hpu.phase <;> simp [p] at h <;> simp [State.dataWrite, State.refuseWrite, p]

theorem State.dataRead_dataIn (h : s.hpu.phase = .dataIn) : s.dataRead = s.giveResultByte := by
  rw [State.dataRead, h]

theorem State.dataRead_completion (h : s.hpu.phase = .completion) : s.dataRead = s.giveCompletionByte := by
  rw [State.dataRead, h]

theorem State.dataRead_refused (h : s.hpu.phase ∉ [Phase.dataIn, .completion]) :
    s.dataRead = ({ s with hpu := { s.hpu with bus := 0xFF } } : State).refuseAccess 3 := by
  cases p : s.hpu.phase <;> simp [p] at h <;> simp [State.dataRead, State.refuseRead, p]

theorem State.dack_dataOut (h : s.hpu.phase = .dataOut) (b : Byte) : s.dack (.write b) = s.takePayloadByte b := by
  simp [State.dack, h]

theorem State.dack_dataIn (h : s.hpu.phase = .dataIn) : s.dack .read = s.giveResultByte := by
  simp [State.dack, h]

theorem State.dack_write_refused (h : s.hpu.phase ≠ .dataOut) (b : Byte) :
    s.dack (.write b) = s.refuseAccess 2 := by
  cases p : s.hpu.phase <;> simp [p] at h <;> simp [State.dack, State.refuseWrite, p]

theorem State.dack_read_refused (h : s.hpu.phase ≠ .dataIn) :
    s.dack .read = ({ s with hpu := { s.hpu with bus := 0xFF } } : State).refuseAccess 3 := by
  cases p : s.hpu.phase <;> simp [p] at h <;> simp [State.dack, State.refuseRead, p]

/-! ### Command bytes -/

/-- R7: a byte short of the twelfth is stored and counted. -/
theorem State.takeCommandByte_early (h : s.hpu.counter < 11) (b : Byte) :
    s.takeCommandByte b = { s with hpu := { s.hpu with
      cmd := s.hpu.cmd ++ [b], counter := s.hpu.counter + 1, latch := b, byteTimer := some 1000 } } := by
  have notTwelfth : s.hpu.counter + 1 ≠ 12 := by omega
  simp [State.takeCommandByte, notTwelfth, Config.byteTimeout]

/-- R7, R23: the twelfth byte hands the block over. -/
theorem State.takeCommandByte_twelfth (h : s.hpu.counter = 11) (b : Byte) :
    s.takeCommandByte b = ({ s with hpu := { s.hpu with
      cmd := s.hpu.cmd ++ [b], counter := 12, latch := b, byteTimer := some 1000 } } : State).handOver
        (s.hpu.cmd ++ [b]) := by
  simp [State.takeCommandByte, h, Config.byteTimeout]

/-- The block as the sequencer takes it over (R7, R23). -/
def State.takeBlock (s : State) (block : List Byte) : State :=
  { s with
    hpu := { s.hpu with phase := .execute, byteTimer := none, cmd := [] }
    csq := { s.csq with block := block, payload := [], stage := .validate } }

/-- R23: steps 1 and 2 that fail end the command, also a REQUEST SENSE, with a record of their own. -/
theorem State.handOver_refused {block : List Byte} {e : Ending} (h : firstOf (blockChecks block) = some e) :
    (s.takeBlock block).EndsWith (s.handOver block) e := by
  simp only [State.handOver, h]
  exact State.complete_enters (s.takeBlock block) false e

/-- R23, R41: so do steps 3 and 4, which pass every REQUEST SENSE. -/
theorem State.handOver_gated {block : List Byte} {e : Ending} (passed : firstOf (blockChecks block) = none)
    (h : firstOf ((s.takeBlock block).gateAndRanges block) = some e) :
    (s.takeBlock block).EndsWith (s.handOver block) e := by
  have ended : s.handOver block = (s.takeBlock block).finish e := by
    simp only [State.handOver, passed]
    rw [State.takeBlock] at h ⊢
    simp only [h]
  rw [ended]
  refine State.finish_endsWith (fun sense => ?_) e
  have code : byteAt block 0 = 0x12 := by
    change block.head? = some 0x12 at sense
    rw [byteAt, List.getD_eq_getElem?_getD, ← List.head?_eq_getElem?, sense]
    rfl
  simp [State.gateAndRanges, State.faultGate, State.ranges, code, faultGateCodes] at h

theorem State.handOver_passed {block : List Byte} (passed : firstOf (blockChecks block) = none)
    (h : firstOf ((s.takeBlock block).gateAndRanges block) = none) : s.handOver block = s.takeBlock block := by
  simp only [State.handOver, passed]
  rw [State.takeBlock] at h ⊢
  simp only [h]

/-- Settles O4: bytes 1 to 11 are stored; the twelfth has the checks of steps 1 to 4 made in their order. -/
theorem commandBytesAreValidatedInOrder : Obligations.CommandBytesAreValidatedInOrder := by
  refine ⟨fun s b service phase early row hrow => ?_, fun s b service phase twelfth => ?_⟩
  · rw [exec_dataWrite service b row hrow, State.dataWrite_command phase, State.takeCommandByte_early early]
  · refine ⟨s.takeCommandByte b, ?_, by simp [State.SameEngine], ?_⟩
    · rw [exec_dataWrite service b _ (by simp), State.dataWrite_command phase]
    · rw [State.takeCommandByte_twelfth twelfth]
      intro block taken code
      have blockOf : firstOf (blockChecks block) =
          if checkSum block ≠ 0 then some (.error .checkByteError none (.detail (BitVec.ofNat 32 (checkSum block).toNat)))
          else if code ∉ commandCodes then some (.error .invalidCommand none .nothing)
          else if detachBit block = true ∧ code ∉ motionCodes then some (.error .invalidParameter none (.detail 1))
          else none := by
        simp [blockChecks, refusalDetail, refusal, badParameter, code]
      have gate : firstOf (taken.gateAndRanges block) =
          if s.eng.cond = .faulted ∧ code ∉ faultGateCodes then some (.error .engineFault none .nothing)
          else firstOf (s.ranges block) := by
        have same : taken.ranges block = s.ranges block := rfl
        simp [State.gateAndRanges, State.faultGate, refusal, code, same, taken]
      by_cases sum : checkSum block ≠ 0
      · rw [if_pos sum] at blockOf ⊢
        exact State.handOver_refused blockOf
      rw [if_neg sum] at blockOf ⊢
      by_cases known : code ∉ commandCodes
      · rw [if_pos known] at blockOf ⊢
        exact State.handOver_refused blockOf
      rw [if_neg known] at blockOf ⊢
      by_cases detached : detachBit block = true ∧ code ∉ motionCodes
      · rw [if_pos detached] at blockOf ⊢
        exact State.handOver_refused blockOf
      rw [if_neg detached] at blockOf ⊢
      by_cases faulted : s.eng.cond = .faulted ∧ code ∉ faultGateCodes
      · rw [if_pos faulted] at gate ⊢
        exact State.handOver_gated blockOf gate
      rw [if_neg faulted] at gate ⊢
      cases ranges : firstOf (s.ranges block) with
      | none => exact State.handOver_passed blockOf (gate.trans ranges)
      | some e => exact State.handOver_gated blockOf (gate.trans ranges)

/-! ### Payload bytes and result bytes -/

theorem State.takePayloadByte_eq (s : State) (b : Byte) :
    s.takePayloadByte b =
      if s.hpu.counter + 1 = s.hpu.length then
        { s with
          hpu := { s.hpu with
            phase := .execute, counter := s.hpu.counter + 1, latch := b, drq := false, byteTimer := none }
          csq := { s.csq with payload := s.csq.payload ++ [b], stage := .finish } }
      else
        { s with
          hpu := { s.hpu with
            counter := s.hpu.counter + 1, latch := b, drq := s.hpu.mask.getLsbD 0, byteTimer := some 1000 }
          csq := { s.csq with payload := s.csq.payload ++ [b] } } := rfl

/-- Settles O5. -/
theorem payloadBytesAreTaken : Obligations.PayloadBytesAreTaken := by
  intro s b service phase row hrow
  rw [← State.takePayloadByte_eq]
  by_cases port : row ∈ [Instr.commandByte b, .payloadByte b, .refusedDataPortAccess (.write b)]
  · rw [exec_dataWrite service b row port, State.dataWrite_dataOut phase]
  · have cycle : row = .dackCycle (.write b) := by
      simp only [List.mem_cons, List.not_mem_nil, or_false] at hrow port
      tauto
    rw [cycle, exec_dackWrite service, State.dack_dataOut phase]

/-- R9, R37, R41: the last byte ends the command with success; any other is followed by the next. -/
theorem State.giveResultByte_spec (s : State) :
    s.SameEngine s.giveResultByte ∧
      if s.hpu.counter + 1 = s.hpu.length then
        ({ s with hpu := { s.hpu with
            bus := s.hpu.latch, counter := s.hpu.counter + 1, drq := false } } : State).EntersCompletion
          s.giveResultByte .ok
          (if s.csq.block.head? = some 0x12 then s.csq.sense else ⟨.noSense, byteAt s.csq.block 0, none, .nothing⟩)
      else
        s.giveResultByte = { s with hpu := { s.hpu with
          bus := s.hpu.latch, counter := s.hpu.counter + 1, latch := s.hpu.result.headD 0
          result := s.hpu.result.tail, drq := s.hpu.mask.getLsbD 0, byteTimer := some 1000 } } := by
  refine ⟨by simp [State.SameEngine], ?_⟩
  by_cases last : s.hpu.counter + 1 = s.hpu.length
  · rw [if_pos last, State.giveResultByte, if_pos last]
    by_cases sense : s.csq.block.head? = some 0x12
    · rw [if_pos sense]
      exact State.finish_keepsSense (by exact sense) .ok
    · rw [if_neg sense]
      exact State.finish_endsWith (by exact sense) .ok
  · rw [if_neg last, State.giveResultByte, if_neg last]
    rfl

/-- Settles O6. -/
theorem resultBytesAreGiven : Obligations.ResultBytesAreGiven := by
  intro s service phase row hrow
  refine ⟨s.giveResultByte, ?_, s.giveResultByte_spec⟩
  by_cases port : row ∈ [Instr.resultByteRead, .completionByteRead, .refusedDataPortAccess .read]
  · rw [exec_dataRead service row port, State.dataRead_dataIn phase]
  · have cycle : row = .dackCycle .read := by
      simp only [List.mem_cons, List.not_mem_nil, or_false] at hrow port
      tauto
    rw [cycle, exec_dackRead service, State.dack_dataIn phase]

/-- Settles O7. -/
theorem completionByteReadFreesThePort : Obligations.CompletionByteReadFreesThePort := by
  intro s service phase row hrow
  refine ⟨s.giveCompletionByte, ?_, rfl, rfl, rfl, rfl, rfl⟩
  rw [exec_dataRead service row, State.dataRead_completion phase]
  simp only [List.mem_cons, List.not_mem_nil, or_false] at hrow ⊢
  tauto

/-! ### Refused accesses -/

/-- Settles O8. -/
theorem refusedAccessIsAMisuse : Obligations.RefusedAccessIsAMisuse := by
  refine ⟨fun s b service => ⟨fun row hrow phase => ?_, fun phase => ?_, fun row hrow phase => ?_, fun phase => ?_⟩,
    fun s kind => ⟨fun h => State.refuseAccess_latched h kind, fun h => State.refuseAccess_unlatched h kind⟩⟩
  · rw [exec_dataWrite service b row, State.dataWrite_refused phase]
    simp only [List.mem_cons, List.not_mem_nil, or_false] at hrow ⊢
    tauto
  · rw [exec_dackWrite service, State.dack_write_refused phase]
  · rw [exec_dataRead service row, State.dataRead_refused phase]
    simp only [List.mem_cons, List.not_mem_nil, or_false] at hrow ⊢
    tauto
  · rw [exec_dackRead service, State.dack_read_refused phase]

/-! ### Transfers that end early -/

/-- R12, R14: the command ends where it stands, with the record of its ending unless it is a REQUEST SENSE. -/
theorem State.endEarly_spec (s : State) (code : SenseCode) (info : SenseInfo)
    (noBlock : s.hpu.phase = .command → s.csq.block = []) :
    s.SameEngine (s.endEarly (.error code none info)) ∧
      ({ s with hpu := { s.hpu with cmd := [], drq := false } } : State).EntersCompletion
        (s.endEarly (.error code none info)) (.error code none info)
        (if s.csq.block.head? = some 0x12 then s.csq.sense
         else ⟨code, if s.hpu.phase = .command then 0x00 else byteAt s.csq.block 0, none, info⟩) := by
  refine ⟨by simp [State.SameEngine], ?_⟩
  have failing : (if s.hpu.phase = .command then 0x00 else byteAt s.csq.block 0) = byteAt s.csq.block 0 := by
    split
    · next phase => rw [noBlock phase]; rfl
    · rfl
  rw [failing]
  by_cases sense : s.csq.block.head? = some 0x12
  · rw [if_pos sense]
    exact State.finish_keepsSense (by exact sense) _
  · rw [if_neg sense]
    exact State.finish_endsWith (by exact sense) _

/-- Settles O9. -/
theorem transfersEndEarly : Obligations.TransfersEndEarly := by
  refine ⟨⟨fun s service phase => ?_, fun s service phase noBlock => ⟨_, ?_, s.endEarly_spec _ _ noBlock⟩⟩,
    fun s service runs noBlock => ⟨_, ?_, s.endEarly_spec _ _ noBlock⟩, fun s stopped => ?_⟩
  · rw [exec_breakRequest service]
    rcases phase with p | p <;> simp [State.breakNow, p]
  · rw [exec_breakRequest service]
    rcases phase with p | p | p <;> simp [State.breakNow, p, refusal]
  · rw [exec_byteTimeout service, State.timeoutNow, if_pos (Option.isSome_iff_ne_none.2 runs), refusalDetail]
  · by_cases service : s.InService
    · rw [exec_byteTimeout service, State.timeoutNow, stopped]
      rfl
    · exact congrArg _ (State.served_outOfService service _)

/-! ### The Event Port -/

/-- Settles O11. -/
theorem eventQueueKeepsItsOrder : Obligations.EventQueueKeepsItsOrder := by
  refine ⟨fun s e => ⟨fun room => by simp [State.post_eq, room], fun full => ?_⟩, fun s service empty => ?_,
    fun s e rest service queue inner => ?_, fun s e rest service queue last => ?_, fun e => rfl⟩
  · rw [State.post_eq, if_neg (by omega), if_neg (by omega)]
  · rw [exec_eventPortRead service, State.readEvent, empty]
  · have notLast : ¬ 5 ≤ s.eng.cursor := by omega
    simp only [exec_eventPortRead service, State.readEvent, queue, if_neg notLast]
  · simp only [exec_eventPortRead service, State.readEvent, queue, last, Eng.reportOverflow, Nat.pos_iff_ne_zero,
      ne_eq, ite_not, le_refl, if_true, noLabel]

/-! ### Out of service -/

/-- R20: a row other than a reset does nothing out of service, but that a read returns 0xFF. -/
theorem exec_outOfService (out : ¬ s.InService) {i : Instr} (pin : ∀ found, i ≠ .pinReset found)
    (power : ∀ found, i ≠ .powerOnReset found) (held : i ≠ .resetInputHeld) :
    exec i s = .next
      (if i = .resultByteRead ∨ i = .completionByteRead ∨ i = .eventPortRead ∨ i = .dackCycle .read ∨
          i = .refusedDataPortAccess .read
        then { s with hpu := { s.hpu with bus := 0xFF } } else s) := by
  cases i with
  | pinReset found => exact absurd rfl (pin found)
  | powerOnReset found => exact absurd rfl (power found)
  | resetInputHeld => exact absurd rfl held
  | resultByteRead | completionByteRead | eventPortRead => exact congrArg _ (State.servedRead_outOfService out _)
  | dackCycle access =>
    cases access with
    | read => exact congrArg _ (State.servedRead_outOfService out _)
    | write b => exact congrArg _ (State.served_outOfService out _)
  | refusedDataPortAccess access =>
    cases access with
    | read => exact congrArg _ (State.servedRead_outOfService out _)
    | write b => exact congrArg Host.Outcome.next (State.served_outOfService out (State.dataWrite · b))
  | commandByte b | payloadByte b => exact congrArg Host.Outcome.next (State.served_outOfService out (State.dataWrite · b))
  | ramByteTest answer =>
    have stopped : s.running = false := by simpa [State.running] using out
    cases stage : s.csq.stage <;> simp [exec, execRamByteTest, stage, stopped, State.served_outOfService out]
  | _ => exact congrArg _ (State.served_outOfService out _)

/-- Table 1-2: a byte of eight flags, bit by bit. -/
theorem byteOfBits_eight : ∀ b0 b1 b2 b3 b4 b5 b6 b7 : Bool,
    let flag (b : Bool) (i : Nat) : Byte := if b then BitVec.ofNat 8 (2 ^ i) else 0
    byteOfBits [b0, b1, b2, b3, b4, b5, b6, b7] =
      flag b0 0 ||| flag b1 1 ||| flag b2 2 ||| flag b3 3 ||| flag b4 4 ||| flag b5 5 ||| flag b6 6 ||| flag b7 7 := by
  decide

/-- R6 to R10: the port's lines by phase. -/
theorem Hpu.lines (h : Hpu) :
    h.req = (h.phase != .free && h.phase != .execute) ∧ h.dir = (h.phase == .dataIn || h.phase == .completion) ∧
    h.ctl = (h.phase == .command || h.phase == .completion) ∧ h.busy = (h.phase != .free) := by
  cases p : h.phase <;> simp [Hpu.req, Hpu.dir, Hpu.ctl, Hpu.busy, p]

/-- Settles O12. -/
theorem heldResetIgnoresEveryAccess : Obligations.HeldResetIgnoresEveryAccess := by
  refine ⟨fun s i out pin power held => ⟨_, exec_outOfService out pin power held, rfl⟩, fun s strap => ⟨?_, ?_, ?_, ?_⟩⟩
  · intro service
    simp [portStatus, identityPort, service]
  · intro service
    simp [portStatus, service]
  · intro service
    cases v : s.hpu.service <;> simp [v] at service <;> simp [identityPort, v]
  · intro service
    obtain ⟨req, dir, ctl, busy⟩ := s.hpu.lines
    have events : (!s.eng.events.isEmpty) = (s.eng.events != []) := by cases s.eng.events <;> rfl
    rw [portStatus, service, req, dir, ctl, busy, events, byteOfBits_eight]
    rfl

end Sys2Proof.Machine
end

section
/-! How a command reaches its end or its commit (R23, R26, R28, R29), said once for the commands with and without a
payload; the CRC-16 of a trailer (R27); and the attempts of a record write (R160). -/

namespace Sys2Proof.Machine

variable {s : State} {code : Byte} {checks again : List (Bool × Ending)} {commit : State → State} {e : Ending}

/-! ### The first check that fails -/

/-- The same checks, each as what must hold. -/
theorem firstOf_required {l before after : List (Bool × Ending)} (split : l = before ++ (false, e) :: after)
    (passed : ∀ f ∈ before, f.1 = true) : firstOf (l.map fun c => (!c.1, c.2)) = some e := by
  have none : firstOf (before.map fun c => (!c.1, c.2)) = none := by
    rw [firstOf_eq_none]
    simpa using passed
  simp [split, firstOf_append, none]

theorem decide_lt_eq {α : Type} [LinearOrder α] (a b : α) : decide (a < b) = !decide (b ≤ a) := by
  rw [← decide_not, decide_eq_decide, not_le]

theorem outside_eq (n low high : Nat) : outside n low high = !decide (low ≤ n ∧ n ≤ high) := by
  rw [outside, ← decide_not, decide_eq_decide]
  omega

/-! ### Commands without a payload -/

/-- R24: past the fault gate the first range or precondition that fails ends the command. -/
theorem State.plain_refuses (r : s.Ready code) (g : s.eng.cond ≠ .faulted ∨ code ∈ faultGateCodes)
    (h : firstOf (s.ranges s.csq.block ++ checks) = some e) : s.plain code checks commit = s.finish e := by
  rw [State.plain_ready r]
  refine State.act_refuses ?_
  rwa [firstOf_append, State.gateAndRanges_passes (by rwa [r.code]), ← firstOf_append]

/-- R29: with none failed, and no Break pending, the command commits. -/
theorem State.plain_acts (r : s.Ready code) (g : s.eng.cond ≠ .faulted ∨ code ∈ faultGateCodes)
    (b : s.hpu.breakPending = false) (h : firstOf (s.ranges s.csq.block ++ checks) = none) :
    s.plain code checks commit = commit s := by
  rw [State.plain_ready r]
  refine State.act_commits ?_ b
  rwa [firstOf_append, State.gateAndRanges_passes (by rwa [r.code]), ← firstOf_append]

/-! ### Commands with a payload -/

theorem State.withPayload_refuses {length : Nat} (r : s.Ready code)
    (g : s.eng.cond ≠ .faulted) (h : firstOf (s.ranges s.csq.block ++ checks) = some e) :
    s.withPayload code checks length again commit = s.finish e := by
  rw [State.withPayload_ready r]
  refine State.act_refuses ?_
  rwa [firstOf_append, State.gateAndRanges_passes (.inl g), ← firstOf_append]

/-- R26: the command asks for its payload. -/
theorem State.withPayload_asks {length : Nat} (r : s.Ready code) (c : s.Clear)
    (h : firstOf (s.ranges s.csq.block ++ checks) = none) :
    s.withPayload code checks length again commit = s.enterDataOut length := by
  rw [State.withPayload_ready r]
  refine State.act_commits (commit := fun s => s.enterDataOut length) ?_ c.2
  rwa [firstOf_append, State.gateAndRanges_passes (.inl c.1), ← firstOf_append]

/-- R28: the trailer is checked before anything else. -/
theorem State.withPayload_crc {length : Nat} (r : s.ReadyAgain code) (bad : crc16 s.csq.body ≠ s.csq.trailer) :
    s.withPayload code checks length again commit =
      s.finish (.error .payloadCheckError none (.detail (s.csq.trailer ++ crc16 s.csq.body))) := by
  rw [State.withPayload_again r]
  exact State.act_refuses (by simp [Csq.crcCheck, bad])

theorem State.withPayload_again_refuses {length : Nat} (r : s.ReadyAgain code) (good : s.CrcGood)
    (h : firstOf again = some e) : s.withPayload code checks length again commit = s.finish e := by
  have crc : crc16 s.csq.body = s.csq.trailer := good
  rw [State.withPayload_again r]
  exact State.act_refuses (by simp [Csq.crcCheck, crc, h])

theorem State.withPayload_again_commits {length : Nat} (r : s.ReadyAgain code) (good : s.CrcGood)
    (b : s.hpu.breakPending = false) (h : firstOf again = none) :
    s.withPayload code checks length again commit = commit s := by
  have crc : crc16 s.csq.body = s.csq.trailer := good
  rw [State.withPayload_again r]
  exact State.act_commits (by simp [Csq.crcCheck, crc, h]) b

/-! ### The record of an ending -/

theorem State.Ready.endsWith (r : s.Ready code) (notSense : code ≠ 0x12) (e : Ending) :
    s.SameEngine (s.finish e) ∧ s.EndsWith (s.finish e) e :=
  ⟨s.finish_sameEngine e, State.finish_endsWith (by rw [r.2.2.2]; simpa using notSense) e⟩

theorem State.ReadyAgain.endsWith (r : s.ReadyAgain code) (notSense : code ≠ 0x12) (e : Ending) :
    s.SameEngine (s.finish e) ∧ s.EndsWith (s.finish e) e :=
  ⟨s.finish_sameEngine e, State.finish_endsWith (by rw [r.2.2.2]; simpa using notSense) e⟩

/-! ### The CRC-16 -/

theorem crc16_append (l m : List Byte) : crc16 (l ++ m) = m.foldl crcByte (crc16 l) := List.foldl_append ..

/-- R27: a bit that the register's top bit equals only shifts it. -/
theorem crcBit_shift (c : Half) {k i : Nat} (h : k + i = 15) : crcBit (c <<< k) (c.getLsbD i) = c <<< (k + 1) := by
  have top : (c <<< k).msb = c.getLsbD i := by
    rw [BitVec.msb_shiftLeft, BitVec.getMsbD]
    simp [show k < 16 by omega, show 15 - k = i by omega]
  rw [crcBit, top, bne_self_eq_false, if_neg (by simp), BitVec.shiftLeft_add]

/-- R27: so a byte of the register's own bits only shifts it. -/
theorem crcByte_shift (c : Half) {k : Nat} (h : k ≤ 8) {b : Byte}
    (own : ∀ i < 8, b.getLsbD i = c.getLsbD (i + (8 - k))) : crcByte (c <<< k) b = c <<< (k + 8) := by
  have step (m i : Nat) (hi : i < 8) (at_ : m + i = k + 7) : crcBit (c <<< m) (b.getLsbD i) = c <<< (m + 1) := by
    rw [own i hi]
    exact crcBit_shift c (by omega)
  simp only [crcByte, List.foldl_cons, List.foldl_nil]
  rw [step _ 7, step _ 6, step _ 5, step _ 4, step _ 3, step _ 2, step _ 1, step _ 0] <;> omega

/-- R27: bytes followed by their own CRC, high byte first, leave 0 in the register. -/
theorem crc16_own (l : List Byte) : crc16 (l ++ [(crc16 l >>> 8).setWidth 8, (crc16 l).setWidth 8]) = 0 := by
  rw [crc16_append]
  generalize crc16 l = c
  have high : crcByte c ((c >>> 8).setWidth 8) = c <<< 8 := by
    rw [← crcByte_shift c (k := 0) (by omega), BitVec.shiftLeft_zero]
    intro i hi
    simp [hi, Nat.add_comm]
  have low : crcByte (c <<< 8) (c.setWidth 8) = c <<< 16 := crcByte_shift c (by omega) fun i hi => by simp [hi]
  rw [List.foldl_cons, List.foldl_cons, List.foldl_nil, high, low, BitVec.shiftLeft_eq_zero (by omega)]
  rfl

/-- R27: one more byte, bit by bit from the most significant. -/
theorem crc16_byte (l : List Byte) (b : Byte) : crc16 (l ++ [b]) =
    [7, 6, 5, 4, 3, 2, 1, 0].foldl (fun (c : Half) i =>
      if c.msb = b.getLsbD i then c <<< 1 else (c <<< 1) ^^^ 0x1021) (crc16 l) := by
  have bit (c : Half) (b : Bool) : crcBit c b = if c.msb = b then c <<< 1 else (c <<< 1) ^^^ 0x1021 := by
    rw [crcBit]
    by_cases same : c.msb = b <;> simp [same]
  simp only [crc16_append, List.foldl_cons, List.foldl_nil, crcByte, bit]

/-! ### Rows of commands with a payload -/

theorem exec_setMediaParameters (h : s.InService) :
    exec .setMediaParameters s = .next (s.withPayload 0x21 s.busyChecks 18 s.mediaChecks
      (State.completeAfter fun s => (s.useProfile (Profile.ofBytes s.csq.body), .ok))) :=
  congrArg Host.Outcome.next (State.served_inService h _)

theorem exec_setMechanismParameters (h : s.InService) (strap : Bool) (decay : List Decay) :
    exec (.setMechanismParameters strap decay) s = .next (s.setMechanism strap decay) :=
  congrArg Host.Outcome.next (State.served_inService h _)

theorem exec_defineGlyph (h : s.InService) :
    exec .defineGlyph s = .next (s.withPayload 0x31 (s.defineChecks s.csq.block) (glyphBytes s.csq.block + 2)
      (s.defineChecks s.csq.block ++ s.roomChecks (glyphBytes s.csq.block)) (State.completeAfter State.commitDefine)) :=
  congrArg Host.Outcome.next (State.served_inService h _)

theorem exec_placeText (h : s.InService) :
    exec .placeText s = .next (s.withPayload 0x43 s.placementChecks (num8 s.csq.block 9 + 2)
      (idFields s.csq.body ++ s.placementChecks ++ s.definedCheck (textPlacement s.csq.block s.csq.body).uses ++
        s.placementResources (textPlacement s.csq.block s.csq.body))
      (State.completeAfter fun t => t.commitPlacement (textPlacement s.csq.block s.csq.body))) :=
  congrArg Host.Outcome.next (State.served_inService h _)

theorem exec_placeImage (h : s.InService) :
    exec .placeImage s = .next (s.withPayload 0x45 s.placementChecks
      (bitmapBytes (num16 s.csq.block 6) (num16 s.csq.block 8) + 2)
      (s.placementChecks ++ s.placementResources (imagePlacement s.csq.block s.csq.body))
      (State.completeAfter fun t => t.commitPlacement (imagePlacement s.csq.block s.csq.body))) :=
  congrArg Host.Outcome.next (State.served_inService h _)

/-- R2, R158: the machine with the strap sampled and the store's bytes as they have become. -/
theorem State.sampled_eq (s : State) (strap : Bool) (decay : List Decay) :
    (s.sampleStrap strap).readStore decay = { s with strap := strap, nvs := s.nvs.decayed decay } := rfl

/-- R157: a SET MECHANISM PARAMETERS that is due acts with the strap and the store as they are now. -/
theorem State.setMechanism_due (h : s.Ready 0x23 ∨ s.ReadyAgain 0x23) (strap : Bool) (decay : List Decay) {u : State}
    (hu : u = { s with strap := strap, nvs := s.nvs.decayed decay }) :
    s.setMechanism strap decay =
      u.withPayload 0x23 (u.busyChecks ++ [u.strapCheck 0]) 12 u.mechanismPayloadChecks State.commitMechanism := by
  have due : (s.inHand 0x23 .validate || s.inHand 0x23 .finish) = true := by
    rw [Bool.or_eq_true]
    exact h.imp State.inHand_validate State.inHand_finish
  rw [State.setMechanism, if_pos due, State.sampled_eq, hu]

/-- R28: of the five commands with a payload, the row, the code, and the machine whose payload is checked. -/
theorem exec_payloadCheckError {u : State} {row : Instr} {strap : Bool} {decay : List Decay}
    (rows : (row, code, u) ∈ [(Instr.setMediaParameters, (0x21 : Byte), s),
      (.setMechanismParameters strap decay, 0x23, { s with strap := strap, nvs := s.nvs.decayed decay }),
      (.defineGlyph, 0x31, s), (.placeText, 0x43, s), (.placeImage, 0x45, s)])
    (r : s.ReadyAgain code) (bad : crc16 s.csq.body ≠ s.csq.trailer) :
    exec row s = .next (u.finish (.error .payloadCheckError none (.detail (s.csq.trailer ++ crc16 s.csq.body)))) ∧
      u.hpu = s.hpu ∧ u.csq = s.csq ∧ code ≠ 0x12 := by
  simp only [List.mem_cons, List.not_mem_nil, or_false, Prod.mk.injEq] at rows
  rcases rows with ⟨rfl, rfl, rfl⟩ | ⟨rfl, rfl, hu⟩ | ⟨rfl, rfl, rfl⟩ | ⟨rfl, rfl, rfl⟩ | ⟨rfl, rfl, rfl⟩
  · rw [exec_setMediaParameters r.1, State.withPayload_crc r bad]
    exact ⟨rfl, rfl, rfl, by decide⟩
  · have again : u.ReadyAgain 0x23 := by rw [hu]; exact r
    have badAgain : crc16 u.csq.body ≠ u.csq.trailer := by rw [hu]; exact bad
    rw [exec_setMechanismParameters r.1, State.setMechanism_due (.inr r) strap decay hu,
      State.withPayload_crc again badAgain, hu]
    exact ⟨rfl, rfl, rfl, by decide⟩
  · rw [exec_defineGlyph r.1, State.withPayload_crc r bad]
    exact ⟨rfl, rfl, rfl, by decide⟩
  · rw [exec_placeText r.1, State.withPayload_crc r bad]
    exact ⟨rfl, rfl, rfl, by decide⟩
  · rw [exec_placeImage r.1, State.withPayload_crc r bad]
    exact ⟨rfl, rfl, rfl, by decide⟩

/-- Settles O19. -/
theorem trailersAreTheCrcOfThePayload : Obligations.TrailersAreTheCrcOfThePayload := by
  refine ⟨⟨rfl, crc16_byte, crc16_own⟩, ?_⟩
  intro s strap decay row code u rows member r bad
  obtain ⟨ran, hpu, csq, notSense⟩ := exec_payloadCheckError member r bad
  refine ⟨_, ran, u.finish_sameEngine _, State.EndsWith.of_same hpu csq (State.finish_endsWith ?_ _)⟩
  rw [csq, r.2.2.2]
  simpa using notSense

/-! ### The write of a record copy -/

/-- R160: how one attempt ends, with `u` the machine whose target copy holds what the store returned. -/
theorem State.attemptEnds_writing {w : RecordWrite} (stage : s.csq.stage = .writing w) (differs : List Byte) {u : State}
    (hu : u = { s with nvs := s.nvs.writeCopy w (readBack w.bytes differs) }) :
    s.attemptEnds differs =
      if readBack w.bytes differs = w.bytes then u.finish (s.writeEnding w)
      else if s.hpu.breakPending then u.abort
      else if 3 ≤ s.csq.attempts then u.finish (refusalDetail .nvmWriteFailed w.record)
      else { u with csq := { u.csq with attempts := u.csq.attempts + 1 } } := by
  rw [hu]
  simp only [State.attemptEnds, stage]

/-- Settles O23: the read-back matches, a Break is pending, the attempts are used up, or another follows. -/
theorem recordWriteTriesThreeTimes : Obligations.RecordWriteTriesThreeTimes := by
  intro s w differs service stage notSense back r n
  have ran : exec (.recordCopyWrite differs) s = .next (s.attemptEnds differs) :=
    congrArg Host.Outcome.next (State.served_inService service _)
  have written : s.nvs.writeCopy w (readBack w.bytes differs) = n := by
    simp only [Nvs.writeCopy, Nvs.setRecord, StoredRecord.setCopy, n, r]
    cases w.copyB <;> rfl
  obtain ⟨u, hu⟩ : ∃ u : State, u = { s with nvs := n } := ⟨_, rfl⟩
  have hpu : u.hpu = s.hpu := by rw [hu]
  have csq : u.csq = s.csq := by rw [hu]
  have ends (e : Ending) : ({ s with nvs := n } : State).SameEngine (u.finish e) ∧ s.EndsWith (u.finish e) e :=
    ⟨hu ▸ u.finish_sameEngine e, State.EndsWith.of_same hpu csq (State.finish_endsWith (by rwa [csq]) e)⟩
  refine ⟨_, ran, ?_⟩
  rw [State.attemptEnds_writing (u := u) stage differs (by rw [written, hu])]
  by_cases same : back = w.bytes
  · rw [if_pos same, if_pos (show readBack w.bytes differs = w.bytes from same)]
    exact ends (s.writeEnding w)
  rw [if_neg same, if_neg (show ¬ readBack w.bytes differs = w.bytes from same)]
  by_cases pending : s.hpu.breakPending
  · rw [if_pos pending, if_pos pending]
    exact ends (refusal .aborted)
  rw [if_neg pending, if_neg pending]
  by_cases third : 3 ≤ s.csq.attempts
  · rw [if_pos third, if_pos third]
    exact ends (refusalDetail .nvmWriteFailed w.record)
  · rw [if_neg third, if_neg third, hu]
    exact ⟨by simp [State.SameEngine], rfl, rfl⟩

end Sys2Proof.Machine
end

section
/-! The commands that report (R41, R57, R138, R156, R159) and the first acts of the commands with a payload (R26, R50,
R65 to R70, R155, R157). -/

namespace Sys2Proof.Machine

variable {s : State} {code : Byte}

/-! ### Reports -/

/-- Table 1-2: four flags, bit by bit. -/
theorem byteOfBits_four : ∀ b0 b1 b2 b3 : Bool,
    let flag (b : Bool) (i : Nat) : Byte := if b then BitVec.ofNat 8 (2 ^ i) else 0
    byteOfBits [b0, b1, b2, b3] = flag b0 0 ||| flag b1 1 ||| flag b2 2 ||| flag b3 3 := by decide

theorem State.requestSense_commits (r : s.Ready 0x12) (b : s.hpu.breakPending = false) :
    exec .requestSense s = .next (s.enterDataIn s.csq.sense.bytes) := by
  refine congrArg Host.Outcome.next ((State.served_inService r.1 _).trans ?_)
  exact State.plain_commits r (.inr (by decide)) (s.ranges_report (by rw [r.code]; decide)) b _

/-- Settles O15: the ten bytes of Table 2-6, by what the record's last field is. -/
theorem requestSenseReturnsTheRecord : Obligations.RequestSenseReturnsTheRecord := by
  intro s r b
  refine ⟨_, State.requestSense_commits r b, (s.enterDataIn_handsOver _).1, ?_⟩
  intro record flag isPosition isGlyph isDetail last
  have bytes : s.csq.sense.bytes = [record.code.byte, record.code.byte / 16,
      flag record.label.isSome 0 ||| flag isPosition 1 ||| flag isGlyph 2 ||| flag isDetail 3, record.failing,
      (record.label.getD 0).setWidth 8, (record.label.getD 0 >>> 8).setWidth 8,
      last.setWidth 8, (last >>> 8).setWidth 8, (last >>> 16).setWidth 8, (last >>> 24).setWidth 8] := by
    simp only [Sense.bytes, byteOfBits_four, lowHigh, fourBytes, isPosition, isGlyph, isDetail, last, record]
    cases s.csq.sense.info <;> rfl
  rw [← bytes]
  exact (s.enterDataIn_handsOver _).2

/-- R23, R29: a command that reads hands over its bytes. -/
theorem State.reads {row : Instr} {bytes : State → List Byte} (r : s.Ready code)
    (g : s.eng.cond ≠ .faulted ∨ code ∈ faultGateCodes) (b : s.hpu.breakPending = false)
    (ranges : firstOf (s.ranges s.csq.block) = none)
    (runs : exec row s = .next (s.served fun t => t.plain code [] fun t => t.enterDataIn (bytes t))) :
    exec row s = .next (s.enterDataIn (bytes s)) ∧ s.SameEngine (s.enterDataIn (bytes s)) ∧
      s.HandsOver (s.enterDataIn (bytes s)) (bytes s) := by
  refine ⟨?_, s.enterDataIn_handsOver _⟩
  rw [runs, State.served_inService r.1,
    State.plain_acts r g b (by rwa [List.append_nil]) (commit := fun t => t.enterDataIn (bytes t))]

theorem State.glyphIdRange_passes (r : byteAt s.csq.block 0 = 0x34) (h : num8 s.csq.block 2 ≤ 63) :
    firstOf (s.ranges s.csq.block) = none := by
  simp [State.ranges, r, glyphIdRange, h]

/-- Settles O17. -/
theorem readingCommandsHandOverTheirBytes : Obligations.ReadingCommandsHandOverTheirBytes := by
  refine ⟨fun s r c => ?_, fun s r c => ?_, fun s r c id => ?_, fun s decay r b => ?_, fun s r c id => ?_⟩
  · obtain ⟨runs, same, hands⟩ := State.reads (row := .sensorRead) r (.inl c.1) c.2
      (by rw [s.ranges_report (by rw [r.code]; decide), firstOf_nil]) rfl
    refine ⟨_, runs, same, ?_⟩
    have bytes : s.sensorBytes = [s.msu.raw, match s.msu.cls with | .media => 0 | .marker => 1 | .empty => 2,
        if s.eng.headOpen then 1 else 0, BitVec.ofInt 8 s.hdu.temp] := by
      rw [State.sensorBytes]
      cases s.msu.cls <;> cases s.eng.headOpen <;> rfl
    exact (congrArg (s.HandsOver _) bytes).mp hands
  · obtain ⟨runs, same, hands⟩ := State.reads (row := .readMediaParameters) r (.inl c.1) c.2
      (by simp [State.ranges, r.code]) rfl
    exact ⟨_, runs, same, hands⟩
  · obtain ⟨runs, same, hands⟩ := State.reads (row := .readGlyphEntry)
      (bytes := fun t => t.entryBytes (glyphId t.csq.block)) r (.inl c.1) c.2
      (State.glyphIdRange_passes r.code id) rfl
    refine ⟨_, runs, same, ?_⟩
    intro id e
    have bytes : s.entryBytes id = [BitVec.ofNat 8 id, match e.state with | .empty => 0 | .defined => 1 | .doomed => 2,
        BitVec.ofNat 8 e.width, BitVec.ofNat 8 e.height, BitVec.ofNat 8 e.base, BitVec.ofNat 8 (e.base / 256),
        BitVec.ofNat 8 e.count, BitVec.ofNat 8 (e.count / 256)] := by
      have word (n : Nat) : lowHigh (BitVec.ofNat 16 n) = [BitVec.ofNat 8 n, BitVec.ofNat 8 (n / 256)] := twoBytes_eq n
      simp only [State.entryBytes, word, e]
      cases (s.gst.entry id).state <;> rfl
    exact (congrArg (s.HandsOver _) bytes).mp hands
  · have due : s.inHand 0x26 .validate = true := State.inHand_validate r
    have read : (s.readStore decay).Ready 0x26 := r
    have commits : (s.readStore decay).plain 0x26 [] (fun t => t.enterDataIn ((List.range 5).map t.nvs.verdict)) =
        (s.readStore decay).enterDataIn ((List.range 5).map (s.nvs.decayed decay).verdict) :=
      State.plain_acts read (.inr (by decide)) b (by simp [State.ranges, r.code])
    refine ⟨_, congrArg Host.Outcome.next ((State.served_inService r.1 _).trans
      ((if_pos due).trans commits)), State.enterDataIn_handsOver _ _⟩
  · have refused : s.plain 0x34 [] (fun t => t.enterDataIn (t.entryBytes (glyphId t.csq.block))) =
        s.finish (badParameter 2) :=
      State.plain_refuses r (.inl c.1) (by simp [State.ranges, r.code, glyphIdRange, id])
    exact ⟨_, congrArg Host.Outcome.next ((State.served_inService r.1 _).trans refused),
      r.endsWith (by decide) (badParameter 2)⟩

/-! ### ENGINE BUSY (R155) -/

theorem State.busyChecks_leisure (h : s.AtLeisure) : firstOf s.busyChecks = none := by
  obtain ⟨cond, motion, queue, openSlot⟩ := h
  simp [State.busyChecks, cond, motion, queue, openSlot]

theorem State.busyChecks_busy (h : ¬ s.AtLeisure) : firstOf s.busyChecks = some (refusal .engineBusy) := by
  cases busy : firstOf s.busyChecks with
  | none => exact absurd (State.busyChecks_pass busy) h
  | some e =>
    simp only [State.busyChecks, firstOf_cons, firstOf_nil] at busy
    split_ifs at busy <;> exact busy.symm

/-! ### The payload is asked for, or the command is refused -/

/-- R26: a command with a payload whose ranges and preconditions are met asks for it. -/
theorem State.asks {row : Instr} {checks again : List (Bool × Ending)} {length : Nat} {commit : State → State}
    (r : s.Ready code) (c : s.Clear) (runs : exec row s = .next (s.withPayload code checks length again commit))
    (passes : firstOf (s.ranges s.csq.block ++ checks) = none) :
    ∃ t, exec row s = .next t ∧ s.SameEngine t ∧ s.AsksFor t length :=
  ⟨_, by rw [runs, State.withPayload_asks r c passes], s.enterDataOut_asks length⟩

theorem State.refusesFirst {row : Instr} {checks again : List (Bool × Ending)} {length : Nat}
    {commit : State → State} {e : Ending} (r : s.Ready code) (c : s.Clear) (notSense : code ≠ 0x12)
    (runs : exec row s = .next (s.withPayload code checks length again commit))
    (fails : firstOf (s.ranges s.csq.block ++ checks) = some e) :
    ∃ t, exec row s = .next t ∧ s.SameEngine t ∧ s.EndsWith t e :=
  ⟨_, by rw [runs, State.withPayload_refuses r c.1 fails], r.endsWith notSense e⟩

/-- R65 items 1 and 2: a label is open, and its list has room. -/
theorem State.placementChecks_pass {slot : Nat} {l : Label} (opened : s.lbq.openSlot = some slot)
    (label : s.lbq.label slot = some l) (room : l.placements.length < 255) : firstOf s.placementChecks = none := by
  simp [State.placementChecks, Lbq.openLabel, opened, label, Config.maxPlacements, room]

/-- R50, R52: the ranges and the precondition of a DEFINE GLYPH, in order. -/
theorem State.defineGlyph_first (r : byteAt s.csq.block 0 = 0x31) :
    let b := s.csq.block
    let e := s.gst.entry (glyphId b)
    firstOf (s.ranges b ++ s.defineChecks b) =
      if 63 < num8 b 2 then some (badParameter 2)
      else if num8 b 3 = 0 then some (badParameter 3)
      else if num8 b 4 = 0 then some (badParameter 4)
      else if e.state = .doomed ∨ (e.state = .defined ∧ 0 < e.count) then some (refusalGlyph .glyphInUse (glyphId b))
      else none := by
  simp [State.ranges, r, defineGlyphRanges, State.defineChecks]

theorem Lbq.openLabel_any {q : Lbq} {p required : Label → Bool} (h : ∀ l, p l = !required l) :
    q.openLabel.any p = !q.openLabel.all required := by
  cases q.openLabel <;> simp [h]

/-- R65: the origin, as what must hold. -/
theorem State.originRanges_required (s : State) (b : List Byte) (ix : Nat) :
    s.originRanges b ix = ([(decide (num16 b ix ≤ 831), s.outsideLabel ix),
      (s.lbq.openLabel.all fun l => decide (num16 b (ix + 2) < l.length), s.outsideLabel (ix + 2))] :
        List (Bool × Ending)).map fun c => (!c.1, c.2) := by
  simp only [State.originRanges, List.map_cons, List.map_nil]
  rw [decide_lt_eq, Lbq.openLabel_any (required := fun l => decide (num16 b (ix + 2) < l.length))
    fun l => by rw [← decide_not, decide_eq_decide, not_lt]]

/-- R65 items 1 and 2, as what must hold. -/
theorem State.placementChecks_required (s : State) :
    s.placementChecks = ([(s.lbq.openSlot.isSome, .error .noOpenLabel none .nothing),
      (s.lbq.openLabel.all fun l => decide (l.placements.length < 255), badParameter 0)] :
        List (Bool × Ending)).map fun c => (!c.1, c.2) := by
  have none_eq : s.lbq.openSlot.isNone = !s.lbq.openSlot.isSome := by cases s.lbq.openSlot <;> rfl
  simp only [State.placementChecks, List.map_cons, List.map_nil, Config.maxPlacements, none_eq]
  rw [Lbq.openLabel_any (required := fun l => decide (l.placements.length < 255))
    fun l => by rw [← decide_not, decide_eq_decide, not_lt]]
  rfl

/-- The list of checks of R65 that a placement with a payload makes in its first act, each as what must hold. -/
theorem State.placement_required (image : Bool) (r : byteAt s.csq.block 0 = if image then 0x45 else 0x43) :
    let b := s.csq.block
    let bad (i : Nat) : Ending := .error .invalidParameter none (.detail (BitVec.ofNat 32 i))
    let outside (i : Nat) : Ending :=
      .error .placementOutsideLabel (s.lbq.openLabel.map (·.number)) (.detail (BitVec.ofNat 32 i))
    let origin : List (Bool × Ending) := [(decide (num16 b 2 ≤ 831), outside 2),
      (s.lbq.openLabel.all fun l => decide (num16 b 4 < l.length), outside 4)]
    let text : List (Bool × Ending) := [(decide (num8 b 6 ≤ 15), bad 6),
      (decide (-8 ≤ int8 b 8 ∧ int8 b 8 ≤ 31), bad 8), (decide (1 ≤ num8 b 9 ∧ num8 b 9 ≤ 64), bad 9)]
    let area : List (Bool × Ending) := [(decide (1 ≤ num16 b 6 ∧ num16 b 6 ≤ 832), bad 6),
      (decide (1 ≤ num16 b 8 ∧ num16 b 8 ≤ 4096), bad 8), (decide (num8 b 10 ≤ 15), bad 10)]
    let label : List (Bool × Ending) := [(s.lbq.openSlot.isSome, .error .noOpenLabel none .nothing),
      (s.lbq.openLabel.all fun l => decide (l.placements.length < 255), bad 0)]
    s.ranges b ++ s.placementChecks = (origin ++ (if image then area else text) ++ label).map fun c => (!c.1, c.2) := by
  intro b bad out origin text area label
  have signed : decide (int8 b 8 < -8 ∨ 31 < int8 b 8) = !decide (-8 ≤ int8 b 8 ∧ int8 b 8 ≤ 31) := by
    rw [← decide_not, decide_eq_decide]
    omega
  have first : s.originRanges b 2 = origin.map fun c => (!c.1, c.2) := s.originRanges_required b 2
  have last : s.placementChecks = label.map fun c => (!c.1, c.2) := s.placementChecks_required
  cases image with
  | true =>
    have ranges : s.ranges b = s.placeAreaRanges b := by simp [State.ranges, b, r]
    rw [ranges, State.placeAreaRanges, first, last, if_pos rfl]
    simp only [List.map_append, area, List.map_cons, List.map_nil, outside_eq, decide_lt_eq]
    rfl
  | false =>
    have ranges : s.ranges b = s.placeTextRanges b := by simp [State.ranges, b, r]
    rw [ranges, State.placeTextRanges, first, last, if_neg (by decide)]
    simp only [List.map_append, text, List.map_cons, List.map_nil, outside_eq, decide_lt_eq, signed]
    rfl

theorem State.placeText_passes {slot : Nat} {l : Label} (r : s.Ready 0x43) (opened : s.lbq.openSlot = some slot)
    (label : s.lbq.label slot = some l) (room : l.placements.length < 255) (x : num16 s.csq.block 2 ≤ 831)
    (y : num16 s.csq.block 4 < l.length) (combine : num8 s.csq.block 6 ≤ 15) (low : -8 ≤ int8 s.csq.block 8)
    (high : int8 s.csq.block 8 ≤ 31) (least : 1 ≤ num8 s.csq.block 9) (most : num8 s.csq.block 9 ≤ 64) :
    firstOf (s.ranges s.csq.block ++ s.placementChecks) = none := by
  rw [State.placement_required false r.code, firstOf_eq_none]
  simp [Lbq.openLabel, opened, label, room, x, y, combine, low, high, least, most]

theorem State.placeImage_passes {slot : Nat} {l : Label} (r : s.Ready 0x45) (opened : s.lbq.openSlot = some slot)
    (label : s.lbq.label slot = some l) (room : l.placements.length < 255) (x : num16 s.csq.block 2 ≤ 831)
    (y : num16 s.csq.block 4 < l.length) (wide : 1 ≤ num16 s.csq.block 6) (width : num16 s.csq.block 6 ≤ 832)
    (high : 1 ≤ num16 s.csq.block 8) (height : num16 s.csq.block 8 ≤ 4096) (combine : num8 s.csq.block 10 ≤ 15) :
    firstOf (s.ranges s.csq.block ++ s.placementChecks) = none := by
  rw [State.placement_required true r.code, firstOf_eq_none]
  simp [Lbq.openLabel, opened, label, room, x, y, wide, width, high, height, combine]

/-- R157: the first act of SET MECHANISM PARAMETERS that is refused, on the machine `u` with the strap and the store as
they are now. -/
theorem State.setMechanism_refuses {e : Ending} (r : s.Ready 0x23) (c : s.Clear) (strap : Bool) (decay : List Decay)
    {u : State} (hu : u = { s with strap := strap, nvs := s.nvs.decayed decay })
    (fails : firstOf (u.busyChecks ++ [u.strapCheck 0]) = some e) :
    ∃ t, exec (.setMechanismParameters strap decay) s = .next t ∧ u.SameEngine t ∧ s.EndsWith t e := by
  have ready : u.Ready 0x23 := hu ▸ r
  have clear : u.eng.cond ≠ .faulted := hu ▸ c.1
  have hpu : u.hpu = s.hpu := by rw [hu]
  have csq : u.csq = s.csq := by rw [hu]
  refine ⟨u.finish e, ?_, u.finish_sameEngine e, State.EndsWith.of_same hpu csq (ready.endsWith (by decide) e).2⟩
  rw [exec_setMechanismParameters r.1, State.setMechanism_due (.inl r) strap decay hu,
    State.withPayload_refuses ready clear]
  simpa [State.ranges, ready.code] using fails

theorem State.setMechanism_asks (r : s.Ready 0x23) (c : s.Clear) (leisure : s.AtLeisure) (decay : List Decay)
    {u : State} (hu : u = { s with strap := false, nvs := s.nvs.decayed decay }) :
    ∃ t, exec (.setMechanismParameters false decay) s = .next t ∧ s.AsksFor t 12 ∧ u.SameEngine t := by
  have ready : u.Ready 0x23 := hu ▸ r
  have clear : u.Clear := hu ▸ c
  have idle : u.AtLeisure := hu ▸ leisure
  have strap : u.strap = false := by rw [hu]
  refine ⟨u.enterDataOut 12, ?_, by rw [hu]; exact ⟨rfl, rfl⟩, (u.enterDataOut_asks 12).1⟩
  rw [exec_setMechanismParameters r.1, State.setMechanism_due (.inl r) false decay hu,
    State.withPayload_asks ready clear]
  rw [firstOf_append, firstOf_append, State.busyChecks_leisure idle]
  simp [State.ranges, ready.code, State.strapCheck, strap]

/-- Settles O18: each command of the five asks for its payload, or its first check that fails ends it. -/
theorem payloadCommandsAskForTheirBytes : Obligations.PayloadCommandsAskForTheirBytes := by
  have noRanges {s : State} (r : s.Ready 0x21) : s.ranges s.csq.block = [] := by simp [State.ranges, r.code]
  refine ⟨fun s r c leisure => ?_, fun s decay r c leisure => State.setMechanism_asks r c leisure decay rfl,
    fun s r c => ?_, fun s slot l r c opened label room => ?_, fun s slot l r c opened label room => ?_,
    fun s strap decay => ⟨fun r c busy => ?_, fun r c busy => ?_, fun r c leisure fitted => ?_⟩, fun s r c => ?_,
    fun s row code rows r c => ?_⟩
  · exact State.asks r c (exec_setMediaParameters r.1)
      (by rw [noRanges r, List.nil_append, State.busyChecks_leisure leisure])
  · intro b id width height doomed count
    have free : ¬ ((s.gst.entry (num8 b 2)).state = .doomed ∨
        (s.gst.entry (num8 b 2)).state = .defined ∧ 0 < (s.gst.entry (num8 b 2)).count) := by
      rintro (d | ⟨d, used⟩)
      · exact doomed d
      · exact absurd (count d) used.ne'
    exact State.asks r c (exec_defineGlyph r.1) ((State.defineGlyph_first r.code).trans ((if_neg (Nat.not_lt.2 id)).trans
      ((if_neg (Nat.one_le_iff_ne_zero.1 width)).trans ((if_neg (Nat.one_le_iff_ne_zero.1 height)).trans
        (if_neg free)))))
  · intro b x y combine low high least most
    exact State.asks r c (exec_placeText r.1)
      (State.placeText_passes r opened label room x y combine low high least most)
  · intro b x y wide width high height combine
    exact State.asks r c (exec_placeImage r.1)
      (State.placeImage_passes r opened label room x y wide width high height combine)
  · exact State.refusesFirst r c (by decide) (exec_setMediaParameters r.1)
      (by rw [noRanges r, List.nil_append, State.busyChecks_busy busy]; rfl)
  · exact State.setMechanism_refuses r c strap decay rfl
      (by rw [firstOf_append, State.busyChecks_busy (s := { s with strap := strap, nvs := s.nvs.decayed decay }) busy]; rfl)
  · refine State.setMechanism_refuses r c strap decay rfl ?_
    rw [firstOf_append,
      State.busyChecks_leisure (s := { s with strap := strap, nvs := s.nvs.decayed decay }) leisure]
    simp [State.strapCheck, fitted, refusalDetail]
  · intro b e bad ends
    have first := State.defineGlyph_first r.code
    have refused {f : Ending} (fails : firstOf (s.ranges b ++ s.defineChecks b) = some f) : ends f :=
      State.refusesFirst r c (by decide) (exec_defineGlyph r.1) fails
    refine ⟨fun id => ?_, fun id width => ?_, fun id width height => ?_, fun id width height used => ?_⟩
    · exact refused (first.trans (if_pos id))
    · exact refused (first.trans ((if_neg (Nat.not_lt.2 id)).trans (if_pos width)))
    · exact refused (first.trans ((if_neg (Nat.not_lt.2 id)).trans
        ((if_neg (Nat.one_le_iff_ne_zero.1 width)).trans (if_pos height))))
    · exact refused (first.trans ((if_neg (Nat.not_lt.2 id)).trans ((if_neg (Nat.one_le_iff_ne_zero.1 width)).trans
        ((if_neg (Nat.one_le_iff_ne_zero.1 height)).trans (if_pos used)))))
  · intro b bad out origin text area label before e after split passed
    simp only [List.mem_cons, List.not_mem_nil, or_false, Prod.mk.injEq] at rows
    rcases rows with ⟨rfl, rfl⟩ | ⟨rfl, rfl⟩
    · refine State.refusesFirst r c (by decide) (exec_placeText r.1) ?_
      rw [State.placement_required false r.code]
      exact firstOf_required split passed
    · refine State.refusesFirst r c (by decide) (exec_placeImage r.1) ?_
      rw [State.placement_required true r.code]
      exact firstOf_required split passed

end Sys2Proof.Machine
end

section
/-! The commands that put a record in force or begin its write (R155, R157, R161, R162): their commits, and their
refusals in order. -/

namespace Sys2Proof.Machine

variable {s : State} {code : Byte} {e : Ending}

/-! ### A command at its commit point -/

/-- R29, R31: a command without a payload that completes at its commit point. -/
theorem State.completes {checks : List (Bool × Ending)} {effect : State → State × Ending} (r : s.Ready code)
    (notSense : code ≠ 0x12) (g : s.eng.cond ≠ .faulted ∨ code ∈ faultGateCodes) (b : s.hpu.breakPending = false)
    (passes : firstOf (s.ranges s.csq.block ++ checks) = none) (hpu : (effect s).1.hpu = s.hpu)
    (csq : (effect s).1.csq = s.csq) :
    s.plain code checks (State.completeAfter effect) = s.completeAfter effect ∧
      s.EndsWith (s.completeAfter effect) (effect s).2 ∧ (effect s).1.OnlyFollows (s.completeAfter effect) := by
  obtain ⟨-, -, stage, block⟩ := id r
  exact ⟨State.plain_acts r g b passes, State.completeAfter_ends hpu csq (by rw [stage]; nofun) (by rw [stage]; nofun)
    (by rw [block]; simpa using notSense)⟩

/-- R28, R31: the second act of a command with a payload. -/
theorem State.completesAgain {checks again : List (Bool × Ending)} {length : Nat} {effect : State → State × Ending}
    (r : s.ReadyAgain code) (notSense : code ≠ 0x12) (good : s.CrcGood) (b : s.hpu.breakPending = false)
    (passes : firstOf again = none) (hpu : (effect s).1.hpu = s.hpu) (csq : (effect s).1.csq = s.csq) :
    s.withPayload code checks length again (State.completeAfter effect) = s.completeAfter effect ∧
      s.EndsWith (s.completeAfter effect) (effect s).2 ∧ (effect s).1.OnlyFollows (s.completeAfter effect) := by
  obtain ⟨-, -, stage, block⟩ := id r
  exact ⟨State.withPayload_again_commits r good b passes, State.completeAfter_ends hpu csq (by rw [stage]; nofun)
    (by rw [stage]; nofun) (by rw [block]; simpa using notSense)⟩

/-- R28: the second act that is refused. -/
theorem State.refusesAgain {row : Instr} {checks again : List (Bool × Ending)} {length : Nat} {commit : State → State}
    (r : s.ReadyAgain code) (notSense : code ≠ 0x12) (good : s.CrcGood)
    (runs : exec row s = .next (s.withPayload code checks length again commit)) (fails : firstOf again = some e) :
    ∃ t, exec row s = .next t ∧ s.SameEngine t ∧ s.EndsWith t e :=
  ⟨_, by rw [runs, State.withPayload_again_refuses r good fails], r.endsWith notSense e⟩

/-- R141: an engine at leisure is in no run, and may start none. -/
theorem State.AtLeisure.rests (h : s.AtLeisure) : s.inRun = false ∧ s.mayRun = false := by
  obtain ⟨cond, _, queue, _⟩ := h
  simp [State.inRun, State.mayRun, cond, queue]

/-! ### Fields -/

theorem decide_le_eq {α : Type} [LinearOrder α] (a b : α) : decide (a ≤ b) = !decide (b < a) := by
  rw [← decide_not, decide_eq_decide, not_lt]

/-- R28, R154: the first field or constraint that does not hold is the one refused. -/
theorem firstOf_fields {checks fields before after : List (Bool × Nat)} {offset : Nat} {rest : List (Bool × Ending)}
    (required : checks = fields.map fun c => (!c.1, c.2)) (split : fields = before ++ (false, offset) :: after)
    (passed : ∀ f ∈ before, f.1 = true) :
    firstOf (fieldRefusals checks ++ rest) = some (badParameter (12 + offset)) := by
  have none : firstOf (fieldRefusals (before.map fun c => (!c.1, c.2))) = none := by
    rw [firstOf_fieldRefusals]
    simpa [passes] using passed
  rw [required, split, List.map_append, fieldRefusals, List.map_append, ← fieldRefusals, List.append_assoc,
    firstOf_append, none]
  rfl

/-- With every field in range the checks after them decide. -/
theorem firstOf_fields_passed {checks fields : List (Bool × Nat)} {rest : List (Bool × Ending)}
    (required : checks = fields.map fun c => (!c.1, c.2)) (passed : ∀ f ∈ fields, f.1 = true) :
    firstOf (fieldRefusals checks ++ rest) = firstOf rest := by
  have none : firstOf (fieldRefusals checks) = none := by
    rw [firstOf_fieldRefusals, required]
    simpa [passes] using passed
  rw [firstOf_append, none, Option.none_or]

/-- R154: the checks of a profile's bytes, each as what must hold. -/
theorem profileChecks_required (b : List Byte) :
    profileChecks b =
      ([(decide (num8 b 0 ≤ 2), 0), (decide (1 ≤ num8 b 1 ∧ num8 b 1 ≤ 254), 1),
       (decide (2 ≤ num8 b 2 ∧ num8 b 2 ≤ 255), 2), (decide (16 ≤ num16 b 3 ∧ num16 b 3 ≤ 4096), 3),
       (decide (2 ≤ num16 b 5 ∧ num16 b 5 ≤ 512), 5), (decide (50 ≤ num16 b 7 ∧ num16 b 7 ≤ 1600), 7),
       (decide (1 ≤ num8 b 9 ∧ num8 b 9 ≤ 64), 9), (decide (num8 b 10 ≤ 30), 10),
       (decide (40 ≤ num8 b 11 ∧ num8 b 11 ≤ 70), 11), (decide (2 ≤ num8 b 12 ∧ num8 b 12 ≤ 64), 12),
       (decide (num8 b 13 ≤ 1), 13), (decide (num8 b 14 ≤ 3), 14), (decide (-64 ≤ int8 b 15 ∧ int8 b 15 ≤ 63), 15),
       (decide (num8 b 1 < num8 b 2), 2), (decide (num16 b 5 < num16 b 3), 5),
       (decide (num8 b 12 ≤ num16 b 5 / 2), 12)] : List (Bool × Nat)).map fun c => (!c.1, c.2) := by
  have signed : decide (int8 b 15 < -64 ∨ 63 < int8 b 15) = !decide (-64 ≤ int8 b 15 ∧ int8 b 15 ≤ 63) := by
    rw [← decide_not, decide_eq_decide]
    omega
  simp only [profileChecks, outside_eq, signed, List.map_cons, List.map_nil, Nat.zero_le, true_and, decide_le_eq,
    Bool.not_not]

theorem mechanismChecks_required (b : List Byte) :
    mechanismChecks b =
      ([(decide (16 ≤ num8 b 0 ∧ num8 b 0 ≤ 255), 0), (decide (num8 b 1 ≤ 255), 1),
       (decide (100 ≤ num16 b 2 ∧ num16 b 2 ≤ 400), 2), (decide (8 ≤ num8 b 4 ∧ num8 b 4 ≤ 255), 4),
       (decide (208 ≤ num16 b 5 ∧ num16 b 5 ≤ 832), 5), (decide (60 ≤ num8 b 7 ∧ num8 b 7 ≤ 90), 7),
       (decide (16 ≤ num8 b 8 ∧ num8 b 8 ≤ 255), 8), (decide (num8 b 9 ≤ 3), 9)] :
        List (Bool × Nat)).map fun c => (!c.1, c.2) := by
  simp only [mechanismChecks, outside_eq, List.map_cons, List.map_nil, Nat.zero_le, true_and]

/-- R154: the outer constraints, each as what must hold. -/
theorem profileAgreement_required (p : Profile) (m : Mechanism) :
    profileAgreement p m =
      ([(decide (p.tolerance ≤ m.sensorOffset / 2), 12), (decide (p.hot + 5 ≤ m.critical), 11)] :
        List (Bool × Nat)).map fun c => (!c.1, c.2) := by
  simp only [profileAgreement, decide_lt_eq, List.map_cons, List.map_nil]

theorem mechanismAgreement_required (p : Profile) (m : Mechanism) :
    mechanismAgreement p m =
      ([(decide (p.tolerance ≤ m.sensorOffset / 2), 0), (decide (p.hot + 5 ≤ m.critical), 7)] :
        List (Bool × Nat)).map fun c => (!c.1, c.2) := by
  simp only [mechanismAgreement, decide_lt_eq, List.map_cons, List.map_nil]

/-! ### SET MEDIA PARAMETERS and LOAD PROFILE -/

theorem State.useProfile_eq (s : State) (p : Profile) : s.useProfile p =
    { s with
      nvs := { s.nvs with profile := p }
      msu := { s.msu with edges := [], lastEdge := none, reg := ⟨.unknown, none, false, 0⟩ } } := rfl

theorem State.AtLeisure.useProfile (h : s.AtLeisure) (p : Profile) : (s.useProfile p).AtLeisure := by
  simpa [State.AtLeisure, State.useProfile_eq] using h

/-- R155: the second act puts the profile in force. -/
theorem State.setMedia_commits (r : s.ReadyAgain 0x21) (c : s.Clear) (good : s.CrcGood) (leisure : s.AtLeisure)
    (wf : recordWellFormed 1 s.csq.body = true) (agrees : Agrees (Profile.ofBytes s.csq.body) s.nvs.mech) :
    ∃ t, exec .setMediaParameters s = .next t ∧ s.EndsWith t .ok ∧
      (s.useProfile (Profile.ofBytes s.csq.body)).OnlyRests t := by
  have passes : firstOf s.mediaChecks = none := by
    rw [State.mediaChecks, firstOf_append, Option.or_eq_none_iff, firstOf_fieldRefusals, passes_append, Bool.and_eq_true,
      passes_profileAgreement]
    exact ⟨⟨wf, agrees⟩, State.busyChecks_leisure leisure⟩
  obtain ⟨runs, ends, -⟩ := State.completesAgain (checks := s.busyChecks) (length := 18)
    (effect := fun s => (s.useProfile (Profile.ofBytes s.csq.body), .ok)) r (by decide) good c.2 passes
    (by simp [State.useProfile_eq]) (by simp [State.useProfile_eq])
  obtain ⟨-, -, stage, -⟩ := id r
  obtain ⟨inRun, mayRun⟩ := (leisure.useProfile (Profile.ofBytes s.csq.body)).rests
  exact ⟨_, by rw [exec_setMediaParameters r.1, runs], ends, State.completeAfter_rests
    (effect := fun s => (s.useProfile (Profile.ofBytes s.csq.body), .ok)) (by simp [State.useProfile_eq])
    (by rw [stage]; nofun) (by rw [stage]; nofun) inRun mayRun⟩

theorem slotRange_passes {b : List Byte} (h : num8 b 2 ≤ 3) : firstOf (slotRange b) = none := by
  simp [slotRange, h]

/-- R162: a LOAD PROFILE that is due acts with the store's bytes as they are now. -/
theorem exec_loadProfile (r : s.Ready 0x25) (decay : List Decay) {u : State}
    (hu : u = { s with nvs := s.nvs.decayed decay }) :
    exec (.loadProfile decay) s = .next (u.plain 0x25 (u.busyChecks ++ u.loadChecks (num8 s.csq.block 2 + 1))
      (State.completeAfter fun t => (t.loadProfile (num8 s.csq.block 2 + 1), .ok))) := by
  rw [hu]
  exact congrArg Host.Outcome.next ((State.served_inService r.1 _).trans (if_pos (State.inHand_validate r)))

theorem State.loadProfile_refuses (r : s.Ready 0x25) (c : s.Clear) (decay : List Decay) {u : State}
    (hu : u = { s with nvs := s.nvs.decayed decay })
    (fails : firstOf (slotRange s.csq.block ++ (u.busyChecks ++ u.loadChecks (num8 s.csq.block 2 + 1))) = some e) :
    ∃ t, exec (.loadProfile decay) s = .next t ∧ u.SameEngine t ∧ s.EndsWith t e := by
  have ready : u.Ready 0x25 := hu ▸ r
  have clear : u.eng.cond ≠ .faulted := hu ▸ c.1
  have hpu : u.hpu = s.hpu := by rw [hu]
  have csq : u.csq = s.csq := by rw [hu]
  refine ⟨u.finish e, ?_, u.finish_sameEngine e, State.EndsWith.of_same hpu csq (ready.endsWith (by decide) e).2⟩
  rw [exec_loadProfile r decay hu, State.plain_refuses ready (.inl clear)]
  have ranges : u.ranges u.csq.block = slotRange s.csq.block := by rw [csq]; simp [State.ranges, r.code]
  rwa [ranges]

theorem State.loadProfile_commits (r : s.Ready 0x25) (c : s.Clear) (leisure : s.AtLeisure)
    (slot : num8 s.csq.block 2 ≤ 3) (decay : List Decay) {u : State} (hu : u = { s with nvs := s.nvs.decayed decay })
    {b : List Byte} (load : u.nvs.load (num8 s.csq.block 2 + 1) = some b)
    (agrees : Agrees (Profile.ofBytes (copyRecord (num8 s.csq.block 2 + 1) b)) u.nvs.mech) :
    ∃ t, exec (.loadProfile decay) s = .next t ∧ s.EndsWith t .ok ∧
      (u.useProfile (Profile.ofBytes (copyRecord (num8 s.csq.block 2 + 1) b))).OnlyRests t := by
  have ready : u.Ready 0x25 := hu ▸ r
  have clear : u.Clear := hu ▸ c
  have idle : u.AtLeisure := hu ▸ leisure
  have hpu : u.hpu = s.hpu := by rw [hu]
  have csq : u.csq = s.csq := by rw [hu]
  have loaded : u.loadProfile (num8 s.csq.block 2 + 1) =
      u.useProfile (Profile.ofBytes (copyRecord (num8 s.csq.block 2 + 1) b)) := by
    simp only [State.loadProfile, load]
  have passes : firstOf (u.ranges u.csq.block ++ (u.busyChecks ++ u.loadChecks (num8 s.csq.block 2 + 1))) = none := by
    have ranges : firstOf (u.ranges u.csq.block) = none := by
      rw [csq]
      simp [State.ranges, r.code, slotRange, slot]
    rw [firstOf_append, ranges, Option.none_or, firstOf_append, State.busyChecks_leisure idle, Option.none_or]
    simp only [State.loadChecks, load]
    exact firstOf_fieldRefusals.2 ((passes_profileAgreement _ _).2 agrees)
  obtain ⟨runs, ends, -⟩ := State.completes
    (effect := fun t => (t.loadProfile (num8 s.csq.block 2 + 1), .ok)) ready (by decide) (.inl clear.1) clear.2 passes
    (by simp [loaded, State.useProfile_eq]) (by simp [loaded, State.useProfile_eq])
  obtain ⟨-, -, stage, -⟩ := id ready
  obtain ⟨inRun, mayRun⟩ := 
    (idle.useProfile (Profile.ofBytes (copyRecord (num8 s.csq.block 2 + 1) b))).rests
  refine ⟨_, by rw [exec_loadProfile r decay hu, runs], State.EndsWith.of_same hpu csq ends, ?_⟩
  rw [← loaded] at inRun mayRun ⊢
  exact State.completeAfter_rests (effect := fun t => (t.loadProfile (num8 s.csq.block 2 + 1), .ok))
    (by simp [loaded, State.useProfile_eq]) (by rw [stage]; nofun) (by rw [stage]; nofun) inRun mayRun

/-- Settles O20. -/
theorem profilesAreReplacedWhole : Obligations.ProfilesAreReplacedWhole := by
  have checked {s : State} {decay : List Decay} {checks : List (Bool × Ending)} (leisure : s.AtLeisure)
      (slot : num8 s.csq.block 2 ≤ 3) : firstOf (slotRange s.csq.block ++
        (({ s with nvs := s.nvs.decayed decay } : State).busyChecks ++ checks)) = firstOf checks := by
    rw [firstOf_append, slotRange_passes slot, Option.none_or, firstOf_append,
      State.busyChecks_leisure (s := { s with nvs := s.nvs.decayed decay }) leisure, Option.none_or]
  have mediaRequired (s : State) := congrArg₂ (· ++ ·) (profileChecks_required s.csq.body)
    (profileAgreement_required (Profile.ofBytes s.csq.body) s.nvs.mech) |>.trans (List.map_append ..).symm
  refine ⟨fun s r c good leisure wf agrees => State.setMedia_commits r c good leisure wf agrees,
    fun s decay r c leisure slot => ⟨fun b load agrees => ?_, fun load => ?_, fun b load => ⟨fun tolerance => ?_,
      fun tolerance hot => ?_⟩⟩,
    fun s decay r c => ⟨fun slot => ?_, fun slot busy => ?_⟩, fun s r c good => ⟨fun before offset after split passed => ?_,
      fun passed busy => ?_⟩⟩
  · exact State.loadProfile_commits r c leisure slot decay rfl load (by simpa using agrees)
  · refine State.loadProfile_refuses r c decay rfl ((checked leisure slot).trans ?_)
    simp only [State.loadChecks, load]
    rfl
  · refine State.loadProfile_refuses r c decay rfl ((checked leisure slot).trans ?_)
    simp only [State.loadChecks, load]
    simp [fieldRefusals, profileAgreement, tolerance, badParameter]
  · refine State.loadProfile_refuses r c decay rfl ((checked leisure slot).trans ?_)
    simp only [State.loadChecks, load]
    simp [fieldRefusals, profileAgreement, hot, badParameter, Nat.not_lt.2 tolerance]
  · exact State.loadProfile_refuses r c decay rfl (by simp [slotRange, slot, badParameter])
  · refine State.loadProfile_refuses r c decay rfl ?_
    rw [firstOf_append, slotRange_passes slot, Option.none_or, firstOf_append,
      State.busyChecks_busy (s := { s with nvs := s.nvs.decayed decay }) busy]
    rfl
  · refine State.refusesAgain r (by decide) good (exec_setMediaParameters r.1) ?_
    exact firstOf_fields (mediaRequired s) split passed
  · refine State.refusesAgain r (by decide) good (exec_setMediaParameters r.1) ?_
    exact (firstOf_fields_passed (mediaRequired s) passed).trans (State.busyChecks_busy busy)

/-! ### SET MECHANISM PARAMETERS and STORE PROFILE -/

theorem State.useMechanism_eq (s : State) (m : Mechanism) : s.useMechanism m =
    { s with
      nvs := { s.nvs with mech := m }
      msu := if m.sensorOffset = s.nvs.mech.sensorOffset then { s.msu with emptyRun := 0 }
        else { s.msu with emptyRun := 0, edges := [], lastEdge := none, reg := ⟨.unknown, none, false, 0⟩ } } := by
  simp only [State.useMechanism]
  split <;> rfl

/-- R157, R160: the record is in force and its write has begun, after which only what follows has come. -/
theorem State.commitMechanism_begins (leisure : s.AtLeisure) :
    let u := s.useMechanism (Mechanism.ofBytes s.csq.body)
    s.commitMechanism.hpu = s.hpu ∧
    s.commitMechanism.csq = { s.csq with stage := .writing (u.nvs.planWrite 0 s.csq.body), attempts := 1 } ∧
    u.OnlyRests s.commitMechanism := by
  intro u
  have begun : s.commitMechanism = (u.beginWrite 0 s.csq.body).conclude := rfl
  have csq : u.csq = s.csq := by simp [u, State.useMechanism_eq]
  have hpu : u.hpu = s.hpu := by simp [u, State.useMechanism_eq]
  have idle : (u.beginWrite 0 s.csq.body).AtLeisure := by
    simpa [u, State.AtLeisure, State.useMechanism_eq, State.beginWrite] using leisure
  have stage : (u.beginWrite 0 s.csq.body).csq.stage = .writing (u.nvs.planWrite 0 s.csq.body) := rfl
  obtain ⟨sameHpu, sameCsq, -⟩ := State.conclude_follows (s := u.beginWrite 0 s.csq.body) (by rw [stage]; nofun)
    (by rw [stage]; nofun)
  obtain ⟨inRun, mayRun⟩ := idle.rests
  have rests := State.conclude_rests (s := u.beginWrite 0 s.csq.body) (by rw [stage]; nofun) (by rw [stage]; nofun)
    inRun mayRun
  rw [begun]
  refine ⟨sameHpu.trans hpu, sameCsq.trans ?_, rests.congr (by simp [State.SameEngine, State.beginWrite])
    (State.SameEngine.refl _)⟩
  rw [State.beginWrite, csq]

/-- R157: the second act of SET MECHANISM PARAMETERS that is refused. -/
theorem State.setMechanism_refusesAgain (r : s.ReadyAgain 0x23) (good : s.CrcGood) (strap : Bool) (decay : List Decay)
    {u : State} (hu : u = { s with strap := strap, nvs := s.nvs.decayed decay })
    (fails : firstOf u.mechanismPayloadChecks = some e) :
    ∃ t, exec (.setMechanismParameters strap decay) s = .next t ∧ u.SameEngine t ∧ s.EndsWith t e := by
  have again : u.ReadyAgain 0x23 := hu ▸ r
  have crc : u.CrcGood := hu ▸ good
  have hpu : u.hpu = s.hpu := by rw [hu]
  have csq : u.csq = s.csq := by rw [hu]
  refine ⟨u.finish e, ?_, u.finish_sameEngine e, State.EndsWith.of_same hpu csq (again.endsWith (by decide) e).2⟩
  rw [exec_setMechanismParameters r.1, State.setMechanism_due (.inr r) strap decay hu,
    State.withPayload_again_refuses again crc fails]

theorem State.setMechanism_commits (r : s.ReadyAgain 0x23) (good : s.CrcGood) (c : s.Clear) (strap : Bool)
    (decay : List Decay) {u : State} (hu : u = { s with strap := strap, nvs := s.nvs.decayed decay })
    (passes : firstOf u.mechanismPayloadChecks = none) :
    exec (.setMechanismParameters strap decay) s = .next u.commitMechanism := by
  have again : u.ReadyAgain 0x23 := hu ▸ r
  have crc : u.CrcGood := hu ▸ good
  have clear : u.hpu.breakPending = false := hu ▸ c.2
  rw [exec_setMechanismParameters r.1, State.setMechanism_due (.inr r) strap decay hu,
    State.withPayload_again_commits again crc clear passes]

/-- R161: a STORE PROFILE that is due acts with the strap and the store as they are now. -/
theorem exec_storeProfile (r : s.Ready 0x24) (strap : Bool) (decay : List Decay) {u : State}
    (hu : u = { s with strap := strap, nvs := s.nvs.decayed decay }) :
    exec (.storeProfile strap decay) s = .next (u.plain 0x24 [u.strapCheck (num8 s.csq.block 2 + 1)]
      fun t => t.beginWrite (num8 s.csq.block 2 + 1) t.nvs.profile.bytes) := by
  rw [hu]
  exact congrArg Host.Outcome.next ((State.served_inService r.1 _).trans (if_pos (State.inHand_validate r)))

theorem State.storeProfile_refuses (r : s.Ready 0x24) (c : s.Clear) (strap : Bool) (decay : List Decay) {u : State}
    (hu : u = { s with strap := strap, nvs := s.nvs.decayed decay })
    (fails : firstOf (slotRange s.csq.block ++ [u.strapCheck (num8 s.csq.block 2 + 1)]) = some e) :
    ∃ t, exec (.storeProfile strap decay) s = .next t ∧ u.SameEngine t ∧ s.EndsWith t e := by
  have ready : u.Ready 0x24 := hu ▸ r
  have clear : u.eng.cond ≠ .faulted := hu ▸ c.1
  have hpu : u.hpu = s.hpu := by rw [hu]
  have csq : u.csq = s.csq := by rw [hu]
  refine ⟨u.finish e, ?_, u.finish_sameEngine e, State.EndsWith.of_same hpu csq (ready.endsWith (by decide) e).2⟩
  rw [exec_storeProfile r strap decay hu, State.plain_refuses ready (.inl clear)]
  have ranges : u.ranges u.csq.block = slotRange s.csq.block := by rw [csq]; simp [State.ranges, r.code]
  rwa [ranges]

theorem State.storeProfile_begins (r : s.Ready 0x24) (c : s.Clear) (slot : num8 s.csq.block 2 ≤ 3)
    (decay : List Decay) {u : State} (hu : u = { s with strap := false, nvs := s.nvs.decayed decay }) :
    exec (.storeProfile false decay) s = .next (u.beginWrite (num8 s.csq.block 2 + 1) u.nvs.profile.bytes) := by
  have ready : u.Ready 0x24 := hu ▸ r
  have clear : u.Clear := hu ▸ c
  have strap : u.strap = false := by rw [hu]
  have csq : u.csq = s.csq := by rw [hu]
  have passes : firstOf (u.ranges u.csq.block ++ [u.strapCheck (num8 s.csq.block 2 + 1)]) = none := by
    rw [csq]
    simp [State.ranges, r.code, slotRange, slot, State.strapCheck, strap]
  rw [exec_storeProfile r false decay hu, State.plain_acts ready (.inl clear.1) clear.2 passes]

/-- R157: the checks of the second act, each as what must hold, before the preconditions. -/
theorem State.mechanismPayloadChecks_eq {u : State} {strap : Bool} {decay : List Decay}
    (hu : u = { s with strap := strap, nvs := s.nvs.decayed decay }) : u.mechanismPayloadChecks =
    fieldRefusals (mechanismChecks s.csq.body ++ mechanismAgreement s.nvs.profile (Mechanism.ofBytes s.csq.body)) ++
      (u.busyChecks ++ [u.strapCheck 0]) := by
  rw [State.mechanismPayloadChecks, List.append_assoc, hu]
  simp

/-- Settles O21. -/
theorem storingCommandsBeginTheirWrite : Obligations.StoringCommandsBeginTheirWrite := by
  have required (u : State) := congrArg₂ (· ++ ·) (mechanismChecks_required u.csq.body)
    (mechanismAgreement_required u.nvs.profile (Mechanism.ofBytes u.csq.body)) |>.trans (List.map_append ..).symm
  refine ⟨fun s decay r c good leisure wf agrees => ?_, fun s decay r c slot => ⟨?_, ?_⟩, fun s strap decay r c slot => ?_,
    fun s strap decay r c good => ⟨fun before offset after split passed => ?_, fun passed busy => ?_,
      fun passed leisure fitted => ?_⟩⟩
  · obtain ⟨u, hu⟩ : ∃ u : State, u = { s with strap := false, nvs := s.nvs.decayed decay } := ⟨_, rfl⟩
    have idle : u.AtLeisure := hu ▸ leisure
    have strap : u.strap = false := by rw [hu]
    have passes : firstOf u.mechanismPayloadChecks = none := by
      have fields : firstOf (fieldRefusals (mechanismChecks s.csq.body ++
          mechanismAgreement s.nvs.profile (Mechanism.ofBytes s.csq.body))) = none := by
        rw [firstOf_fieldRefusals, passes_append, Bool.and_eq_true, passes_mechanismAgreement]
        exact ⟨wf, agrees⟩
      rw [State.mechanismPayloadChecks_eq hu, firstOf_append, fields, Option.none_or, firstOf_append,
        State.busyChecks_leisure idle]
      simp [State.strapCheck, strap]
    obtain ⟨sameHpu, begun, rests⟩ := State.commitMechanism_begins idle
    refine ⟨_, State.setMechanism_commits r good c false decay hu passes, ?_, ?_, ?_⟩
    · rw [sameHpu, hu]
    · rw [begun, hu]
      simp [State.useMechanism_eq]
    · rw [State.useMechanism_eq, hu] at rests
      rw [hu]
      simpa using rests
  · exact (State.storeProfile_begins r c slot decay rfl).trans (by simp [State.beginWrite])
  · exact State.storeProfile_refuses r c true decay rfl
      (by rw [firstOf_append, slotRange_passes slot]; rfl)
  · exact State.storeProfile_refuses r c strap decay rfl (by simp [slotRange, slot, badParameter])
  · refine State.setMechanism_refusesAgain r good strap decay rfl ?_
    rw [State.mechanismPayloadChecks_eq rfl]
    exact firstOf_fields (required s) split passed
  · refine State.setMechanism_refusesAgain r good strap decay rfl ?_
    rw [State.mechanismPayloadChecks_eq rfl, firstOf_fields_passed (required s) passed, firstOf_append,
      State.busyChecks_busy (s := { s with strap := strap, nvs := s.nvs.decayed decay }) busy]
    rfl
  · refine State.setMechanism_refusesAgain r good strap decay rfl ?_
    rw [State.mechanismPayloadChecks_eq rfl, firstOf_fields_passed (required s) passed, firstOf_append,
      State.busyChecks_leisure (s := { s with strap := strap, nvs := s.nvs.decayed decay }) leisure]
    simp [State.strapCheck, fitted, refusalDetail]

end Sys2Proof.Machine
end

section
/-! The stored copies of a record (R158, R160): their bytes, when they are valid, which is selected, and which a write
replaces. -/

namespace Sys2Proof.Machine

/-- A 16-bit field and its two bytes. -/
theorem lowHigh_joined (h : Half) : ((h >>> 8).setWidth 8 : Byte) ++ (h.setWidth 8 : Byte) = h := by
  have joined := twoBytes_toNat h.isLt
  rw [BitVec.ofNat_toNat, BitVec.setWidth_eq] at joined
  exact BitVec.eq_of_toNat_eq joined

theorem half_lowHigh (h : Half) (l : List Byte) : half (lowHigh h ++ l) 0 = h := lowHigh_joined h

theorem recordLength_eq (record : Nat) : recordLength record = if record = 0 then 10 else 16 := rfl

/-- R158: the CRC and the record's own ranges. -/
theorem StoredCopy.valid_iff (record : Nat) (c : StoredCopy) : c.valid record = true ↔
    half c.bytes (recordLength record + 2) = crc16 (c.bytes.take (recordLength record + 2)) ∧
      recordWellFormed record (copyRecord record c.bytes) = true := by
  simp [StoredCopy.valid, crcMatches]

/-! ### A copy made of a record -/

theorem copySeq_copyBytes (seq : Half) (value : List Byte) : copySeq (copyBytes seq value) = seq := by
  rw [copySeq, copyBytes, List.append_assoc, half_lowHigh]

theorem copyRecord_copyBytes {record : Nat} (seq : Half) {value : List Byte}
    (length : value.length = recordLength record) : copyRecord record (copyBytes seq value) = value := by
  have two : (lowHigh seq).length = 2 := rfl
  rw [copyRecord, copyBytes, List.append_assoc, ← two, List.drop_left, ← length, List.take_left]

theorem crcMatches_copyBytes {record : Nat} (seq : Half) {value : List Byte}
    (length : value.length = recordLength record) : crcMatches record (copyBytes seq value) = true := by
  have front : (lowHigh seq ++ value).length = recordLength record + 2 := by
    rw [List.length_append, length, Nat.add_comm]
    rfl
  have crc : half (copyBytes seq value) (recordLength record + 2) = crc16 (lowHigh seq ++ value) := by
    rw [half, byteAt, byteAt, copyBytes, List.getD_append_right _ _ _ _ (by omega),
      List.getD_append_right _ _ _ _ (by omega), front, Nat.sub_self, Nat.add_sub_cancel_left]
    exact lowHigh_joined _
  rw [crcMatches, crc, copyBytes, ← front, List.take_left, beq_self_eq_true]

theorem valid_copyBytes {record : Nat} (seq : Half) {value : List Byte} (length : value.length = recordLength record) :
    (⟨copyBytes seq value⟩ : StoredCopy).valid record = recordWellFormed record value := by
  rw [StoredCopy.valid, crcMatches_copyBytes seq length, copyRecord_copyBytes seq length, Bool.true_and]

/-! ### A copy left torn -/

theorem tornBytes_of_length {record : Nat} {left : List Byte} (length : left.length = copyLength record)
    (mismatch : crcMatches record left = false) : tornBytes record left = left := by
  have whole : (left ++ List.replicate (copyLength record) 0xFF).take (copyLength record) = left := by
    rw [← length, List.take_left]
  simp only [tornBytes, whole, mismatch]
  rfl

/-! ### Selection, and the target of a write -/

theorem StoredRecord.selected_eq (record : Nat) (r : StoredRecord) : r.selected record =
    if r.a.valid record then
      if r.b.valid record then some (newer (copySeq r.a.bytes) (copySeq r.b.bytes)) else some false
    else if r.b.valid record then some true else none := by
  cases a : r.a.valid record <;> cases b : r.b.valid record <;> simp [StoredRecord.selected, a, b]

/-- Settles O22. -/
theorem copiesAreSelectedAndReplacedInTurn : Obligations.CopiesAreSelectedAndReplacedInTurn := by
  refine ⟨⟨fun record c => ⟨StoredCopy.valid_iff record c, rfl, rfl⟩, fun record seq value => ⟨rfl, fun length => ?_⟩,
    fun record left => ⟨torn_invalid record left, ?_, fun length mismatch => tornBytes_of_length ?_ mismatch⟩⟩,
    fun record r => ⟨?_, ?_, ?_, ?_⟩, fun n record => ⟨?_, ?_, ?_, fun value => ⟨?_, ?_, ?_, ?_⟩⟩⟩
  · exact ⟨copySeq_copyBytes seq value, copyRecord_copyBytes seq length, valid_copyBytes seq length⟩
  · rw [tornBytes_length, copyLength, recordLength_eq]
    split <;> rfl
  · rw [length, copyLength, recordLength_eq]
    split <;> rfl
  · rintro ⟨a, b⟩
    simp [StoredRecord.selected_eq, a, b, newer]
  · rintro ⟨a, b⟩
    simp [StoredRecord.selected_eq, a, b]
  · rintro ⟨a, b⟩
    simp [StoredRecord.selected_eq, a, b]
  · rintro ⟨a, b⟩
    simp [StoredRecord.selected_eq, a, b]
  · intro selected
    simp [Nvs.load, selected, StoredRecord.copy]
  · intro selected
    simp [Nvs.load, selected, StoredRecord.copy]
  · intro selected
    simp [Nvs.load, selected]
  · simp only [Nvs.planWrite]
    split <;> rfl
  all_goals
    intro selected
    simp [Nvs.planWrite, selected, StoredRecord.copy]

end Sys2Proof.Machine
end

section
/-! The free list of the glyph memory (R44 to R46, R54): what it covers, and that it stays merged and in order. -/

namespace Sys2Proof.Machine

/-- An extent of the list holds the granule. -/
abbrev Covered (l : List Extent) (g : Nat) : Prop := ∃ e ∈ l, e.first ≤ g ∧ g < e.first + e.length

theorem covered_cons (e : Extent) (l : List Extent) (g : Nat) :
    Covered (e :: l) g ↔ (e.first ≤ g ∧ g < e.first + e.length) ∨ Covered l g := by simp [Covered]

theorem freeListWf_cons (e : Extent) (l : List Extent) :
    FreeListWf (e :: l) ↔ 0 < e.length ∧ (∀ f ∈ l, e.first + e.length < f.first) ∧ FreeListWf l := by
  simp only [FreeListWf, List.forall_mem_cons, List.pairwise_cons]
  tauto

theorem totalFree_cons (e : Extent) (l : List Extent) : totalFree (e :: l) = e.length + totalFree l := by
  simp [totalFree]

/-- What a free list covers lies behind the end of an extent that precedes it. -/
theorem FreeListWf.not_covered {e : Extent} {l : List Extent} (wf : FreeListWf (e :: l)) {g : Nat}
    (le : g ≤ e.first + e.length) : ¬ Covered l g := by
  obtain ⟨-, behind, -⟩ := (freeListWf_cons e l).mp wf
  rintro ⟨f, mem, start, -⟩
  have := behind f mem
  omega

/-- An extent that is given back begins no earlier than the first of those that were there and itself. -/
theorem freeInsert_behind {bound : Nat} : ∀ {l : List Extent} {first length : Nat}, bound < first →
    (∀ e ∈ l, bound < e.first) → ∀ e ∈ freeInsert first length l, bound < e.first := by
  intro l
  induction l with
  | nil => simp +contextual [freeInsert]
  | cons e rest ih =>
    intro first length start behind
    obtain ⟨head, tail⟩ := List.forall_mem_cons.mp behind
    simp only [freeInsert]
    split
    · exact List.forall_mem_cons.mpr ⟨start, behind⟩
    split
    · exact List.forall_mem_cons.mpr ⟨start, tail⟩
    split
    · exact ih head tail
    · exact List.forall_mem_cons.mpr ⟨head, ih start tail⟩

/-- R46: the list stays in order, and covers the extent besides what it covered. -/
theorem freeInsert_spec : ∀ {l : List Extent} {first length : Nat}, FreeListWf l → 0 < length →
    (∀ e ∈ l, first + length ≤ e.first ∨ e.first + e.length ≤ first) →
    FreeListWf (freeInsert first length l) ∧
    totalFree (freeInsert first length l) = totalFree l + length ∧
    ∀ g, Covered (freeInsert first length l) g ↔ Covered l g ∨ (first ≤ g ∧ g < first + length) := by
  intro l
  induction l with
  | nil => simp +contextual [freeInsert, FreeListWf, totalFree, Covered]
  | cons e rest ih =>
    intro first length wf pos apart
    obtain ⟨long, behind, tail⟩ := (freeListWf_cons e rest).mp wf
    obtain ⟨headApart, tailApart⟩ := List.forall_mem_cons.mp apart
    simp only [freeInsert]
    split
    case isTrue below =>
      have first_lt : ∀ f ∈ e :: rest, first + length < f.first :=
        List.forall_mem_cons.mpr ⟨below, fun f mem => by have := behind f mem; omega⟩
      refine ⟨(freeListWf_cons _ _).mpr ⟨pos, first_lt, wf⟩, by simp only [totalFree_cons]; omega, fun g => ?_⟩
      rw [covered_cons]
      exact or_comm
    split
    case isTrue meets =>
      refine ⟨(freeListWf_cons _ _).mpr ⟨by simp; omega, fun f mem => ?_, tail⟩,
        by simp only [totalFree_cons]; omega, fun g => ?_⟩
      · have := behind f mem
        show first + (length + e.length) < f.first
        omega
      · simp only [covered_cons]
        by_cases inRest : Covered rest g
        · simp [inRest]
        · simp [inRest]
          omega
    split
    case isTrue met =>
      have restApart : ∀ f ∈ rest, e.first + (e.length + length) ≤ f.first ∨ f.first + f.length ≤ e.first :=
        fun f mem => by have := behind f mem; have := tailApart f mem; omega
      obtain ⟨ordered, total, covers⟩ := ih tail (by omega : 0 < e.length + length) restApart
      refine ⟨ordered, by rw [total, totalFree_cons]; omega, fun g => ?_⟩
      rw [covers, covered_cons]
      by_cases inRest : Covered rest g
      · simp [inRest]
      · simp [inRest]
        omega
    case isFalse =>
      obtain ⟨ordered, total, covers⟩ := ih tail pos tailApart
      refine ⟨(freeListWf_cons _ _).mpr ⟨long, freeInsert_behind (by omega) behind, ordered⟩,
        by simp only [totalFree_cons, total]; omega, fun g => ?_⟩
      rw [covered_cons, covered_cons, covers, or_assoc]

/-- R45: without an extent that is long enough there is none to give. -/
theorem firstFit_eq_none {g : Nat} {l : List Extent} : firstFit g l = none ↔ ∀ e ∈ l, e.length < g := by
  induction l with
  | nil => simp [firstFit]
  | cons e rest ih =>
    simp only [firstFit, List.forall_mem_cons]
    split
    · simp; omega
    · simp only [Option.map_eq_none_iff, ih]
      exact (and_iff_right (by omega)).symm

/-- R45: the lowest extent long enough gives its start, and the rest of it stays. -/
theorem firstFit_spec {g : Nat} (pos : 0 < g) : ∀ {l : List Extent} {base : Nat} {rest : List Extent}, FreeListWf l →
    firstFit g l = some (base, rest) →
    (∃ e ∈ l, e.first = base ∧ g ≤ e.length ∧ ∀ f ∈ l, f.first < base → f.length < g) ∧
    FreeListWf rest ∧ totalFree rest + g = totalFree l ∧
    (∀ x, Covered rest x ↔ Covered l x ∧ ¬ (base ≤ x ∧ x < base + g)) ∧
    ∀ bound, (∀ e ∈ l, bound < e.first) → ∀ e ∈ rest, bound < e.first := by
  intro l
  induction l with
  | nil => simp [firstFit]
  | cons e tail ih =>
    intro base rest wf found
    obtain ⟨long, behind, ordered⟩ := (freeListWf_cons e tail).mp wf
    have outside : ∀ x, Covered tail x → e.first + e.length < x := fun x covered => by
      by_contra le
      exact wf.not_covered (by omega) covered
    simp only [firstFit] at found
    split at found
    case isTrue fits =>
      obtain ⟨rfl, rfl⟩ := Prod.mk.inj (Option.some.inj found)
      have lowest : ∀ f ∈ e :: tail, f.first < e.first → f.length < g :=
        List.forall_mem_cons.mpr ⟨fun lt => by omega, fun f mem lt => by have := behind f mem; omega⟩
      refine ⟨⟨e, List.mem_cons_self, rfl, fits, lowest⟩, ?_⟩
      split
      case isTrue exact =>
        refine ⟨ordered, by rw [totalFree_cons]; omega, fun x => ?_, fun bound all => (List.forall_mem_cons.mp all).2⟩
        have := outside x
        rw [covered_cons]
        by_cases inRest : Covered tail x <;> (simp [inRest] at this ⊢; omega)
      case isFalse =>
        refine ⟨(freeListWf_cons _ _).mpr ⟨by simp; omega, fun f mem => ?_, ordered⟩,
          by simp only [totalFree_cons]; omega, fun x => ?_, fun bound all => ?_⟩
        · have := behind f mem
          show e.first + g + (e.length - g) < f.first
          omega
        · have := outside x
          rw [covered_cons, covered_cons]
          by_cases inRest : Covered tail x <;> (simp [inRest] at this ⊢; omega)
        · obtain ⟨head, others⟩ := List.forall_mem_cons.mp all
          exact List.forall_mem_cons.mpr ⟨by show bound < e.first + g; omega, others⟩
    case isFalse short =>
      obtain ⟨⟨base', rest'⟩, inner, eq⟩ := Option.map_eq_some_iff.mp found
      obtain ⟨rfl, rfl⟩ := Prod.mk.inj eq
      obtain ⟨⟨f, mem, start, fits, lowest⟩, restWf, total, covers, bounded⟩ := ih ordered inner
      have head := behind f mem
      refine ⟨⟨f, List.mem_cons_of_mem _ mem, start, fits, List.forall_mem_cons.mpr ⟨fun _ => by omega, lowest⟩⟩,
        (freeListWf_cons _ _).mpr ⟨long, bounded _ behind, restWf⟩,
        by simp only [totalFree_cons]; omega, fun x => ?_, fun bound all => ?_⟩
      · rw [covered_cons, covered_cons, covers]
        by_cases inRest : Covered tail x <;> simp [inRest] <;> omega
      · obtain ⟨first, others⟩ := List.forall_mem_cons.mp all
        exact List.forall_mem_cons.mpr ⟨first, bounded bound others⟩

/-- R54: the parts of one extent before and behind the granules that are covered. -/
def Extent.carve (first length : Nat) (e : Extent) : List Extent :=
  [(⟨e.first, min e.length (first - e.first)⟩ : Extent),
   ⟨max e.first (first + length), e.first + e.length - max e.first (first + length)⟩].filter
    fun x => decide (0 < x.length)

theorem freeCarve_eq (first length : Nat) (l : List Extent) :
    freeCarve first length l = l.flatMap (Extent.carve first length) := rfl

theorem Extent.mem_carve {first length : Nat} {e x : Extent} : x ∈ e.carve first length ↔ 0 < x.length ∧
    (x = ⟨e.first, min e.length (first - e.first)⟩ ∨
      x = ⟨max e.first (first + length), e.first + e.length - max e.first (first + length)⟩) := by
  simp only [Extent.carve, List.mem_filter, List.mem_cons, List.not_mem_nil, or_false, decide_eq_true_eq]
  exact and_comm

/-- The parts of an extent lie within it. -/
theorem Extent.carve_within {first length : Nat} {e x : Extent} (mem : x ∈ e.carve first length) :
    0 < x.length ∧ e.first ≤ x.first ∧ x.first + x.length ≤ e.first + e.length := by
  obtain ⟨pos, rfl | rfl⟩ := Extent.mem_carve.mp mem <;> simp only at pos ⊢ <;> omega

/-- The parts of an extent stand in order, the covered granules between them. -/
theorem Extent.carve_ordered {first length : Nat} (pos : 0 < length) (e : Extent) :
    (e.carve first length).Pairwise fun a b => a.first + a.length < b.first := by
  refine List.Pairwise.imp_of_mem (R := fun a b => 0 < a.length → 0 < b.length → a.first + a.length < b.first)
    (fun ha hb less => less (Extent.carve_within ha).1 (Extent.carve_within hb).1) (List.Pairwise.filter _ ?_)
  simp only [List.pairwise_cons, List.mem_singleton, forall_eq, List.not_mem_nil, false_implies, implies_true,
    List.Pairwise.nil, and_true]
  omega

/-- The parts of an extent cover what it covers but for the granules covered. -/
theorem Extent.covered_carve {first length : Nat} (e : Extent) (g : Nat) :
    Covered (e.carve first length) g ↔ (e.first ≤ g ∧ g < e.first + e.length) ∧ ¬ (first ≤ g ∧ g < first + length) := by
  constructor
  · rintro ⟨x, mem, low, high⟩
    obtain ⟨-, rfl | rfl⟩ := Extent.mem_carve.mp mem <;> simp only at low high <;> omega
  · rintro ⟨⟨low, high⟩, out⟩
    by_cases before : g < first
    · exact ⟨_, Extent.mem_carve.mpr ⟨by simp only; omega, .inl rfl⟩, low, by simp only; omega⟩
    · exact ⟨_, Extent.mem_carve.mpr ⟨by simp only; omega, .inr rfl⟩, by simp only; omega, by simp only; omega⟩

/-- R54: the granules covered leave the free list, which stays in order. -/
theorem freeCarve_spec {l : List Extent} {first length : Nat} (wf : FreeListWf l) (pos : 0 < length) :
    FreeListWf (freeCarve first length l) ∧
    ∀ g, Covered (freeCarve first length l) g ↔ Covered l g ∧ ¬ (first ≤ g ∧ g < first + length) := by
  rw [freeCarve_eq]
  refine ⟨⟨fun x mem => ?_, List.pairwise_flatMap.mpr ⟨fun e _ => e.carve_ordered pos, ?_⟩⟩, fun g => ?_⟩
  · obtain ⟨e, -, mem⟩ := List.mem_flatMap.mp mem
    exact (Extent.carve_within mem).1
  · refine wf.2.imp fun {a b} less x hx y hy => ?_
    have left := Extent.carve_within hx
    have right := Extent.carve_within hy
    omega
  · calc Covered (l.flatMap (Extent.carve first length)) g
        ↔ ∃ e ∈ l, Covered (e.carve first length) g := by
          simp only [Covered, List.mem_flatMap]
          exact ⟨fun ⟨x, ⟨e, he, hx⟩, h⟩ => ⟨e, he, x, hx, h⟩, fun ⟨e, he, x, hx, h⟩ => ⟨x, ⟨e, he, hx⟩, h⟩⟩
      _ ↔ Covered l g ∧ ¬ (first ≤ g ∧ g < first + length) := by
          simp only [Extent.covered_carve, Covered]
          exact ⟨fun ⟨e, he, h, out⟩ => ⟨⟨e, he, h⟩, out⟩, fun ⟨⟨e, he, h⟩, out⟩ => ⟨e, he, h, out⟩⟩

/-- Settles O25: by induction over the list for an extent given back and for first fit, and extent by extent for the
granules that a moved glyph covers. -/
theorem freeListIsFirstFitAndMerged : Obligations.FreeListIsFirstFitAndMerged := by
  refine ⟨fun _ _ _ => freeInsert_spec, fun g l pos wf => ⟨firstFit_eq_none, fun base rest found => ?_⟩,
    fun _ _ _ => freeCarve_spec⟩
  obtain ⟨lowest, ordered, total, covers, -⟩ := firstFit_spec pos wf found
  exact ⟨lowest, ordered, total, covers⟩

end Sys2Proof.Machine

end

section
/-! The glyph store's commands (R50 to R56): DEFINE GLYPH, DELETE GLYPH, COMPACT GLYPHS and the moves of a compaction. -/

namespace Sys2Proof.Machine

variable {s : State} {code : Byte} {e : Ending}

/-! ### Granules and their bytes -/

theorem granules_eq (bytes : Nat) : granules bytes = (bytes + 7) / 8 := rfl

theorem glyphOffset_eq (granule : Nat) : glyphOffset granule = 26624 + 8 * granule := rfl

theorem le_granules (bytes : Nat) : bytes ≤ 8 * granules bytes := by
  rw [granules_eq]
  omega

theorem padded_length (bitmap : List Byte) : (padded bitmap).length = 8 * granules bitmap.length := by
  have := le_granules bitmap.length
  simp only [padded, List.length_append, List.length_replicate]
  omega

/-- R51: the bitmap, and behind it 0 to the end of its last granule. -/
theorem padded_getD (bitmap : List Byte) (i : Nat) :
    (padded bitmap).getD i 0 = if i < bitmap.length then byteAt bitmap i else 0 := by
  split
  case isTrue inside => exact List.getD_append _ _ _ _ inside
  case isFalse outside =>
    rw [padded, List.getD_append_right _ _ _ _ (by omega), List.getD_eq_getElem?_getD, List.getElem?_replicate]
    split <;> rfl

theorem Memory.length_readBlock (m : Memory) (base len : Nat) : (m.readBlock base len).length = len := by
  simp [Memory.readBlock]

theorem Memory.getD_readBlock (m : Memory) (base : Nat) {len i : Nat} (h : i < len) :
    (m.readBlock base len).getD i 0 = m.read (base + i) := by
  simp [Memory.readBlock, h]

/-! ### Room -/

theorem foldl_max_lt_iff {l : List Nat} : ∀ {a g : Nat}, l.foldl max a < g ↔ a < g ∧ ∀ x ∈ l, x < g := by
  induction l with
  | nil => simp
  | cons x l ih => simp [ih, and_assoc]

/-- R44: the longest free extent is too short exactly when each of them is. -/
theorem longestFree_lt_iff {l : List Extent} {g : Nat} (pos : 0 < g) :
    longestFree l < g ↔ ∀ e ∈ l, e.length < g := by
  simp [longestFree, foldl_max_lt_iff, pos]

theorem length_le_totalFree {l : List Extent} {e : Extent} (mem : e ∈ l) : e.length ≤ totalFree l :=
  List.le_sum_of_mem (List.mem_map_of_mem mem)

/-- R45: where first fit finds an extent, there is room. -/
theorem State.roomChecks_pass {bytes : Nat} (pos : 0 < bytes) {found : Nat × List Extent}
    (fits : firstFit (granules bytes) s.gst.free = some found) : firstOf (s.roomChecks bytes) = none := by
  have positive : 0 < granules bytes := by rw [granules_eq]; omega
  have some_long : ¬ ∀ e ∈ s.gst.free, e.length < granules bytes := by
    rw [← firstFit_eq_none, fits]
    nofun
  have longest := mt (longestFree_lt_iff positive).mp some_long
  push Not at some_long
  obtain ⟨e, mem, long⟩ := some_long
  have total := length_le_totalFree mem
  simp [State.roomChecks, longest, Nat.not_lt.mpr (long.trans total)]

/-! ### DEFINE GLYPH -/

/-- What follows is said of the glyph store and the memory as they are in the end. -/
theorem State.OnlyFollows.of_gst {g : Gst} {t : State} (h : ({ s with gst := g } : State).OnlyFollows t) :
    ({ s with gst := t.gst } : State).OnlyFollows t := by
  have gst : t.gst = g := h.1
  rwa [gst]

theorem State.OnlyFollows.of_gst_ram {g : Gst} {m : Memory} {t : State}
    (h : ({ s with gst := g, ram := m } : State).OnlyFollows t) :
    ({ s with gst := t.gst, ram := t.ram } : State).OnlyFollows t := by
  have gst : t.gst = g := h.1
  have ram : t.ram = m := h.2.2.2.2.1
  rwa [gst, ram]

theorem State.defineGlyph_eq {id width height base : Nat} {bitmap : List Byte} {rest : List Extent}
    (fits : firstFit (granules bitmap.length) s.gst.free = some (base, rest)) :
    s.defineGlyph id width height bitmap =
      { s with
        gst :=
          { (s.gst.setEntry id ⟨.defined, width, height, bitmap.length, base, 0⟩) with
            free := if (s.gst.entry id).state = .empty then rest
              else freeInsert (s.gst.entry id).base (granules (s.gst.entry id).size) rest }
        ram := s.ram.writeBlock (glyphOffset base) (padded bitmap) } := by
  simp only [State.defineGlyph, fits]

/-- R50: an id that is EMPTY, or DEFINED and not in use, may be defined. -/
theorem State.defineChecks_pass (h : (s.gst.entry (num8 s.csq.block 2)).state = .empty ∨
    ((s.gst.entry (num8 s.csq.block 2)).state = .defined ∧ (s.gst.entry (num8 s.csq.block 2)).count = 0)) :
    firstOf (s.defineChecks s.csq.block) = none := by
  rcases h with empty | ⟨defined, unused⟩
  · simp [State.defineChecks, glyphId, empty]
  · simp [State.defineChecks, glyphId, defined, unused]

theorem State.defineChecks_inUse (h : (s.gst.entry (num8 s.csq.block 2)).state = .doomed ∨
    ((s.gst.entry (num8 s.csq.block 2)).state = .defined ∧ 0 < (s.gst.entry (num8 s.csq.block 2)).count)) :
    firstOf (s.defineChecks s.csq.block) = some (refusalGlyph .glyphInUse (num8 s.csq.block 2)) := by
  rcases h with doomed | ⟨defined, used⟩
  · simp [State.defineChecks, glyphId, doomed]
  · simp [State.defineChecks, glyphId, defined, used]

/-- Settles O26. -/
theorem defineGlyphStoresTheBitmap : Obligations.DefineGlyphStoresTheBitmap := by
  refine ⟨fun s r c good => ?_, fun s r c good => ?_⟩
  · intro b id old bitmap g length pos inRange free
    have size : granules bitmap.length = g := by rw [length]; rfl
    have bytes : glyphBytes b = bitmap.length := length.symm
    have unused : firstOf (s.defineChecks b) = none := State.defineChecks_pass free
    refine ⟨fun base rest fits => ?_, fun small => ?_, fun enough fragmented => ?_⟩
    · have fit : firstFit (granules s.csq.body.length) s.gst.free = some (base, rest) := by rwa [size]
      have effect : s.commitDefine.1 = _ := State.defineGlyph_eq fit
      have passes : firstOf (s.defineChecks b ++ s.roomChecks (glyphBytes b)) = none := by
        rw [firstOf_append, unused, Option.none_or, bytes]
        exact State.roomChecks_pass pos fit
      obtain ⟨runs, ends, follows⟩ := State.completesAgain (checks := s.defineChecks b) (length := glyphBytes b + 2)
        (effect := State.commitDefine) r (by decide) good c.2 passes (by rw [effect]) (by rw [effect])
      rw [effect] at follows
      have gst := follows.1
      have ram := follows.2.2.2.2.1
      have inBlock {i : Nat} (h : i < 8 * g) : i < (padded bitmap).length := by rwa [padded_length, size]
      refine ⟨_, by rw [exec_defineGlyph r.1, runs], ends,
        follows.of_gst_ram, by rw [gst]; rfl, by rw [gst]; rfl, by rw [gst]; rfl, by rw [gst]; rfl, fun i less => ?_,
        fun i le less => ?_, fun a out => ?_⟩
      · have := le_granules bitmap.length
        rw [ram, ← glyphOffset_eq, Memory.read_written _ (inBlock (by omega)), padded_getD, if_pos less]
      · rw [ram, ← glyphOffset_eq, Memory.read_written _ (inBlock less), padded_getD, if_neg (by omega)]
      · rw [ram]
        refine Memory.read_elsewhere _ ?_
        rw [padded_length, size]
        exact out
    · refine State.refusesAgain r (by decide) good (exec_defineGlyph r.1) ?_
      have full : totalFree s.gst.free < granules (glyphBytes b) := small
      rw [firstOf_append, unused, Option.none_or, State.roomChecks, decide_eq_true full]
      rfl
    · refine State.refusesAgain r (by decide) good (exec_defineGlyph r.1) ?_
      have fits : ¬ totalFree s.gst.free < granules (glyphBytes b) := Nat.not_lt.mpr enough
      have full : longestFree s.gst.free < granules (glyphBytes b) := fragmented
      rw [firstOf_append, unused, Option.none_or, State.roomChecks, decide_eq_false fits, decide_eq_true full]
      rfl
  · intro id e inUse
    refine State.refusesAgain r (by decide) good (exec_defineGlyph r.1) ?_
    rw [firstOf_append, State.defineChecks_inUse inUse]
    rfl

/-! ### DELETE GLYPH -/

/-- R24: a command without a payload that a range or a precondition refuses. -/
theorem State.refusesPlain {row : Instr} {checks : List (Bool × Ending)} {commit : State → State} (r : s.Ready code)
    (notSense : code ≠ 0x12) (gate : s.eng.cond ≠ .faulted ∨ code ∈ faultGateCodes)
    (runs : exec row s = .next (s.plain code checks commit)) (fails : firstOf (s.ranges s.csq.block ++ checks) = some e) :
    ∃ t, exec row s = .next t ∧ s.SameEngine t ∧ s.EndsWith t e :=
  ⟨_, by rw [runs, State.plain_refuses r gate fails], r.endsWith notSense e⟩

theorem exec_deleteGlyph (h : s.InService) : exec .deleteGlyph s =
    .next (s.plain 0x32 (s.deleteChecks s.csq.block) (State.completeAfter State.commitDelete)) :=
  congrArg Host.Outcome.next (State.served_inService h _)

theorem State.deleteGlyph_ranges (r : s.Ready 0x32) : s.ranges s.csq.block = glyphIdRange s.csq.block := by
  simp [State.ranges, r.code]

/-- Settles O27, by the state of the id. -/
theorem deleteGlyphReleasesOrDooms : Obligations.DeleteGlyphReleasesOrDooms := by
  refine ⟨fun s r c inRange => ?_, fun s r c outOfRange => ?_⟩
  · intro id e
    have range : firstOf (s.ranges s.csq.block) = none := by
      rw [State.deleteGlyph_ranges r]
      simp [glyphIdRange, inRange]
    by_cases empty : e.state = .empty
    · simp only [if_pos empty]
      refine State.refusesPlain r (by decide) (.inl c.1) (exec_deleteGlyph r.1) ?_
      have refused : firstOf (s.deleteChecks s.csq.block) = some (.error .glyphUndefined none (.glyph id)) := by
        simp only [State.deleteChecks]
        exact if_pos (beq_iff_eq.mpr empty)
      rw [firstOf_append, range, Option.none_or, refused]
    have passes : firstOf (s.ranges s.csq.block ++ s.deleteChecks s.csq.block) = none := by
      rw [firstOf_append, range, Option.none_or]
      exact if_neg (mt beq_iff_eq.mp empty)
    have acts {effect : State × Ending} (is : s.commitDelete = effect) (hpu : effect.1.hpu = s.hpu)
        (csq : effect.1.csq = s.csq) : ∃ t, exec .deleteGlyph s = .next t ∧ s.EndsWith t effect.2 ∧ effect.1.OnlyFollows t := by
      subst is
      obtain ⟨runs, ends, follows⟩ := State.completes (effect := State.commitDelete) r (by decide) (.inl c.1) c.2 passes
        hpu csq
      exact ⟨_, by rw [exec_deleteGlyph r.1, runs], ends, follows⟩
    simp only [if_neg empty]
    by_cases doomed : e.state = .doomed
    · have is : s.commitDelete = (s, .ok) := by
        have entry : (s.gst.entry (glyphId s.csq.block)).state = .doomed := doomed
        simp only [State.commitDelete, entry]
      obtain ⟨t, runs, ends, follows⟩ := acts is rfl rfl
      exact ⟨t, runs, by rw [if_pos doomed]; exact ⟨follows, ends⟩⟩
    have entry : (s.gst.entry (glyphId s.csq.block)).state = .defined := by
      cases st : (s.gst.entry (glyphId s.csq.block)).state with
      | empty => exact absurd st empty
      | doomed => exact absurd st doomed
      | defined => rfl
    simp only [if_neg doomed]
    by_cases unused : e.count = 0
    · have is : s.commitDelete = ({ s with gst := s.gst.release id }, .ok) := by
        simp only [State.commitDelete, entry]
        exact if_pos unused
      obtain ⟨t, runs, ends, follows⟩ := acts is rfl rfl
      have gst := follows.1
      refine ⟨t, runs, ?_⟩
      rw [if_pos unused]
      exact ⟨ends, follows.of_gst, by rw [gst]; rfl,
        by rw [gst]; rfl⟩
    · have is : s.commitDelete = ({ s with gst := s.gst.setEntry id { e with state := .doomed } },
          .notice (BitVec.ofNat 32 (3 + 256 * id))) := by
        simp only [State.commitDelete, entry]
        exact if_neg unused
      obtain ⟨t, runs, ends, follows⟩ := acts is rfl rfl
      exact ⟨t, runs, by rw [if_neg unused]; exact ⟨ends, follows⟩⟩
  · refine State.refusesPlain r (by decide) (.inl c.1) (exec_deleteGlyph r.1) ?_
    rw [State.deleteGlyph_ranges r]
    simp [glyphIdRange, outOfRange, badParameter]

/-! ### COMPACT GLYPHS -/

/-- R54: what the next move is, by the lowest free extent and the glyph that begins behind it. -/
theorem Gst.nextMove_cons {g : Gst} {e : Extent} {rest : List Extent} (free : g.free = e :: rest) :
    g.nextMove = (g.glyphAt (e.first + e.length)).map fun id => (e.first, id) := by
  simp only [Gst.nextMove, free]

theorem Gst.nextMove_nil {g : Gst} (free : g.free = []) : g.nextMove = none := by
  simp only [Gst.nextMove, free]

theorem Gst.glyphAt_spec {g : Gst} {granule id : Nat} (found : g.glyphAt granule = some id) :
    id < 64 ∧ (g.entry id).state ≠ .empty ∧ (g.entry id).base = granule := by
  have holds := List.find?_some found
  obtain ⟨state, base⟩ := of_decide_eq_true holds
  exact ⟨List.mem_range.mp (List.mem_of_find?_eq_some found), state, base⟩

theorem Gst.glyphAt_eq_none {g : Gst} {granule : Nat} :
    g.glyphAt granule = none ↔ ∀ id < 64, (g.entry id).state ≠ .empty → (g.entry id).base ≠ granule := by
  simp [Gst.glyphAt, Config.glyphIds]

/-- R54: a move leads from behind a free extent to its first granule. -/
theorem Gst.nextMove_spec {g : Gst} {cursor id : Nat} (next : g.nextMove = some (cursor, id)) :
    ∃ e rest, g.free = e :: rest ∧ e.first = cursor ∧ id < 64 ∧ (g.entry id).state ≠ .empty ∧
      (g.entry id).base = e.first + e.length := by
  cases free : g.free with
  | nil => rw [Gst.nextMove_nil free] at next; cases next
  | cons e rest =>
    rw [Gst.nextMove_cons free] at next
    obtain ⟨found, at_, eq⟩ := Option.map_eq_some_iff.mp next
    obtain ⟨rfl, rfl⟩ := Prod.mk.inj eq
    exact ⟨e, rest, rfl, rfl, Gst.glyphAt_spec at_⟩

/-- R43: no two glyphs begin at one granule. -/
theorem Gst.Wf.base_injective {g : Gst} (wf : g.Wf) {i j : Nat} (hi : i < 64) (hj : j < 64)
    (ei : (g.entry i).state ≠ .empty) (ej : (g.entry j).state ≠ .empty) (same : (g.entry i).base = (g.entry j).base) :
    i = j := by
  obtain ⟨-, -, ⟨apart, -⟩, sizes, -⟩ := wf
  by_contra differ
  obtain ⟨-, -, others⟩ := apart i hi ei
  have between := others j hj (Ne.symm differ) ej
  have sizeI := sizes i hi ei
  have sizeJ := sizes j hj ej
  simp only [Glyph.granules] at between
  omega

/-- R56, R54: a compaction that ends does so before the engine's part of what follows. -/
theorem State.conclude_endsAndFollows (stage : s.csq.stage = .compacting) (notSense : s.csq.block.head? ≠ some 0x12)
    (ends : s.compactOn = s.finish e) : s.EndsAndFollows s.conclude e := by
  obtain ⟨hpu, csq, follows⟩ := State.conclude_compacting (s := s) (by rw [stage]; nofun)
  rw [ends] at hpu csq follows
  exact ⟨s.finish e, State.finish_endsWith notSense e, s.finish_sameEngine e, hpu, csq, follows⟩

theorem State.compactOn_compact (stage : s.csq.stage = .compacting) (idle : s.gst.moving = none)
    (compact : s.gst.nextMove = none) : s.compactOn = s.finish .ok := by
  simp only [State.compactOn, stage, idle, and_self, if_true, compact]

theorem State.compactOn_break (stage : s.csq.stage = .compacting) (idle : s.gst.moving = none)
    (more : s.gst.nextMove ≠ none) (b : s.hpu.breakPending = true) :
    s.compactOn = s.finish (.error .aborted none .nothing) := by
  obtain ⟨⟨cursor, id⟩, next⟩ := Option.ne_none_iff_exists'.mp more
  simp only [State.compactOn, stage, idle, and_self, if_true, next, b]
  rfl

/-- R31, R54: the next move is in hand at once, unless a band is being rendered. -/
theorem State.compactOn_moves {cursor id : Nat} (stage : s.csq.stage = .compacting) (idle : s.gst.moving = none)
    (next : s.gst.nextMove = some (cursor, id)) (b : s.hpu.breakPending = false) :
    s.compactOn = { s with gst :=
      if s.ring.composing = none then { s.gst with cursor := some cursor, moving := some id } else s.gst } := by
  simp only [State.compactOn, stage, idle, and_self, if_true, next, b]
  cases s.ring.composing <;> rfl

theorem exec_compactGlyphs (h : s.InService) : exec .compactGlyphs s =
    .next (s.plain 0x33 [] fun s => ({ s with csq := { s.csq with stage := .compacting } } : State).conclude) :=
  congrArg Host.Outcome.next (State.served_inService h _)

/-- Settles O28. -/
theorem compactGlyphsBeginsItsWork : Obligations.CompactGlyphsBeginsItsWork := by
  refine ⟨fun s r c idle => ?_, fun g cursor id next => Gst.nextMove_spec next, fun g free => Gst.nextMove_nil free,
    fun g e rest free => ⟨fun none => ?_, fun id less wf state base => ?_⟩⟩
  · obtain ⟨-, -, -, block⟩ := id r
    have head : s.csq.block.head? ≠ some 0x12 := by rw [block]; decide
    have passes : firstOf (s.ranges s.csq.block ++ []) = none := by simp [State.ranges, r.code]
    have runs : exec .compactGlyphs s = .next ({ s with csq := { s.csq with stage := .compacting } } : State).conclude := by
      rw [exec_compactGlyphs r.1, State.plain_acts r (.inl c.1) c.2 passes]
    refine ⟨fun compact => ⟨_, runs, ?_⟩, fun cursor id next => ⟨_, runs, ?_⟩⟩
    · exact State.conclude_endsAndFollows (s := { s with csq := { s.csq with stage := .compacting } }) rfl head
        (State.compactOn_compact rfl idle compact)
    · have moves := State.compactOn_moves (s := { s with csq := { s.csq with stage := .compacting } }) rfl idle next c.2
      obtain ⟨hpu, csq, follows⟩ := State.conclude_compacting
        (s := { s with csq := { s.csq with stage := .compacting } }) (by nofun)
      rw [moves] at hpu csq follows
      have stored : ({ s with gst := if s.ring.composing = none then { s.gst with cursor := some cursor, moving := some id }
          else s.gst } : State).OnlyFollows _ := follows.congr ⟨rfl, rfl, rfl, rfl, rfl, rfl, rfl, rfl, rfl, rfl, rfl⟩
        (State.SameEngine.refl _)
      exact ⟨hpu, csq, stored.of_gst, follows.1⟩
  · rw [Gst.nextMove_cons free, Gst.glyphAt_eq_none.mpr none]
    rfl
  · rw [Gst.nextMove_cons free]
    cases found : g.glyphAt (e.first + e.length) with
    | none => exact absurd base (Gst.glyphAt_eq_none.mp found id less state)
    | some other =>
      obtain ⟨lessOther, stateOther, baseOther⟩ := Gst.glyphAt_spec found
      rw [wf.base_injective lessOther less stateOther state (baseOther.trans base.symm)]
      rfl

/-! ### The moves of a compaction -/

theorem exec_glyphMove (h : s.InService) : exec .glyphMove s = .next s.moveEnds :=
  congrArg Host.Outcome.next (State.served_inService h _)

/-- R54 step 3, field by field. -/
theorem State.moveGlyph_eq (s : State) (cursor id : Nat) : s.moveGlyph cursor id =
    let e := s.gst.entry id
    let g := (e.size + 7) / 8
    { s with
      gst := ⟨s.gst.entries.set id { e with base := cursor },
        freeCarve cursor g (freeInsert e.base g s.gst.free), none, none⟩
      ram := s.ram.writeBlock (26624 + 8 * cursor) (s.ram.readBlock (26624 + 8 * e.base) (8 * g)) } := rfl

/-- R54: the move that the row ends, in hand or begun by it. -/
theorem State.moveEnds_moves {cursor id : Nat} (stage : s.csq.stage = .compacting)
    (h : (s.gst.cursor = some cursor ∧ s.gst.moving = some id) ∨
      (s.gst.moving = none ∧ s.gst.nextMove = some (cursor, id) ∧ s.hpu.breakPending = false)) :
    s.moveEnds = (s.moveGlyph cursor id).conclude := by
  rcases h with ⟨at_, moving⟩ | ⟨idle, next, b⟩
  · simp only [State.moveEnds, stage, if_true, at_, moving]
  · cases at_ : s.gst.cursor <;>
      simp only [State.moveEnds, stage, if_true, idle, at_, next, b, Bool.false_eq_true, if_false]

/-- R54, R56: with no move in hand, and none that may begin, the compaction decides. -/
theorem State.moveEnds_decides (stage : s.csq.stage = .compacting) (idle : s.gst.moving = none)
    (h : s.gst.nextMove ≠ none → s.hpu.breakPending = true) : s.moveEnds = s.conclude := by
  cases next : s.gst.nextMove with
  | none => cases at_ : s.gst.cursor <;> simp only [State.moveEnds, stage, if_true, idle, at_, next]
  | some move =>
    have b := h (by rw [next]; nofun)
    cases at_ : s.gst.cursor <;> simp only [State.moveEnds, stage, if_true, idle, at_, next, b]

theorem State.moveEnds_idle (stage : s.csq.stage ≠ .compacting) : s.moveEnds = s := if_neg stage

/-- R54: the free granules after a move: those free before and those that the glyph no longer covers. -/
theorem Gst.Wf.free_moved {g : Gst} (wf : g.Wf) {cursor id : Nat}
    (h : (g.cursor = some cursor ∧ g.moving = some id) ∨ g.nextMove = some (cursor, id)) :
    let e := g.entry id
    let free := freeCarve cursor e.granules (freeInsert e.base e.granules g.free)
    FreeListWf free ∧ ∀ x, Covered free x ↔
      (Covered g.free x ∨ (e.base ≤ x ∧ x < e.base + e.granules)) ∧ ¬ (cursor ≤ x ∧ x < cursor + e.granules) := by
  obtain ⟨-, list, ⟨apart, -⟩, sizes, move⟩ := wf
  have known : id < 64 ∧ (g.entry id).state ≠ .empty := by
    rcases h with ⟨at_, moving⟩ | next
    · simp only [Gst.MoveWf, at_, moving] at move
      exact ⟨move.1, move.2.1⟩
    · obtain ⟨-, -, -, -, less, state, -⟩ := Gst.nextMove_spec next
      exact ⟨less, state⟩
  obtain ⟨less, state⟩ := known
  have positive : 0 < (g.entry id).granules := by
    have := sizes id less state
    simp only [Glyph.granules]
    omega
  obtain ⟨-, between, -⟩ := apart id less state
  obtain ⟨ordered, -, covers⟩ := freeInsert_spec list positive fun f mem => (between f mem).symm
  obtain ⟨carved, covered⟩ := freeCarve_spec (first := cursor) ordered positive
  exact ⟨carved, fun x => by rw [covered, covers]⟩

/-- Settles O29. -/
theorem glyphMoveCopiesTheGlyphDown : Obligations.GlyphMoveCopiesTheGlyphDown := by
  refine ⟨fun s cursor id inService stage notSense move inRange => ?_, fun s inService stage notSense idle =>
    ⟨fun compact => ?_, fun more b => ?_⟩, fun s stage => ?_⟩
  · intro e g free moved ram u
    refine ⟨fun i less => ?_, fun a out => Memory.read_elsewhere _ (by rwa [Memory.length_readBlock]),
      fun wf => wf.free_moved (move.imp_right fun m => m.2.1), _, (exec_glyphMove inService).trans
        (congrArg Host.Outcome.next (State.moveEnds_moves stage move)), ?_⟩
    · rw [Memory.read_written _ (by rwa [Memory.length_readBlock]), Memory.getD_readBlock _ _ less]
    have is : s.moveGlyph cursor id = u := State.moveGlyph_eq s cursor id
    rw [is]
    cases next : moved.nextMove with
    | none => exact State.conclude_endsAndFollows stage notSense (State.compactOn_compact stage rfl next)
    | some m =>
      obtain ⟨c, i⟩ := m
      cases b : s.hpu.breakPending with
      | true =>
        exact State.conclude_endsAndFollows stage notSense (State.compactOn_break stage rfl (by rw [next]; nofun) b)
      | false =>
        obtain ⟨hpu, csq, follows⟩ := State.conclude_compacting (s := u) (by rw [stage]; nofun)
        rw [State.compactOn_moves (s := u) stage rfl next b] at hpu csq follows
        exact ⟨hpu, csq, follows⟩
  · rw [exec_glyphMove inService, State.moveEnds_decides stage idle fun more => absurd compact more]
    exact ⟨_, rfl, State.conclude_endsAndFollows stage notSense (State.compactOn_compact stage idle compact)⟩
  · rw [exec_glyphMove inService, State.moveEnds_decides stage idle fun _ => b]
    exact ⟨_, rfl, State.conclude_endsAndFollows stage notSense (State.compactOn_break stage idle more b)⟩
  · have still : s.served State.moveEnds = s := by
      rw [State.served]
      split
      · exact State.moveEnds_idle stage
      · rfl
    exact congrArg Host.Outcome.next still

end Sys2Proof.Machine

end

section
/-! RAM TEST (R166, R167), and the machine right after a power-on reset (Table 11-1). -/

namespace Sys2Proof.Machine

variable {s : State}

/-! ### RAM TEST -/

/-- R166: every pattern reads back as written. -/
theorem patternsReadBack_iff : ∀ {patterns differs : List Byte}, patternsReadBack patterns differs = true ↔
    ∀ i < patterns.length, byteAt patterns i ^^^ byteAt differs i = byteAt patterns i := by
  intro patterns
  induction patterns with
  | nil => simp [patternsReadBack]
  | cons p rest ih =>
    intro differs
    simp only [patternsReadBack, Bool.and_eq_true, beq_iff_eq, ih, List.length_cons, Nat.forall_lt_succ_left]
    cases differs <;> simp [byteAt]

theorem exec_ramTest (h : s.InService) : exec .ramTest s =
    .next (s.plain 0x61 s.ramTestChecks fun s => { s with csq := { s.csq with stage := .ramTesting 0 } }) :=
  congrArg Host.Outcome.next (State.served_inService h _)

theorem exec_ramByteTest {n : Nat} (h : s.InService) (stage : s.csq.stage = .ramTesting n) (inRange : n < 51200)
    (answer : ByteTest) : exec (.ramByteTest answer) s = .next (s.testByte n answer) := by
  have known : (s.running && decide (Config.ramBytes ≤ n)) = false := by
    have : ¬ Config.ramBytes ≤ n := Nat.not_le.mpr inRange
    simp [this]
  show execRamByteTest answer s = _
  simp only [execRamByteTest, stage, known, State.served_inService h]
  rfl

theorem exec_ramByteTest_idle (stage : ∀ n, s.csq.stage ≠ .ramTesting n) (answer : ByteTest) :
    exec (.ramByteTest answer) s = .next s := by
  show execRamByteTest answer s = _
  rw [execRamByteTest]
  split
  case h_1 n at_ => exact absurd at_ (stage n)
  case h_2 => rfl

/-- R166: the check of the engine, as what must hold. -/
theorem State.ramTestChecks_eq : firstOf s.ramTestChecks =
    if (s.eng.cond = .idle ∨ s.eng.cond = .faulted) ∧ s.fmu.motion = none then none else some (refusal .engineBusy) := by
  cases motion : s.fmu.motion <;> cases cond : s.eng.cond <;> simp [State.ramTestChecks, motion, cond]

/-- Settles O43, by the patterns as the list of those that the byte is tried with. -/
theorem ramTestTriesEveryByte : Obligations.RamTestTriesEveryByte := by
  refine ⟨fun s r b => ?_, fun s n answer inService stage inRange notSense => ?_,
    fun s answer stage => exec_ramByteTest_idle stage answer⟩
  · have gate : s.eng.cond ≠ .faulted ∨ (0x61 : Byte) ∈ faultGateCodes := .inr (by decide)
    have ranges : s.ranges s.csq.block = [] := by simp [State.ranges, r.code]
    refine ⟨fun cond motion => ?_, fun busy => ?_⟩
    · rw [exec_ramTest r.1, State.plain_acts r gate b]
      rw [ranges, List.nil_append, State.ramTestChecks_eq, if_pos ⟨cond, motion⟩]
    · refine State.refusesPlain r (by decide) gate (exec_ramTest r.1) ?_
      rw [ranges, List.nil_append, State.ramTestChecks_eq, if_neg (by tauto)]
      rfl
  · intro pattern readsBack
    have patterns : ∀ i < 18, byteAt ramPatterns i = pattern i := by decide
    have passes : patternsReadBack ramPatterns answer.differs = true ↔ ∀ i < 18, readsBack i :=
      patternsReadBack_iff.trans (forall₂_congr fun i less => by rw [patterns i less])
    rw [exec_ramByteTest inService stage inRange]
    refine ⟨fun good => ⟨_, rfl, ?_⟩, fun bad => ⟨_, rfl, ?_⟩⟩
    · rw [State.testByte, if_pos (passes.mpr good), State.bytePasses]
      by_cases last : n = 51199
      · have ended : n + 1 = Config.ramBytes := congrArg (· + 1) last
        rw [if_pos ended, if_pos last]
        exact ⟨s.finish_sameEngine _, State.finish_endsWith notSense _⟩
      have goesOn : ¬ n + 1 = Config.ramBytes := fun h => last (Nat.succ.inj h)
      rw [if_neg goesOn, if_neg last]
      cases s.hpu.breakPending with
      | true => exact ⟨s.finish_sameEngine _, State.finish_endsWith notSense _⟩
      | false => exact ⟨State.SameEngine.refl _, rfl, rfl⟩
    · rw [State.testByte, if_neg (mt passes.mp bad), State.byteFails]
      refine ⟨?_, State.finish_endsWith notSense _, ?_, fun a other => ?_⟩
      · simp [State.SameEngine]
      · simpa using Memory.read_written s.ram (base := n) (bytes := [s.ram.read n ^^^ answer.left]) (i := 0) (by simp)
      · simpa using Memory.read_elsewhere s.ram (base := n) (bytes := [s.ram.read n ^^^ answer.left]) (a := a)
          (by simp; omega)

/-! ### The machine right after reset -/

theorem reset_recordsWf : State.reset.RecordsWf := by
  refine ⟨by unfold Profile.WellFormed; decide, by unfold Mechanism.WellFormed; decide, by unfold Agrees; decide, ?_⟩
  intro c none
  cases none

theorem reset_portWf : State.reset.PortWf := by
  simp [State.PortWf, State.reset]

theorem reset_entry (id : Nat) : State.reset.gst.entry id = .blank := by
  simp only [Gst.entry, State.reset, List.getD_eq_getElem?_getD, List.getElem?_replicate]
  split <;> rfl

theorem reset_gstWf : State.reset.gst.Wf := by
  have empty (id : Nat) : (State.reset.gst.entry id).state = .empty := by rw [reset_entry]; rfl
  exact ⟨rfl, ⟨by decide, by decide⟩, ⟨fun id _ used => absurd (empty id) used, by decide⟩,
    fun id _ used => absurd (empty id) used, trivial⟩

theorem reset_glyphsWf : State.reset.GlyphsWf :=
  ⟨reset_gstWf, by simp [State.WorkWf, State.reset], reset_portWf⟩

/-- Settles O60. -/
theorem resetMeetsTheInvariants : Obligations.ResetMeetsTheInvariants := by
  refine ⟨⟨rfl, reset_recordsWf, by unfold Eng.QueueWf; decide, reset_portWf, reset_glyphsWf, rfl⟩, ?_⟩
  exact ⟨by decide, rfl, rfl, rfl, ⟨rfl, by decide, rfl⟩, by decide, rfl, by decide, by decide, fun a => rfl, by decide, rfl⟩

end Sys2Proof.Machine

end

section
/-! The strobes of a line (R99 to R103): the passes, and how long each dot is heated. -/

namespace Sys2Proof.Machine

/-- R102: every segment is driven in one pass of a phase, so a phase heats a dot of its line once. -/
theorem passSegments_heat (dots limit micros : Nat) (on : Bool) {segment : Nat} (h : segment < 4) :
    ((passSegments dots limit).map fun p => if on && p.contains segment then micros else 0).sum =
      if on then micros else 0 := by
  cases on with
  | false => simp
  | true =>
    rw [passSegments]
    rw [if_pos rfl]
    split_ifs <;> interval_cases segment <;> simp

/-- R99: a dot is Fresh when it prints and did not print before. -/
theorem freshDots_dot {line history : Line} {byte bit : Nat} (line_length : line.length = 104)
    (history_length : history.length = 104) (inLine : byte < 104) (inByte : bit < 8) :
    (byteAt (freshDots line history) byte).getLsbD bit =
      ((byteAt line byte).getLsbD bit && !(byteAt history byte).getLsbD bit) := by
  simp [freshDots, byteAt, line_length, history_length, inLine, inByte]

/-- Settles O48. -/
theorem everyDotIsHeatedForItsTime : Obligations.EveryDotIsHeatedForItsTime := by
  refine ⟨fun dots limit => ⟨?_, rfl⟩, fun s i => ?_, fun line history dots limit full held x line_length history_length
    inLine shorter => ?_, fun darkness t => ⟨rfl, rfl⟩, fun s i dots line => ⟨rfl, rfl, rfl, fun none => ?_, fun some => ?_⟩⟩
  · rw [passSegments]
    split_ifs <;> decide
  · intro blank
    refine ⟨fun first => if_pos first, fun stopped => ?_, fun passed later clock => ?_⟩
    · simp only [State.historyFor, stopped]
      exact ite_self _
    · simp only [State.historyFor, clock]
      exact if_neg (by omega)
  · intro on heat
    have segment : x / 208 < 4 := by omega
    have fresh : on (freshDots line history) = (on line && !on history) :=
      freshDots_dot line_length history_length (by omega) (by omega)
    have phases : heat = (if on line then held else 0) + if on (freshDots line history) then full - held else 0 := by
      rw [← passSegments_heat dots limit held (on line) segment,
        ← passSegments_heat dots limit (full - held) (on (freshDots line history)) segment, ← List.sum_append]
      simp only [heat, strobePulses, List.map_append, List.map_map]
      rfl
    rw [phases, fresh]
    cases on line <;> cases on history <;> simp [shorter]
  · simp [State.strobeLine, none]
  · have : dots ≠ 0 := by omega
    simp [State.strobeLine, this]

end Sys2Proof.Machine

end

section
/-! Opening a label, its placements, and its closing (R64 to R72, R86). -/

namespace Sys2Proof.Machine

variable {s : State} {code : Byte} {e : Ending}

/-! ### The open label and the free slot -/

theorem Lbq.openLabel_some {q : Lbq} {slot : Nat} {l : Label} (opened : q.openSlot = some slot)
    (label : q.label slot = some l) : q.openLabel = some l := by
  rw [Lbq.openLabel, opened]
  exact label

theorem Lbq.openLabel_none {q : Lbq} (closed : q.openSlot = none) : q.openLabel = none := by
  rw [Lbq.openLabel, closed]
  rfl

/-- R64: the lowest-numbered slot that no label holds. -/
theorem Lbq.freeSlot_eq_some {q : Lbq} {slot : Nat} (inRange : slot < 8) (free : q.label slot = none)
    (lower : ∀ j < slot, q.label j ≠ none) : q.freeSlot = some slot := by
  rw [Lbq.freeSlot, List.find?_range_eq_some]
  refine ⟨by rw [free]; rfl, List.mem_range.mpr inRange, fun j less => ?_⟩
  simpa [Option.isSome_iff_ne_none] using lower j less

theorem Lbq.freeSlot_eq_none {q : Lbq} : q.freeSlot = none ↔ ∀ i < 8, q.label i ≠ none := by
  rw [Lbq.freeSlot, List.find?_range_eq_none]
  simp [Config.labelSlots, Option.isSome_iff_ne_none]

/-- R24, R31: the commit of a command without a payload, with what follows it. -/
theorem State.commitsPlain {row : Instr} {checks : List (Bool × Ending)} {effect : State → State × Ending}
    (r : s.Ready code) (notSense : code ≠ 0x12) (c : s.Clear)
    (runs : exec row s = .next (s.plain code checks (State.completeAfter effect)))
    (passes : firstOf (s.ranges s.csq.block ++ checks) = none) {u : State} (is : effect s = (u, e)) (hpu : u.hpu = s.hpu)
    (csq : u.csq = s.csq) : ∃ t, exec row s = .next t ∧ s.EndsWith t e ∧ u.OnlyFollows t := by
  obtain ⟨acts, ends, follows⟩ := State.completes (effect := effect) r notSense (.inl c.1) c.2 passes
    (by rw [is]; exact hpu) (by rw [is]; exact csq)
  rw [is] at ends follows
  exact ⟨_, runs.trans (congrArg _ acts), ends, follows⟩

/-! ### OPEN LABEL -/

theorem exec_openLabel (h : s.InService) :
    exec .openLabel s = .next (s.plain 0x41 s.openChecks (State.completeAfter State.commitOpen)) :=
  congrArg Host.Outcome.next (State.served_inService h _)

/-- R64: the length fits a label of this profile. -/
abbrev State.LengthFits (s : State) : Prop :=
  8 ≤ num16 s.csq.block 4 ∧ num16 s.csq.block 4 ≤ 4096 ∧
    (s.nvs.profile.mode ≠ .continuous → num16 s.csq.block 4 ≤ s.nvs.profile.pitch - s.nvs.profile.gap)

/-- R64: the ranges of OPEN LABEL, in byte order. -/
theorem State.openLabel_ranges (r : s.Ready 0x41) : firstOf (s.ranges s.csq.block) =
    if ¬ s.LengthFits then some (badParameter 4)
    else if num8 s.csq.block 6 = 0 then some (badParameter 6) else none := by
  have ranges : s.ranges s.csq.block = s.openLabelRanges s.csq.block := by simp [State.ranges, r.code]
  by_cases bounds : 8 ≤ num16 s.csq.block 4 ∧ num16 s.csq.block 4 ≤ 4096
  · by_cases fits : s.nvs.profile.mode ≠ .continuous →
        num16 s.csq.block 4 ≤ s.nvs.profile.pitch - s.nvs.profile.gap
    · have within : s.LengthFits := ⟨bounds.1, bounds.2, fits⟩
      rw [ranges, if_neg (not_not_intro within)]
      have long : (s.nvs.profile.mode != .continuous &&
          decide (s.nvs.profile.pitch - s.nvs.profile.gap < num16 s.csq.block 4)) = false := by
        simpa using fits
      simp [State.openLabelRanges, outside_eq, bounds, long]
    · have beyond : ¬ s.LengthFits := fun h => fits h.2.2
      rw [ranges, if_pos beyond]
      have long : (s.nvs.profile.mode != .continuous &&
          decide (s.nvs.profile.pitch - s.nvs.profile.gap < num16 s.csq.block 4)) = true := by
        simpa using fits
      simp [State.openLabelRanges, outside_eq, bounds, long]
  · have beyond : ¬ s.LengthFits := fun h => bounds ⟨h.1, h.2.1⟩
    rw [ranges, if_pos beyond]
    simp [State.openLabelRanges, outside_eq, bounds]

/-- Settles O31. -/
theorem openLabelFillsAFreeSlot : Obligations.OpenLabelFillsAFreeSlot := by
  refine ⟨fun s slot r c inRange => ?_, fun s r c => ?_⟩
  · intro b least most fits copies closed free lower
    have found := Lbq.freeSlot_eq_some inRange free lower
    have passes : firstOf (s.ranges b ++ s.openChecks) = none := by
      rw [firstOf_append, State.openLabel_ranges r, if_neg (not_not_intro ⟨least, most, fits⟩),
        if_neg (Nat.ne_of_gt copies), Option.none_or]
      simp [State.openChecks, Lbq.openLabel_none closed, found]
    have is : s.commitOpen = ({ s with lbq := s.lbq.setLabel slot (some (freshLabel s.csq.block)) }, .ok) := by
      simp only [State.commitOpen, found]
    exact State.commitsPlain r (by decide) c (exec_openLabel r.1) passes is rfl rfl
  · intro b bad ends fits
    have refuses {e : Ending} (fails : firstOf (s.ranges b ++ s.openChecks) = some e) : ends e :=
      State.refusesPlain r (by decide) (.inl c.1) (exec_openLabel r.1) fails
    have checked (within : fits) (copies : 1 ≤ num8 b 6) :
        firstOf (s.ranges b ++ s.openChecks) = firstOf s.openChecks := by
      rw [firstOf_append, State.openLabel_ranges r, if_neg (not_not_intro within), if_neg (Nat.ne_of_gt copies),
        Option.none_or]
    refine ⟨fun beyond => refuses ?_, fun within copies => refuses ?_, fun l within copies opened => refuses ?_,
      fun within copies closed full => refuses ?_⟩
    · rw [firstOf_append, State.openLabel_ranges r, if_pos beyond]
      rfl
    · rw [firstOf_append, State.openLabel_ranges r, if_neg (not_not_intro within), if_pos copies]
      rfl
    · rw [checked within copies, State.openChecks, opened]
      rfl
    · rw [checked within copies, State.openChecks, closed, Lbq.freeSlot_eq_none.mpr full]
      rfl

/-! ### What a placement costs and covers -/

/-- Table 5-6: the corner of a text's glyph, by the turns, where the pen stands at its start. -/
def textCorner (turns : Nat) (x y pen wide : Int) : Int × Int :=
  match turns % 4 with
  | 0 => (pen, y)
  | 1 => (x, pen)
  | 2 => (pen - wide + 1, y)
  | _ => (x, pen - wide + 1)

/-- R94: the pen after it has moved so far along the baseline. -/
def penMoved (turns : Nat) (pen moved : Int) : Int := if turns % 4 < 2 then pen + moved else pen - moved

theorem penMoved_zero (turns : Nat) (pen : Int) : penMoved turns pen 0 = pen := by simp [penMoved]

theorem penMoved_add (turns : Nat) (pen a b : Int) :
    penMoved turns (penMoved turns pen a) b = penMoved turns pen (a + b) := by
  simp only [penMoved]
  split <;> omega

/-- R94: a text is its first glyph, and the rest of it from where the pen then stands. -/
theorem textLayout_cons (g : Gst) (t : Transform) (spacing x y pen : Int) (id : Nat) (rest : List Nat) :
    textLayout g t spacing x y pen (id :: rest) =
      (id, glyphFootprint (g.entry id) t (textCorner t.turns x y pen (scaledWidth (g.entry id) t)).1
        (textCorner t.turns x y pen (scaledWidth (g.entry id) t)).2) ::
      textLayout g t spacing x y (penMoved t.turns pen (scaledWidth (g.entry id) t + spacing)) rest := by
  have less := Nat.mod_lt t.turns (by decide : 0 < 4)
  rw [textLayout]
  simp only [textCorner, penMoved]
  generalize t.turns % 4 = turns at *
  interval_cases turns <;> rfl

/-- R94: each glyph of a text stands where the pen has come along the baseline. -/
theorem mem_textLayout {g : Gst} {t : Transform} {spacing x y : Int} : ∀ {ids : List Nat} {pen : Int}
    {f : Nat × Footprint}, f ∈ textLayout g t spacing x y pen ids ↔
      ∃ before id after, ids = before ++ id :: after ∧
        f = (id, glyphFootprint (g.entry id) t
          (textCorner t.turns x y (penMoved t.turns pen
            (before.map fun i => (scaledWidth (g.entry i) t : Int) + spacing).sum) (scaledWidth (g.entry id) t)).1
          (textCorner t.turns x y (penMoved t.turns pen
            (before.map fun i => (scaledWidth (g.entry i) t : Int) + spacing).sum) (scaledWidth (g.entry id) t)).2) := by
  intro ids
  induction ids with
  | nil => simp [textLayout]
  | cons first rest ih =>
    intro pen f
    rw [textLayout_cons, List.mem_cons, ih]
    constructor
    · rintro (rfl | ⟨before, id, after, rfl, rfl⟩)
      · exact ⟨[], first, rest, rfl, by simp [penMoved_zero]⟩
      · exact ⟨first :: before, id, after, rfl, by simp [penMoved_add]⟩
    · rintro ⟨before, id, after, split, rfl⟩
      cases before with
      | nil =>
        obtain ⟨rfl, rfl⟩ := List.cons.inj split
        exact .inl (by simp [penMoved_zero])
      | cons head before =>
        obtain ⟨rfl, rfl⟩ := List.cons.inj split
        exact .inr ⟨before, id, after, rfl, by simp [penMoved_add]⟩

theorem Footprint.outside_iff {f : Footprint} {length : Nat} : f.outside length = true ↔
    f.x < 0 ∨ f.y < 0 ∨ (832 : Int) < f.x + f.width ∨ (length : Int) < f.y + f.height := decide_eq_true_iff

/-- R66: an area, or a glyph at its place, is clipped when it runs past the head or the label's end. -/
theorem Footprint.outside_at {x y w h length : Nat} : (⟨x, y, w, h⟩ : Footprint).outside length = true ↔
    832 < x + w ∨ length < y + h := by
  rw [Footprint.outside_iff]
  simp only
  omega

/-- R93: how far a glyph's footprint reaches across and down. -/
theorem glyphFootprint_eq (e : Glyph) (t : Transform) (x y : Int) : glyphFootprint e t x y =
    ⟨x, y, if t.turns % 2 = 0 then e.width * t.hm else e.height * t.vm,
      if t.turns % 2 = 0 then e.height * t.vm else e.width * t.hm⟩ := by
  rw [glyphFootprint]
  split <;> rfl

/-- R66: a text is clipped when one of its glyphs is. -/
theorem text_clipped_iff {g : Gst} {length x y op : Nat} {form : Transform} {spacing : Int} {ids : List Nat} :
    (Placement.text x y op form spacing ids).clipped g length = true ↔
      ∃ f ∈ textLayout g form spacing x y (penStart form x y) ids, f.2.outside length = true := by
  simp [Placement.clipped, Placement.footprints]

theorem text_clipped {g : Gst} {length x y op : Nat} {form : Transform} {spacing : Int} {ids : List Nat} :
    (Placement.text x y op form spacing ids).clipped g length = true ↔
      ∃ before id after, ids = before ++ id :: after ∧
        (glyphFootprint (g.entry id) form
          (textCorner form.turns x y (penMoved form.turns (penStart form x y)
            (before.map fun i => (scaledWidth (g.entry i) form : Int) + spacing).sum) (scaledWidth (g.entry id) form)).1
          (textCorner form.turns x y (penMoved form.turns (penStart form x y)
            (before.map fun i => (scaledWidth (g.entry i) form : Int) + spacing).sum)
              (scaledWidth (g.entry id) form)).2).outside length = true := by
  rw [text_clipped_iff]
  constructor
  · rintro ⟨f, mem, out⟩
    obtain ⟨before, id, after, split, rfl⟩ := mem_textLayout.mp mem
    exact ⟨before, id, after, split, out⟩
  · rintro ⟨before, id, after, split, out⟩
    exact ⟨_, mem_textLayout.mpr ⟨before, id, after, split, rfl⟩, out⟩

/-! ### Checks of a placement -/

/-- R65 item 3, R47, R63: the checks that a placement's glyphs and its cost add, at its commit. -/
def State.commitChecks (s : State) (p : Placement) : List (Bool × Ending) :=
  s.definedCheck p.uses ++ s.placementResources p

/-- R68: the first glyph that is not DEFINED refuses the placement. -/
theorem State.commitChecks_undefined {p : Placement} {id : Nat}
    (undefined : (p.uses.find? fun id => decide ((s.gst.entry id).state ≠ .defined)) = some id) :
    firstOf (s.commitChecks p) = some (.error .glyphUndefined none (.glyph id)) := by
  simp only [State.commitChecks, State.definedCheck, undefined]
  rfl

theorem State.commitChecks_defined {p : Placement}
    (defined : (p.uses.find? fun id => decide ((s.gst.entry id).state ≠ .defined)) = none) :
    s.commitChecks p = s.placementResources p := by
  simp only [State.commitChecks, State.definedCheck, defined]
  rfl

/-- R47: then the first whose references would pass the limit. -/
theorem State.commitChecks_past {p : Placement} {id : Nat}
    (defined : (p.uses.find? fun id => decide ((s.gst.entry id).state ≠ .defined)) = none)
    (past : (p.uses.find? fun id => decide (65535 < (s.gst.entry id).count + p.uses.count id)) = some id) :
    firstOf (s.commitChecks p) = some (.error .glyphLimit none (.glyph id)) := by
  have limit : s.gst.overLimit p.uses = some id := past
  rw [State.commitChecks_defined defined, State.placementResources, limit]
  rfl

/-- R63: then the pool. -/
theorem State.commitChecks_full {p : Placement}
    (defined : (p.uses.find? fun id => decide ((s.gst.entry id).state ≠ .defined)) = none)
    (within : (p.uses.find? fun id => decide (65535 < (s.gst.entry id).count + p.uses.count id)) = none)
    (pool : s.lbq.poolFree < p.cost / 8) : firstOf (s.commitChecks p) =
      some (.error .placementPoolFull (s.lbq.openLabel.map (·.number)) (.detail (BitVec.ofNat 32 p.cost))) := by
  have under : s.gst.overLimit p.uses = none := within
  rw [State.commitChecks_defined defined, State.placementResources, under, decide_eq_true pool]
  rfl

theorem State.commitChecks_pass {p : Placement}
    (defined : (p.uses.find? fun id => decide ((s.gst.entry id).state ≠ .defined)) = none)
    (within : (p.uses.find? fun id => decide (65535 < (s.gst.entry id).count + p.uses.count id)) = none)
    (pool : p.cost / 8 ≤ s.lbq.poolFree) : firstOf (s.commitChecks p) = none := by
  have under : s.gst.overLimit p.uses = none := within
  rw [State.commitChecks_defined defined, State.placementResources, under, decide_eq_false (Nat.not_lt.mpr pool)]
  rfl

theorem exec_placeGlyph (h : s.InService) : exec .placeGlyph s = .next (s.plain 0x42
    (s.placementChecks ++ s.commitChecks (glyphPlacement s.csq.block))
    (State.completeAfter fun t => t.commitPlacement (glyphPlacement s.csq.block))) := by
  rw [State.commitChecks, ← List.append_assoc]
  exact congrArg Host.Outcome.next (State.served_inService h _)

/-- A rule names no glyph. -/
theorem exec_placeRule (h : s.InService) : exec .placeRule s = .next (s.plain 0x44
    (s.placementChecks ++ s.commitChecks (rulePlacement s.csq.block))
    (State.completeAfter fun t => t.commitPlacement (rulePlacement s.csq.block))) :=
  congrArg Host.Outcome.next (State.served_inService h _)

/-- R65, R69: the checks of PLACE RULE before the pool, each as what must hold. -/
theorem State.placeRule_required (r : s.Ready 0x44) :
    s.ranges s.csq.block ++ s.placementChecks =
      ([(decide (num16 s.csq.block 2 ≤ 831), s.outsideLabel 2),
        (s.lbq.openLabel.all fun l => decide (num16 s.csq.block 4 < l.length), s.outsideLabel 4),
        (decide (1 ≤ num16 s.csq.block 6 ∧ num16 s.csq.block 6 ≤ 832), badParameter 6),
        (decide (1 ≤ num16 s.csq.block 8 ∧ num16 s.csq.block 8 ≤ 4096), badParameter 8),
        (decide (num8 s.csq.block 10 ≤ 15), badParameter 10),
        (s.lbq.openSlot.isSome, .error .noOpenLabel none .nothing),
        (s.lbq.openLabel.all fun l => decide (l.placements.length < 255), badParameter 0)] :
          List (Bool × Ending)).map fun c => (!c.1, c.2) := by
  have ranges : s.ranges s.csq.block = s.placeAreaRanges s.csq.block := by simp [State.ranges, r.code]
  rw [ranges, State.placeAreaRanges, s.originRanges_required, s.placementChecks_required]
  simp only [List.map_cons, List.map_nil, outside_eq, decide_lt_eq]
  rfl

/-- R65, R67: the same of PLACE GLYPH, before its glyph is looked at. -/
theorem State.placeGlyph_required (r : s.Ready 0x42) :
    s.ranges s.csq.block ++ s.placementChecks =
      ([(decide (num8 s.csq.block 2 ≤ 63), badParameter 2), (decide (num16 s.csq.block 3 ≤ 831), s.outsideLabel 3),
        (s.lbq.openLabel.all fun l => decide (num16 s.csq.block 5 < l.length), s.outsideLabel 5),
        (decide (num8 s.csq.block 7 ≤ 15), badParameter 7),
        (s.lbq.openSlot.isSome, .error .noOpenLabel none .nothing),
        (s.lbq.openLabel.all fun l => decide (l.placements.length < 255), badParameter 0)] :
          List (Bool × Ending)).map fun c => (!c.1, c.2) := by
  have ranges : s.ranges s.csq.block = s.placeGlyphRanges s.csq.block := by simp [State.ranges, r.code]
  rw [ranges, State.placeGlyphRanges, s.originRanges_required, s.placementChecks_required]
  simp only [glyphIdRange, List.map_cons, List.map_nil, decide_lt_eq]
  rfl

/-- The first check that fails, of a list whose head is checked as what must hold. -/
theorem firstOf_head {l before after rest : List (Bool × Ending)} {all : List (Bool × Ending)}
    (required : all = l.map fun c => (!c.1, c.2)) (split : l = before ++ (false, e) :: after)
    (passed : ∀ f ∈ before, f.1 = true) : firstOf (all ++ rest) = some e := by
  rw [firstOf_append, required, firstOf_required split passed]
  rfl

/-- The same, by the place of the check that fails. -/
theorem firstOf_at (i : Nat) {l all rest : List (Bool × Ending)} {holds : Bool}
    (required : all = l.map fun c => (!c.1, c.2)) (place : l[i]? = some (holds, e)) (fails : holds = false)
    (passed : ∀ f ∈ l.take i, f.1 = true) : firstOf (all ++ rest) = some e := by
  obtain ⟨less, is⟩ := List.getElem?_eq_some_iff.mp place
  refine firstOf_head (after := l.drop (i + 1)) required ?_ passed
  rw [← fails, ← is, List.getElem_cons_drop, List.take_append_drop]

/-- R68: the first id of the list that is above 63. -/
theorem firstOf_idFields {ids : List Byte} {k : Nat} (inList : k < ids.length) (above : 63 < num8 ids k)
    (first : ∀ j < k, num8 ids j ≤ 63) : firstOf (idFields ids) = some (badParameter (12 + k)) := by
  have at_ {j : Nat} (less : j < ids.length) : num8 ids j = ids[j].toNat := by simp [num8, byteAt, less]
  have split : ids.zipIdx = (ids.take k).zipIdx ++ (ids[k], k) :: (ids.drop (k + 1)).zipIdx (k + 1) := by
    conv => lhs; rw [← List.take_append_drop k ids, List.drop_eq_getElem_cons inList]
    rw [List.zipIdx_append, List.zipIdx_cons, List.length_take, Nat.min_eq_left inList.le, Nat.zero_add]
  have none : firstOf ((ids.take k).zipIdx.map fun b => (decide (63 < b.1.toNat), badParameter (12 + b.2))) = none := by
    rw [firstOf_eq_none]
    rintro f mem
    obtain ⟨⟨b, j⟩, inFirst, rfl⟩ := List.mem_map.mp mem
    obtain ⟨-, less, is⟩ := List.mem_zipIdx inFirst
    have less : j < k := by simp at less; omega
    have le := first j less
    rw [at_ (less.trans inList)] at le
    have is : b = ids[j]'(less.trans inList) := by simpa using is
    refine decide_eq_false ?_
    show ¬ 63 < b.toNat
    rw [is]
    omega
  rw [at_ inList] at above
  rw [idFields, split, List.map_append, firstOf_append, none, List.map_cons]
  simp [above]

theorem State.definedCheck_nil (s : State) : s.definedCheck [] = [] := rfl

/-- Settles O33. -/
theorem placementsAreCostedAndRefusedInOrder : Obligations.PlacementsAreCostedAndRefusedInOrder := by
  refine ⟨⟨fun _ _ _ _ _ => rfl, fun _ _ _ _ _ _ => rfl, fun _ _ _ _ _ => rfl, fun _ _ _ _ _ _ => rfl, ?_, ?_, ?_, ?_⟩,
    fun s r c => ?_, fun s k r c good inList above first => ?_, fun s r c => ?_⟩
  · intro g length x y w h op
    simp [Placement.clipped, Placement.footprints, Footprint.outside_at]
  · intro g length x y w h op bitmap
    simp [Placement.clipped, Placement.footprints, Footprint.outside_at]
  · intro g length id x y op form e across down
    rw [Placement.clipped, Placement.footprints, glyphFootprint_eq, List.any_cons, List.any_nil, Bool.or_false]
    exact Footprint.outside_at
  · intro g length x y op form spacing ids wide high
    rw [text_clipped]
    refine exists₃_congr fun before id after => and_congr_right fun _ => ?_
    have less := Nat.mod_lt form.turns (by decide : 0 < 4)
    have parity : form.turns % 2 = form.turns % 4 % 2 := by omega
    rw [glyphFootprint_eq, Footprint.outside_iff, parity]
    simp only [textCorner, penMoved, penStart, parity]
    generalize form.turns % 4 = turns at less
    interval_cases turns <;> rfl
  · intro b number outside bad ends low
    have refuses {e : Ending} (fails : firstOf (s.ranges b ++ s.placementChecks ++ s.commitChecks (rulePlacement b)) =
        some e) : ends e :=
      State.refusesPlain r (by decide) (.inl c.1) (exec_placeRule r.1) (by rwa [← List.append_assoc])
    have required := State.placeRule_required r
    have isLow : (s.lbq.openLabel.all fun l => decide (num16 b 4 < l.length)) = true ↔ low := by
      simp [low, Option.all_eq_true]
    refine ⟨fun far => refuses ?_, fun x high => refuses ?_, fun x y width => refuses ?_,
      fun x y wide width height => refuses ?_, fun x y wide width tall height => ⟨fun combine => refuses ?_,
        fun combine closed => refuses ?_, fun slot l combine opened label => ⟨fun full => refuses ?_,
          fun room pool => refuses ?_⟩⟩⟩
    · exact firstOf_at 0 required rfl (decide_eq_false (Nat.not_le.mpr far)) (by simp)
    · exact firstOf_at 1 required rfl (Bool.eq_false_iff.mpr (mt isLow.mp high)) (by simpa using x)
    · exact firstOf_at 2 required rfl (decide_eq_false (show ¬ (1 ≤ num16 b 6 ∧ num16 b 6 ≤ 832) by omega))
        (by simpa using ⟨x, isLow.mpr y⟩)
    · exact firstOf_at 3 required rfl (decide_eq_false (show ¬ (1 ≤ num16 b 8 ∧ num16 b 8 ≤ 4096) by omega))
        (by simpa using ⟨x, isLow.mpr y, wide, width⟩)
    · exact firstOf_at 4 required rfl (decide_eq_false (Nat.not_le.mpr combine))
        (by simpa using ⟨x, isLow.mpr y, ⟨wide, width⟩, tall, height⟩)
    · exact firstOf_at 5 required rfl (by rw [closed]; rfl)
        (by simpa using ⟨x, isLow.mpr y, ⟨wide, width⟩, ⟨tall, height⟩, combine⟩)
    · exact firstOf_at 6 required rfl (by rw [Lbq.openLabel_some opened label]; exact decide_eq_false (Nat.not_lt.mpr full))
        (by simpa [opened] using ⟨x, isLow.mpr y, ⟨wide, width⟩, ⟨tall, height⟩, combine⟩)
    · have none : firstOf (s.ranges b ++ s.placementChecks) = none := by
        rw [required, firstOf_eq_none]
        simpa [opened, Lbq.openLabel_some opened label, room] using
          ⟨x, y l (Lbq.openLabel_some opened label), ⟨wide, width⟩, ⟨tall, height⟩, combine⟩
      rw [firstOf_append, none, Option.none_or,
          State.commitChecks_full (p := rulePlacement b) rfl rfl (by simpa [rulePlacement, Placement.cost] using pool), Lbq.openLabel_some opened label]
      rfl
  · refine State.refusesAgain r (by decide) good (exec_placeText r.1) ?_
    rw [List.append_assoc, List.append_assoc, firstOf_append, firstOf_idFields inList above first]
    rfl
  · intro b bad outside checks before e after split passed
    refine State.refusesPlain r (by decide) (.inl c.1) (exec_placeGlyph r.1) ?_
    rw [← List.append_assoc]
    exact firstOf_head (State.placeGlyph_required r) split passed

/-! ### The commit of a placement -/

/-- What each of the four rows does once its ranges and its payload's fields are met, and a label is open that has room. -/
abbrev State.Places (s : State) (row : Instr) (p : Placement) : Prop :=
  (∀ e, firstOf (s.commitChecks p) = some e → ∃ t, exec row s = .next t ∧ s.SameEngine t ∧ s.EndsWith t e) ∧
  (firstOf (s.commitChecks p) = none →
    ∃ t, exec row s = .next t ∧ s.EndsWith t (s.commitPlacement p).2 ∧ (s.commitPlacement p).1.OnlyFollows t)

/-- A placement without a payload. -/
theorem State.places_plain {row : Instr} {p : Placement} (r : s.Ready code) (notSense : code ≠ 0x12) (c : s.Clear)
    (runs : exec row s = .next (s.plain code (s.placementChecks ++ s.commitChecks p)
      (State.completeAfter fun t => t.commitPlacement p)))
    (passes : firstOf (s.ranges s.csq.block ++ s.placementChecks) = none) : s.Places row p := by
  have checks : firstOf (s.ranges s.csq.block ++ (s.placementChecks ++ s.commitChecks p)) = firstOf (s.commitChecks p) := by
    rw [← List.append_assoc, firstOf_append, passes, Option.none_or]
  exact ⟨fun e fails => State.refusesPlain r notSense (.inl c.1) runs (checks.trans fails),
    fun met => State.commitsPlain r notSense c runs (checks.trans met) rfl (by simp) (by simp)⟩

/-- A placement with a payload. -/
theorem State.places_payload {row : Instr} {p : Placement} {fields : List (Bool × Ending)} {length : Nat}
    (r : s.ReadyAgain code) (notSense : code ≠ 0x12) (c : s.Clear) (good : s.CrcGood)
    (runs : exec row s = .next (s.withPayload code s.placementChecks length (fields ++ s.placementChecks ++ s.commitChecks p)
      (State.completeAfter fun t => t.commitPlacement p)))
    (passes : firstOf (fields ++ s.placementChecks) = none) : s.Places row p := by
  have checks : firstOf (fields ++ s.placementChecks ++ s.commitChecks p) = firstOf (s.commitChecks p) := by
    rw [firstOf_append, passes, Option.none_or]
  refine ⟨fun e fails => State.refusesAgain r notSense good runs (checks.trans fails), fun met => ?_⟩
  obtain ⟨acts, ends, follows⟩ := State.completesAgain (checks := s.placementChecks) (length := length)
    (effect := fun t => t.commitPlacement p) r notSense good c.2 (checks.trans met) (by simp) (by simp)
  exact ⟨_, runs.trans (congrArg _ acts), ends, follows⟩

theorem firstOf_idFields_pass {ids : List Byte} (within : ∀ i ∈ ids, i.toNat ≤ 63) : firstOf (idFields ids) = none := by
  rw [firstOf_eq_none]
  rintro f mem
  obtain ⟨⟨b, j⟩, inList, rfl⟩ := List.mem_map.mp mem
  exact decide_eq_false (Nat.not_lt.mpr (within b (List.fst_mem_of_mem_zipIdx inList)))

/-- R71: the commit, for the open label. -/
theorem State.commitPlacement_eq {slot : Nat} {l : Label} (opened : s.lbq.openSlot = some slot)
    (label : s.lbq.label slot = some l) (p : Placement) : s.commitPlacement p =
      ({ s with
          gst := s.gst.addReferences p.uses
          lbq := { s.lbq with
            slots := s.lbq.slots.set slot (some { l with
              placements := l.placements ++ [p], granules := l.granules + p.cost / 8 })
            poolFree := s.lbq.poolFree - p.cost / 8 } },
        if p.clipped s.gst l.length then .notice 1 else .ok) := by
  have is := Lbq.openLabel_some opened label
  simp only [State.commitPlacement, State.storePlacement, opened, is]
  rfl

/-- R47: the count of each id rises by its occurrences. -/
theorem Gst.entry_addReferences (g : Gst) (ids : List Nat) {id : Nat} (h : id < g.entries.length) :
    (g.addReferences ids).entry id = { g.entry id with count := (g.entry id).count + ids.count id } := by
  simp [Gst.entry, Gst.addReferences, h]

/-- Settles O32: each of the four rows ends its checks alike, and commits alike. -/
theorem placementsJoinTheOpenLabel : Obligations.PlacementsJoinTheOpenLabel := by
  refine ⟨fun _ _ _ _ _ => rfl, fun _ _ _ _ _ _ => rfl, fun _ _ _ _ _ => rfl, fun _ _ _ _ _ _ => rfl, ?_⟩
  intro s slot l row p c opened label room b asked undefined past ends
  have isOpen := Lbq.openLabel_some opened label
  have met : firstOf s.placementChecks = none := State.placementChecks_pass opened label room
  have places : s.Places row p := by
    rcases asked with ⟨rfl, r, id, x, y, op, rfl⟩ | ⟨rfl, r, good, ids, rfl⟩ | ⟨rfl, r, x, y, wide, width, tall, height, op, rfl⟩ |
      ⟨rfl, r, good, rfl⟩
    · refine State.places_plain r (by decide) c (exec_placeGlyph r.1) ?_
      rw [State.placeGlyph_required r, firstOf_eq_none]
      simpa [opened, isOpen, room] using ⟨id, x, y, op⟩
    · refine State.places_payload (fields := idFields s.csq.body) (length := num8 b 9 + 2) r (by decide) c good
        ((exec_placeText r.1).trans ?_) ?_
      · rw [List.append_assoc _ (s.definedCheck _)]
        rfl
      · rw [firstOf_append, firstOf_idFields_pass ids, Option.none_or, met]
    · refine State.places_plain r (by decide) c (exec_placeRule r.1) ?_
      rw [State.placeRule_required r, firstOf_eq_none]
      simpa [opened, isOpen, room] using ⟨x, y, ⟨wide, width⟩, ⟨tall, height⟩, op⟩
    · exact State.places_payload (fields := []) r (by decide) c good (exec_placeImage r.1) met
  obtain ⟨refuses, commits⟩ := places
  refine ⟨fun id is => refuses _ (State.commitChecks_undefined is),
    fun id defined is => refuses _ (State.commitChecks_past defined is),
    fun defined within pool => refuses _ ?_, fun defined within pool => ?_⟩
  · rw [State.commitChecks_full defined within pool, isOpen]
    rfl
  · obtain ⟨t, runs, ending, follows⟩ := commits (State.commitChecks_pass defined within pool)
    rw [State.commitPlacement_eq opened label] at ending follows
    have gst : t.gst = s.gst.addReferences p.uses := follows.1
    refine ⟨t, runs, ending, by rwa [gst], by rw [gst]; rfl, by rw [gst]; exact List.length_mapIdx, fun id less => ?_⟩
    rw [gst, Gst.entry_addReferences _ _ less]

/-! ### CLOSE LABEL, and the claim of a band -/

theorem exec_closeLabel (h : s.InService) :
    exec .closeLabel s = .next (s.plain 0x46 s.openNeeded (State.completeAfter State.commitClose)) :=
  congrArg Host.Outcome.next (State.served_inService h _)

/-- R86: a claim leaves the cursor where it is. -/
theorem State.claim_seat (u : State) : u.claim.ring.seat = u.ring.seat := by
  rw [State.claim]
  (repeat' split) <;> rfl

/-- R86: the conditions of a claim, as the ring holds them. -/
theorem Ring.mayClaim_iff {r : Ring} {c : Seat} (seat : r.seat = some c) : r.mayClaim = true ↔
    (r.band r.tail).state = .free ∧ ((∀ b ∈ r.bands, b.state = .free) ∨
      (r.band (r.tail + 15)).state = .ready ∨ (r.band (r.tail + 15)).state = .printing) := by
  simp [Ring.mayClaim, seat, Band.held, Config.ringBands]

/-- Settles O34. -/
theorem closeLabelJoinsThePrintQueue : Obligations.CloseLabelJoinsThePrintQueue := by
  refine ⟨fun s slot l r c opened label => ?_, fun u => ⟨fun idle => ?_, fun c l seat label bands tail => ?_⟩,
    fun s r c closed => ?_⟩
  · have passes : firstOf (s.ranges s.csq.block ++ s.openNeeded) = none := by
      simp [State.ranges, r.code, State.openNeeded, opened]
    have is : s.commitClose = ({ s with
        lbq := { s.lbq with
          slots := s.lbq.slots.set slot
            (some { l with state := if s.lbq.queue = [] then .active else .queued, done := 0 })
          queue := s.lbq.queue ++ [slot] }
        ring := { s.ring with seat := some (s.ring.seat.getD ⟨slot, 1, 0⟩) } }, .ok) := by
      simp only [State.commitClose, opened, Lbq.openLabel_some opened label, List.isEmpty_iff]
      rfl
    obtain ⟨t, runs, ends, follows⟩ := State.commitsPlain r (by decide) c (exec_closeLabel r.1) passes is rfl rfl
    refine ⟨t, runs, ends, follows, ?_⟩
    obtain ⟨-, -, -, -, -, -, -, -, -, ring, -⟩ := id follows
    rw [ring, State.claim_seat]
  · simp only [State.claim, idle]
  · intro before may
    have claims : u.ring.mayClaim = true ↔ may := Ring.mayClaim_iff seat
    refine ⟨fun mayNot => ?_, fun does => ?_⟩
    · simp only [State.claim, seat, label, if_neg (mt claims.mp mayNot)]
    · simp only [State.claim, seat, label, if_pos (claims.mpr does)]
      simp only [Ring.setBand, Config.ringBands, Config.bandLines, seat, Nat.mod_eq_of_lt tail]
  · refine State.refusesPlain r (by decide) (.inl c.1) (exec_closeLabel r.1) ?_
    simp [State.ranges, r.code, State.openNeeded, closed]
    rfl

end Sys2Proof.Machine

end

section
/-! What the labels' slots, the placement pool and the glyph store are changed by: in the engine only by the removal of a
label, by a copy that is counted or allowed to finish, and by the compaction. An invariant of those three that these keep
is kept by every row but the ones whose own work they are. -/

namespace Sys2Proof.Machine

variable {s t : State}

/-! ### Slots and pool stay with every halt -/

@[simp] theorem State.spoil_pool (s : State) :
    s.spoil.lbq.slots = s.lbq.slots ∧ s.spoil.lbq.poolFree = s.lbq.poolFree := by
  simp only [State.spoil]
  split <;> simp

@[simp] theorem State.halt_pool (s : State) (cs : List Cause) :
    (s.halt cs).lbq.slots = s.lbq.slots ∧ (s.halt cs).lbq.poolFree = s.lbq.poolFree := by
  simp [State.halt]

@[simp] theorem State.headOpens_pool (s : State) :
    s.headOpens.lbq.slots = s.lbq.slots ∧ s.headOpens.lbq.poolFree = s.lbq.poolFree := by
  simp only [State.headOpens]
  (repeat' split) <;> simp

@[simp] theorem State.mediaGone_pool (s : State) :
    s.mediaGone.lbq.slots = s.lbq.slots ∧ s.mediaGone.lbq.poolFree = s.lbq.poolFree := by
  simp only [State.mediaGone]
  (repeat' split) <;> simp

@[simp] theorem State.breakRecovery_pool (s : State) :
    s.breakRecovery.lbq.slots = s.lbq.slots ∧ s.breakRecovery.lbq.poolFree = s.lbq.poolFree := by
  simp [State.breakRecovery]

@[simp] theorem State.stopEnded_pool (s : State) :
    s.stopEnded.lbq.slots = s.lbq.slots ∧ s.stopEnded.lbq.poolFree = s.lbq.poolFree := by
  simp only [State.stopEnded]
  (repeat' split) <;> simp

@[simp] theorem State.breakMotion_pool (s : State) :
    s.breakMotion.lbq.slots = s.lbq.slots ∧ s.breakMotion.lbq.poolFree = s.lbq.poolFree := by
  simp only [State.breakMotion]
  (repeat' split) <;> simp

@[simp] theorem State.breakExecute_pool (s : State) :
    s.breakExecute.lbq.slots = s.lbq.slots ∧ s.breakExecute.lbq.poolFree = s.lbq.poolFree := by
  simp only [State.breakExecute]
  (repeat' split) <;> simp

@[simp] theorem State.stopForFault_pool (s : State) (absent lost : Bool) :
    (s.stopForFault absent lost).lbq.slots = s.lbq.slots ∧
    (s.stopForFault absent lost).lbq.poolFree = s.lbq.poolFree := by
  simp only [State.stopForFault]
  (repeat' split) <;> simp

@[simp] theorem State.endOfStep_pool (s : State) (m : MoveEnd) :
    (s.endOfStep m).lbq.slots = s.lbq.slots ∧ (s.endOfStep m).lbq.poolFree = s.lbq.poolFree := by
  simp only [State.endOfStep]
  (repeat' split) <;> simp

@[simp] theorem State.readRequests_pool (s : State) (before : Bool) :
    (s.readRequests before).lbq.slots = s.lbq.slots ∧ (s.readRequests before).lbq.poolFree = s.lbq.poolFree := by
  simp only [State.readRequests]
  (repeat' split) <;> simp

@[simp] theorem State.headChanges_pool (s : State) :
    s.headChanges.lbq.slots = s.lbq.slots ∧ s.headChanges.lbq.poolFree = s.lbq.poolFree := by
  simp only [State.headChanges]
  (repeat' split) <;> simp

@[simp] theorem State.idleStep_pool (s : State) (level : Byte) :
    (s.idleStep level).lbq.slots = s.lbq.slots ∧ (s.idleStep level).lbq.poolFree = s.lbq.poolFree := by
  simp only [State.idleStep]
  split <;> simp

/-! ### Invariants that the engine keeps -/

/-- A property of the slots, the pool and the glyph store that a removal, a change of a label that leaves its granules,
and the compaction's own decisions keep. -/
structure KeptByEngine (P : State → Prop) : Prop where
  same {s t : State} : P s → t.gst = s.gst → t.lbq.slots = s.lbq.slots → t.lbq.poolFree = s.lbq.poolFree → P t
  vacate {s : State} {slot : Nat} {l : Label} : P s → s.lbq.label slot = some l → P (s.vacate slot l)
  relabel {s t : State} {slot : Nat} {l l' : Label} : P s → s.lbq.label slot = some l → l'.granules = l.granules →
    t.gst = s.gst → t.lbq.slots = s.lbq.slots.set slot (some l') → t.lbq.poolFree = s.lbq.poolFree → P t
  compactOn {s : State} : P s → P s.compactOn

section
variable {P : State → Prop} (k : KeptByEngine P)
include k

theorem KeptByEngine.removeLabel (h : P s) (slot : Nat) (report : Option Event) : P (s.removeLabel slot report) := by
  simp only [State.removeLabel]
  split
  · exact h
  next l label =>
    cases report with
    | none => exact k.vacate h label
    | some e => exact k.vacate (k.same (t := s.post e) h (by simp) (by simp) (by simp)) (by simpa using label)

theorem KeptByEngine.reportIdleQueue (h : P s) (before : Lbq) : P (s.reportIdleQueue before) :=
  k.same h (by simp) (by simp) (by simp)

theorem KeptByEngine.copyDone (h : P s) (slot : Nat) : P (s.copyDone slot) := by
  simp only [State.copyDone]
  split
  · exact h
  next l label =>
    have counted {e : Event} : P (({ s with lbq := { s.lbq.setLabel slot (some { l with done := l.done + 1 }) with
        printing := none } } : State).post e) :=
      k.relabel h label (l' := { l with done := l.done + 1 }) rfl (by simp) (by simp; rfl) (by simp; rfl)
    split
    · exact k.reportIdleQueue (k.removeLabel counted _ _) _
    split
    · exact k.reportIdleQueue (k.removeLabel counted _ _) _
    · exact counted

theorem KeptByEngine.cancelOne (immediate : Bool) (h : P s) (slot : Nat) : P (State.cancelOne immediate s slot) := by
  simp only [State.cancelOne]
  split
  · exact h
  next l label =>
    split
    · exact k.removeLabel h _ _
    · exact k.relabel h label (l' := { l with finishing := true }) rfl (by simp) (by simp; rfl) (by simp; rfl)
    · exact h
    · exact k.removeLabel h _ _

theorem KeptByEngine.cancelTargets (h : P s) (immediate : Bool) (targets : List Nat) :
    P (s.cancelTargets immediate targets) := by
  have dealt : P (targets.foldl (State.cancelOne immediate) s) := by
    induction targets generalizing s with
    | nil => exact h
    | cons slot targets ih => exact ih (k.cancelOne immediate h slot)
  exact k.reportIdleQueue (k.same dealt (by simp) (by simp) (by simp)) _

theorem KeptByEngine.enterRecovery (h : P s) (discard : Bool) : P (s.enterRecovery discard) := by
  have discarded (slot : Nat) : P (s.discardInterrupted slot) := by
    simp only [State.discardInterrupted]
    split
    · exact h
    next l _ =>
      exact k.reportIdleQueue (k.same (k.removeLabel h slot (some (cancelled l 3))) (by simp) (by simp) (by simp)) _
  have disposed : P (match s.eng.interrupted with
      | some c => if discard then s.discardInterrupted c.slot else s
      | none => s) := by
    split
    · split
      · exact discarded _
      · exact h
    · exact h
  exact k.same disposed rfl rfl rfl

theorem KeptByEngine.commitMotion (h : P s) : P s.commitMotion := by
  rw [State.commitMotion]
  split
  case h_6 =>
    rw [State.commitResume]
    split
    · exact k.same (k.enterRecovery h s.disposition) (by simp) (by simp) (by simp)
    · exact k.same h (by simp) (by simp) (by simp)
  all_goals exact k.same h (by simp) (by simp) (by simp)

theorem KeptByEngine.endWait (h : P s) : P s.endWait := by
  rw [State.endWait]
  split
  · exact State.act_elim P (fun e => k.same h (by simp) (by simp) (by simp))
      fun _ _ => k.commitMotion (k.same h rfl rfl rfl)
  · exact h

theorem KeptByEngine.conclude (h : P s) : P s.conclude :=
  k.same (k.compactOn (k.endWait h)) (by simp [State.conclude]) (by simp [State.conclude]) (by simp [State.conclude])

theorem KeptByEngine.completeAfter {effect : State → State × Ending} (h : P (effect s).1) : P (s.completeAfter effect) :=
  k.same (k.conclude h) (by simp [State.completeAfter]) (by simp [State.completeAfter]) (by simp [State.completeAfter])

theorem KeptByEngine.passLine (h : P s) (l : LabelLine) : P (s.passLine l) := by
  have begun (u : State) (c : Copy) : (u.beginCopy c).lbq.slots = u.lbq.slots ∧
    (u.beginCopy c).lbq.poolFree = u.lbq.poolFree := ⟨rfl, rfl⟩
  have counted (u : State) : u.countLine.lbq.slots = u.lbq.slots ∧ u.countLine.lbq.poolFree = u.lbq.poolFree := ⟨rfl, rfl⟩
  simp only [State.passLine]
  split <;> split
  · exact k.copyDone (k.same h (by simp) (by simp [begun]) (by simp [begun])) _
  · exact k.copyDone (k.same h (by simp) (by simp [counted]) (by simp [counted])) _
  · exact k.same h (by simp) (by simp [begun]) (by simp [begun])
  · exact k.same h (by simp) (by simp [counted]) (by simp [counted])

theorem KeptByEngine.lineStep (h : P s) (level : Byte) : P (s.lineStep level) := by
  have moved (u : State) (v : Nat) : (u.stepForward v).lbq = u.lbq ∧ (u.stepForward v).gst = u.gst := ⟨rfl, rfl⟩
  have passed : P s.lineParts12 := by
    simp only [State.lineParts12]
    split <;> split
    · exact k.passLine (k.same h (by simp [moved]) (by simp [moved]) (by simp [moved])) _
    · exact k.passLine (k.same h (by simp [moved]) (by simp [moved]) (by simp [moved])) _
    · exact k.same h (by simp [moved]) (by simp [moved]) (by simp [moved])
    · exact k.same h (by simp [moved]) (by simp [moved]) (by simp [moved])
  exact k.conclude (k.same passed (by simp) (by simp) (by simp))

theorem KeptByEngine.backStep (h : P s) : P s.backStep := by
  have stepped : P s.stepBackward.strobeNothing := k.same h rfl rfl rfl
  refine k.conclude ?_
  split
  · exact k.same stepped (by simp) (by simp) (by simp)
  · exact stepped

/-! ### The rows -/

theorem KeptByEngine.dataAccess (h : P s) (a : Access) : P (s.dataAccess a) := by
  cases a with
  | read => exact State.servedRead_elim P (k.same h rfl rfl rfl) fun _ => k.same h (by simp) (by simp) (by simp)
  | write b =>
    exact State.served_elim P (f := (State.dataWrite · b)) h fun _ => k.same h (by simp) (by simp) (by simp)

theorem KeptByEngine.motion (h : P s) (code : Byte) : P (s.motion code) :=
  State.motion_elim P h (fun _ _ => k.same h (by simp) (by simp) (by simp))
    (fun _ _ => k.same h (by simp) (by simp) (by simp)) fun _ _ _ _ => k.conclude (k.commitMotion h)

end

/-- The rows whose own work is on the slots, the pool or the glyph store: the commands that store, and the resets. -/
def hasOwnStores : Instr → Bool
  | .defineGlyph | .deleteGlyph | .compactGlyphs | .glyphMove | .openLabel | .placeGlyph | .placeText | .placeRule
  | .placeImage | .closeLabel | .portReset _ _ | .pinReset _ | .powerOnReset _ | .resetInputHeld => true
  | _ => false

theorem KeptByEngine.rowEffect {P : State → Prop} (k : KeptByEngine P) (i : Instr) (s : State) (other : hasOwnStores i = false)
    (h : P s) : P (rowEffect i s) := by
  have ended (u : State) (e : Ending) (hu : P u) : P (u.finish e) := k.same hu (by simp) (by simp) (by simp)
  cases i <;> simp only [Machine.rowEffect]
  case defineGlyph | deleteGlyph | compactGlyphs | glyphMove | openLabel | placeGlyph | placeText | placeRule | placeImage
    | closeLabel | portReset | pinReset | powerOnReset | resetInputHeld => cases other
  case select | notifyMaskWrite | byteTimeout | recordCopyWrite | motionWaitTimeout =>
    exact State.served_elim P h fun _ => k.same h (by simp) (by simp) (by simp)
  case breakRequest =>
    refine State.served_elim P h fun _ => ?_
    rw [State.breakNow]
    split
    case h_6 =>
      exact k.conclude (k.same h (by simp) (by simp) (by simp))
    all_goals exact k.same h (by simp) (by simp) (by simp)
  case commandByte | payloadByte | resultByteRead | completionByteRead | refusedDataPortAccess => exact k.dataAccess h _
  case dackCycle access =>
    cases access with
    | read => exact State.servedRead_elim P (k.same h rfl rfl rfl) fun _ => k.same h (by simp) (by simp) (by simp)
    | write b => exact State.served_elim P h fun _ => k.same h (by simp) (by simp) (by simp)
  case eventPortRead =>
    exact State.servedRead_elim P (k.same h rfl rfl rfl) fun _ => k.same h (by simp) (by simp) (by simp)
  case testReady | requestSense | readEngineState | sensorRead | readMediaParameters | readGlyphEntry | ramTest =>
    exact State.served_elim P h fun _ => State.plain_elim P h (fun _ _ => ended _ _ h)
      fun _ _ _ => k.same h (by simp) (by simp) (by simp)
  case setRunGate =>
    exact State.served_elim P h fun _ => State.plain_elim P h (fun _ _ => ended _ _ h)
      fun _ _ _ => k.completeAfter (k.same h rfl rfl rfl)
  case discardLabel =>
    refine State.served_elim P h fun _ => State.plain_elim P h (fun _ _ => ended _ _ h) fun _ _ _ => k.completeAfter ?_
    cases o : s.lbq.openSlot <;> simp only [State.commitDiscard, o]
    case none => exact h
    case some slot => exact k.removeLabel h slot none
  case cancelLabels =>
    refine State.served_elim P h fun _ => State.plain_elim P h (fun _ _ => ended _ _ h) fun _ _ _ => ?_
    rw [State.cancelNow]
    split
    · exact ended _ _ h
    · refine k.completeAfter ?_
      rw [State.commitCancel]
      split
      · exact h
      · exact k.cancelTargets h _ _
  case setMediaParameters =>
    exact State.served_elim P h fun _ => State.withPayload_elim P h (fun _ _ => ended _ _ h)
      (fun _ _ => k.same h (by simp) (by simp) (by simp)) fun _ _ _ => k.completeAfter (k.same h (by simp) (by simp) (by simp))
  case setMechanismParameters strap decay =>
    have sampled : P ((s.sampleStrap strap).readStore decay) := k.same h (by simp) (by simp) (by simp)
    refine State.served_elim P h fun _ => State.setMechanism_elim P h fun _ => ?_
    exact State.withPayload_elim P sampled (fun _ _ => ended _ _ sampled)
      (fun _ _ => k.same sampled (by simp) (by simp) (by simp))
      fun _ _ _ => k.conclude (k.same sampled (by simp) (by simp) (by simp))
  case storeProfile strap decay =>
    have sampled : P ((s.sampleStrap strap).readStore decay) := k.same h (by simp) (by simp) (by simp)
    refine State.served_elim P h fun _ => ?_
    rw [State.storeProfile]
    split
    · exact State.plain_elim P sampled (fun _ _ => ended _ _ sampled)
        fun _ _ _ => k.same sampled (by simp) (by simp) (by simp)
    · exact h
  case loadProfile decay =>
    have read : P (s.readStore decay) := k.same h (by simp) (by simp) (by simp)
    refine State.served_elim P h fun _ => ?_
    rw [State.loadSlot]
    split
    · exact State.plain_elim P read (fun _ _ => ended _ _ read)
        fun _ _ _ => k.completeAfter (k.same read (by simp) (by simp) (by simp))
    · exact h
  case verifyProfiles decay =>
    have read : P (s.readStore decay) := k.same h (by simp) (by simp) (by simp)
    refine State.served_elim P h fun _ => ?_
    rw [State.verifyStore]
    split
    · exact State.plain_elim P read (fun _ _ => ended _ _ read) fun _ _ _ => k.same read (by simp) (by simp) (by simp)
    · exact h
  case feed | advanceToEdge | calibrateMedia | present | retract | resume =>
    exact State.served_elim P h fun _ => k.motion h _
  case ramByteTest answer =>
    split
    · exact State.served_elim P h fun _ => k.same h (by simp) (by simp) (by simp)
    · exact h
  case bandRender =>
    refine State.served_elim P h fun _ => ?_
    split
    · exact k.conclude (k.same h (by simp) (by simp) (by simp))
    · exact h
  case lineStep level elapsed =>
    refine State.served_elim P h fun _ => ?_
    split
    · exact k.lineStep (k.same h (by simp) (by simp) (by simp)) level
    · exact h
  case backwardStep elapsed =>
    refine State.served_elim P h fun _ => ?_
    split
    · exact k.backStep (k.same h (by simp) (by simp) (by simp))
    · exact h
  case runStart =>
    refine State.served_elim P h fun _ => ?_
    split
    · exact k.conclude (k.same h (by simp) (by simp) (by simp))
    · exact h
  case temperatureSample degrees =>
    exact State.served_elim P h fun _ => k.conclude (k.same h (by simp) (by simp) (by simp))
  case headStateChange => exact State.served_elim P h fun _ => k.conclude (k.same h (by simp) (by simp) (by simp))
  case idleSample level =>
    refine State.served_elim P h fun _ => ?_
    split
    · exact k.conclude (k.same h (by simp) (by simp) (by simp))
    · exact h
  case autoRecover =>
    refine State.served_elim P h fun _ => ?_
    split
    · exact k.conclude (k.same (k.enterRecovery h s.nvs.profile.discard) (by simp) (by simp) (by simp))
    · exact h
  case motorRelease =>
    refine State.served_elim P h fun _ => ?_
    split
    · exact k.same h (by simp) (by simp) (by simp)
    · exact h

end Sys2Proof.Machine

end

section
/-! The removal of a label (R48, R49, R60, R73): the pool stays balanced, nothing names the label any more, and the
references of its placements have fallen. -/

namespace Sys2Proof.Machine

variable {s t : State}

/-! ### The pool -/

theorem sum_map_set {α : Type} (f : Option α → Nat) : ∀ {l : List (Option α)} {i : Nat} (x : Option α), i < l.length →
    ((l.set i x).map f).sum + f (l.getD i none) = (l.map f).sum + f x := by
  intro l
  induction l with
  | nil => simp
  | cons a l ih =>
    intro i x less
    cases i with
    | zero =>
      simp only [List.set_cons_zero, List.map_cons, List.sum_cons, List.getD_cons_zero]
      omega
    | succ i =>
      have rest := ih x (Nat.lt_of_succ_lt_succ less)
      simp only [List.set_cons_succ, List.map_cons, List.sum_cons, List.getD_cons_succ]
      omega

theorem Lbq.label_inRange {q : Lbq} {slot : Nat} {l : Label} (label : q.label slot = some l) : slot < q.slots.length := by
  by_contra beyond
  rw [Lbq.label, List.getD_eq_default _ _ (Nat.not_lt.mp beyond)] at label
  cases label

/-- R63: the granules in use after a slot has been given another label, or none. -/
theorem Lbq.usedGranules_set {q r : Lbq} {slot : Nat} {l : Label} (label : q.label slot = some l) (x : Option Label)
    (slots : r.slots = q.slots.set slot x) : r.usedGranules + l.granules = q.usedGranules + x.elim 0 (·.granules) := by
  have sum := sum_map_set (fun l : Option Label => l.elim 0 (·.granules)) x (Lbq.label_inRange label)
  have held : q.slots.getD slot none = some l := label
  rw [held, ← slots] at sum
  exact sum

/-- A label that keeps its granules leaves the balance. -/
theorem Lbq.PoolBalanced.relabel {q r : Lbq} (h : q.PoolBalanced) {slot : Nat} {l l' : Label}
    (label : q.label slot = some l) (same : l'.granules = l.granules) (slots : r.slots = q.slots.set slot (some l'))
    (pool : r.poolFree = q.poolFree) : r.PoolBalanced := by
  have used := Lbq.usedGranules_set label (some l') slots
  simp only [Option.elim_some, same] at used
  rw [Lbq.PoolBalanced] at h ⊢
  omega

theorem Lbq.PoolBalanced.of_eq {q r : Lbq} (h : q.PoolBalanced) (slots : r.slots = q.slots)
    (pool : r.poolFree = q.poolFree) : r.PoolBalanced := by
  simpa only [Lbq.PoolBalanced, Lbq.usedGranules, slots, pool] using h

/-- R61: the new head keeps its granules. -/
theorem Lbq.PoolBalanced.activateHead {q : Lbq} (h : q.PoolBalanced) : q.activateHead.PoolBalanced := by
  simp only [Lbq.activateHead]
  split
  · exact h
  split
  · exact h
  next slot _ l label => exact h.relabel label (l' := { l with state := .active }) rfl rfl rfl

theorem Lbq.activateHead_poolFree (q : Lbq) : q.activateHead.poolFree = q.poolFree := by
  simp only [Lbq.activateHead]
  (repeat' split) <;> rfl

/-- R60: the granules of a label that leaves return. -/
theorem State.vacate_balanced {slot : Nat} {l : Label} (h : s.lbq.PoolBalanced) (label : s.lbq.label slot = some l) :
    (s.vacate slot l).lbq.PoolBalanced := by
  have used := Lbq.usedGranules_set (r := { s.lbq.setLabel slot none with queue := s.lbq.queue.erase slot }) label none rfl
  rw [Lbq.PoolBalanced] at h
  have emptied : ({ s.lbq.setLabel slot none with
      queue := s.lbq.queue.erase slot, poolFree := s.lbq.poolFree + l.granules } : Lbq).PoolBalanced := by
    have same : ({ s.lbq.setLabel slot none with
        queue := s.lbq.queue.erase slot, poolFree := s.lbq.poolFree + l.granules } : Lbq).usedGranules =
      ({ s.lbq.setLabel slot none with queue := s.lbq.queue.erase slot } : Lbq).usedGranules := rfl
    simp only [Option.elim_none] at used
    rw [Lbq.PoolBalanced, same]
    simp only
    omega
  refine emptied.activateHead.of_eq ?_ ?_
  · simp only [State.vacate, State.dropReferences_keeps]
    simp only [Lbq.activateHead, Lbq.setLabel, Lbq.label]
    (repeat' split) <;> rfl
  · simp only [State.vacate, State.dropReferences_keeps, Lbq.activateHead_poolFree]

theorem balanced_kept : KeptByEngine fun s => s.lbq.PoolBalanced where
  same h _ slots pool := h.of_eq slots pool
  vacate := State.vacate_balanced
  relabel h label same _ slots pool := h.relabel label same slots pool
  compactOn h := by simpa using h

/-- R64: an empty slot takes a label of no granules. -/
theorem Lbq.PoolBalanced.occupy {q : Lbq} (h : q.PoolBalanced) {slot : Nat} {l : Label} (free : q.label slot = none)
    (none : l.granules = 0) : (q.setLabel slot (some l)).PoolBalanced := by
  by_cases inRange : slot < q.slots.length
  · have sum := sum_map_set (fun l : Option Label => l.elim 0 (·.granules)) (some l) inRange
    have held : q.slots.getD slot Option.none = Option.none := free
    simp only [held, Option.elim_none, Option.elim_some, none, Nat.add_zero] at sum
    simpa only [Lbq.PoolBalanced, Lbq.usedGranules, Lbq.setLabel, sum] using h
  · refine h.of_eq ?_ rfl
    exact List.set_eq_of_length_le (Nat.not_lt.mp inRange)

theorem State.commitOpen_balanced (h : s.lbq.PoolBalanced) : s.commitOpen.1.lbq.PoolBalanced := by
  cases found : s.lbq.freeSlot with
  | none => simpa only [State.commitOpen, found] using h
  | some slot =>
    have free : (s.lbq.label slot).isNone = true := by simpa using List.find?_some found
    simp only [State.commitOpen, found]
    exact h.occupy (Option.isNone_iff_eq_none.mp free) rfl

theorem Lbq.openLabel_label {q : Lbq} {slot : Nat} {l : Label} (opened : q.openSlot = some slot)
    (isOpen : q.openLabel = some l) : q.label slot = some l := by
  rw [Lbq.openLabel, opened] at isOpen
  exact isOpen

theorem State.commitClose_balanced (h : s.lbq.PoolBalanced) : s.commitClose.1.lbq.PoolBalanced := by
  simp only [State.commitClose]
  split
  next slot l opened isOpen =>
    exact h.relabel (Lbq.openLabel_label opened isOpen) (l' := { l with
      state := if s.lbq.queue.isEmpty then .active else .queued, done := 0 }) rfl rfl rfl
  · exact h

/-- R63, R71: a placement takes its granules out of a pool that holds them. -/
theorem State.storePlacement_balanced (h : s.lbq.PoolBalanced) {p : Placement} (room : p.cost / 8 ≤ s.lbq.poolFree) :
    (s.storePlacement p).lbq.PoolBalanced := by
  simp only [State.storePlacement]
  split
  next slot l opened isOpen =>
    have used := Lbq.usedGranules_set (r := { s.lbq.setLabel slot (some { l with
        placements := l.placements ++ [p], granules := l.granules + p.cost / 8 }) with
        poolFree := s.lbq.poolFree - p.cost / 8 }) (Lbq.openLabel_label opened isOpen) _ rfl
    simp only [Option.elim_some] at used
    rw [Lbq.PoolBalanced] at h ⊢
    simp only at used ⊢
    omega
  · exact h

/-- R47, R63: the resource checks, once met, have found the room. -/
theorem State.placementResources_room {p : Placement} {before : List (Bool × Ending)}
    (met : firstOf (before ++ s.placementResources p) = none) : p.cost / 8 ≤ s.lbq.poolFree := by
  rw [firstOf_eq_none] at met
  have pool := met _ (List.mem_append_right _ (List.mem_cons_of_mem _ List.mem_cons_self))
  simpa using pool

theorem State.portReset_lbq (s : State) (i : Inputs) : (s.portReset i).lbq = State.reset.lbq := by
  simp [State.portReset, State.readInputs, State.clearBlocks, State.resetSample]

theorem State.powerUpNow_balanced (h : s.lbq.PoolBalanced) (kind : Nat) (p : PowerUp) :
    (s.powerUpNow kind p).lbq.PoolBalanced := by
  rw [State.powerUpNow]
  split
  · have lbq : (s.powerUp kind p).lbq = State.reset.lbq := by
      simp [State.powerUp, State.readInputs, State.clearBlocks, State.resetSample]
    rw [lbq]
    rfl
  · exact h.of_eq (by simp [State.outOfService]) (by simp [State.outOfService])

theorem rowEffect_balanced (i : Instr) (s : State) (h : s.lbq.PoolBalanced) : (rowEffect i s).lbq.PoolBalanced := by
  let P (s : State) : Prop := s.lbq.PoolBalanced
  have k : KeptByEngine P := balanced_kept
  have ended (u : State) (e : Ending) (hu : P u) : P (u.finish e) := k.same hu (by simp) (by simp) (by simp)
  cases other : hasOwnStores i with
  | false => exact k.rowEffect i s other h
  | true =>
    cases i <;> simp only [hasOwnStores, Bool.false_eq_true] at other <;> simp only [rowEffect]
    case defineGlyph =>
      exact State.served_elim P h fun _ => State.withPayload_elim P h (fun _ _ => ended _ _ h)
        (fun _ _ => k.same h (by simp) (by simp) (by simp)) fun _ _ _ => k.completeAfter (by simpa [P] using h)
    case deleteGlyph =>
      exact State.served_elim P h fun _ => State.plain_elim P h (fun _ _ => ended _ _ h)
        fun _ _ _ => k.completeAfter (by simpa [P] using h)
    case compactGlyphs =>
      exact State.served_elim P h fun _ => State.plain_elim P h (fun _ _ => ended _ _ h)
        fun _ _ _ => k.conclude (k.same h rfl rfl rfl)
    case glyphMove =>
      exact State.served_elim P h fun _ => State.moveEnds_elim P (fun _ => h) (fun _ => k.conclude h)
        fun _ _ _ _ => k.conclude (by simpa [P] using h)
    case openLabel =>
      exact State.served_elim P h fun _ => State.plain_elim P h (fun _ _ => ended _ _ h)
        fun _ _ _ => k.completeAfter (State.commitOpen_balanced h)
    case closeLabel =>
      exact State.served_elim P h fun _ => State.plain_elim P h (fun _ _ => ended _ _ h)
        fun _ _ _ => k.completeAfter (State.commitClose_balanced h)
    case placeGlyph | placeRule =>
      exact State.served_elim P h fun _ => State.plain_elim P h (fun _ _ => ended _ _ h)
        fun _ met _ => k.completeAfter (State.storePlacement_balanced h (State.placementResources_room met))
    case placeText | placeImage =>
      exact State.served_elim P h fun _ => State.withPayload_elim P h (fun _ _ => ended _ _ h)
        (fun _ _ => k.same h (by simp) (by simp) (by simp))
        fun _ met _ => k.completeAfter (State.storePlacement_balanced h (State.placementResources_room met))
    case portReset value inputs => exact State.served_elim P h fun _ => by simp only [P, State.portReset_lbq]; rfl
    case pinReset | powerOnReset => exact State.powerUpNow_balanced h _ _
    case resetInputHeld => exact h.of_eq (by simp [State.outOfService]) (by simp [State.outOfService])

/-! ### What a removal leaves -/

theorem Lbq.activateHead_label (q : Lbq) (i : Nat) : q.activateHead.label i =
    if q.queue.head? = some i then (q.label i).map fun l => { l with state := .active } else q.label i := by
  simp only [Lbq.activateHead]
  split
  next none => rw [none]; simp
  next slot head =>
    simp only [head, Option.some.injEq]
    split
    next empty =>
      split
      next same => rw [← same, empty]; rfl
      · rfl
    next l label =>
      have inRange := Lbq.label_inRange label
      split
      next same =>
        subst same
        rw [label]
        simp [Lbq.setLabel, Lbq.label, inRange]
      next differ => simp [Lbq.setLabel, Lbq.label, List.getElem?_set_ne differ]

theorem Lbq.activateHead_keeps (q : Lbq) : q.activateHead.queue = q.queue ∧ q.activateHead.gate = q.gate ∧
    q.activateHead.poolFree = q.poolFree := by
  simp only [Lbq.activateHead]
  (repeat' split) <;> exact ⟨rfl, rfl, rfl⟩

theorem Lbq.setLabel_label_other (q : Lbq) {slot i : Nat} (x : Option Label) (h : i ≠ slot) :
    (q.setLabel slot x).label i = q.label i := by
  simp [Lbq.setLabel, Lbq.label, List.getElem?_set_ne (Ne.symm h)]

theorem Lbq.setLabel_none (q : Lbq) (slot : Nat) : (q.setLabel slot none).label slot = none := by
  simp only [Lbq.setLabel, Lbq.label, List.getD_eq_getElem?_getD, List.getElem?_set_self']
  cases q.slots[slot]? <;> rfl

/-- A record that names the slot is cleared. -/
theorem filter_names {α : Type} (x : Option α) (names : α → Nat) (slot : Nat) :
    (if x.any (names · == slot) then none else x) = x.filter fun a => names a != slot := by
  cases x with
  | none => rfl
  | some a => cases h : names a == slot <;> simp [Option.filter, bne, h]

/-- R60: what the removal of a label does to the queue, to the other labels and to the records. -/
theorem State.vacate_leaves (slot : Nat) (l : Label) (queue : s.lbq.queue.Nodup) :
    let t := s.vacate slot l
    t.lbq.label slot = none ∧ t.lbq.queue = s.lbq.queue.filter (fun i => i != slot) ∧
    (∀ head h, t.lbq.queue.head? = some head → t.lbq.label head = some h → h.state = .active) ∧
    (∀ i, i ≠ slot → t.lbq.queue.head? ≠ some i → t.lbq.label i = s.lbq.label i) := by
  intro t
  let q : Lbq := { s.lbq.setLabel slot none with queue := s.lbq.queue.erase slot }
  have queue_eq : t.lbq.queue = s.lbq.queue.erase slot := by
    simp only [t, State.vacate, State.dropReferences_keeps, Lbq.activateHead_keeps]
  have label_eq (i : Nat) : t.lbq.label i = q.activateHead.label i := by
    simp only [t, State.vacate, State.dropReferences_keeps]
    rfl
  have erased := queue.erase_eq_filter slot
  have absent : (s.lbq.queue.erase slot).head? ≠ some slot := fun head => by
    have mem := List.mem_of_head? head
    rw [erased] at mem
    simp at mem
  refine ⟨?_, queue_eq.trans erased, fun head h first held => ?_, fun i differ other => ?_⟩
  · rw [label_eq, Lbq.activateHead_label, if_neg absent]
    exact s.lbq.setLabel_none slot
  · rw [queue_eq] at first
    rw [label_eq, Lbq.activateHead_label, if_pos first] at held
    obtain ⟨l', -, rfl⟩ := Option.map_eq_some_iff.mp held
    rfl
  · rw [queue_eq] at other
    rw [label_eq, Lbq.activateHead_label, if_neg other]
    exact s.lbq.setLabel_label_other none differ

theorem exec_discardLabel (h : s.InService) :
    exec .discardLabel s = .next (s.plain 0x47 s.openNeeded (State.completeAfter State.commitDiscard)) :=
  congrArg Host.Outcome.next (State.served_inService h _)

/-- Settles O35. -/
theorem discardedAndRemovedLabelsLeaveNoTrace : Obligations.DiscardedAndRemovedLabelsLeaveNoTrace := by
  refine ⟨fun s slot l r c opened label => ?_, fun s slot l queue => ?_,
    fun s t h step => step_keeps (P := fun s => s.lbq.PoolBalanced) (fun _ _ h => h) rowEffect_balanced h step,
    fun s r c closed => ?_⟩
  · have passes : firstOf (s.ranges s.csq.block ++ s.openNeeded) = none := by
      simp [State.ranges, r.code, State.openNeeded, opened]
    have is : s.commitDiscard = (s.vacate slot l, .ok) := by
      simp only [State.commitDiscard, opened, State.removeLabel, label]
    exact State.commitsPlain r (by decide) c (exec_discardLabel r.1) passes is (by simp) (by simp)
  · intro t dropped
    obtain ⟨gone, others, active, same⟩ := State.vacate_leaves (s := s) slot l queue
    have drops : s.dropReferences l.number l.uses = dropped := rfl
    refine ⟨gone, ?_, others, ?_, active, same, rfl, ?_, ?_, ?_, by simp [t], by simp [t], by simp [t], by simp [t],
      by simp [t], by simp [t], by simp [t], by simp [t], by simp [t]⟩
    · simp only [t, State.vacate, State.dropReferences_keeps]
    · simp only [t, State.vacate, State.dropReferences_keeps]
      exact filter_names s.lbq.printing (·.slot) slot
    · simp only [t, State.vacate, State.dropReferences_keeps, ← drops]
      rw [filter_names s.eng.interrupted (·.slot) slot]
    · simp only [t, State.vacate, State.dropReferences_keeps]
      rw [filter_names s.fmu.underrun (·.slot) slot]
    · simp only [t, State.vacate, State.dropReferences_keeps, Lbq.activateHead_keeps]
      rfl
  · refine State.refusesPlain r (by decide) (.inl c.1) (exec_discardLabel r.1) ?_
    simp [State.ranges, r.code, State.openNeeded, closed]
    rfl

/-! ### References -/

/-- R49: the id's references of this list take it to its release. -/
abbrev Gst.Released (g : Gst) (uses : List Nat) (id : Nat) : Prop :=
  0 < uses.count id ∧ (g.entry id).state = .doomed ∧ (g.entry id).count ≤ uses.count id

theorem State.dropReference_unused {number : Half} {ids : List Nat} {id : Nat} (unused : ids.count id = 0) :
    State.dropReference number ids s id = s := if_pos unused

theorem State.dropReference_releases {number : Half} {ids : List Nat} {id : Nat} (released : s.gst.Released ids id) :
    State.dropReference number ids s id =
      ({ s with gst := s.gst.release id } : State).post ⟨.glyphReleased, 0, number, BitVec.ofNat 16 id⟩ := by
  obtain ⟨used, doomed, last⟩ := released
  exact (if_neg (Nat.ne_of_gt used)).trans (if_pos ⟨doomed, Nat.sub_eq_zero_of_le last⟩)

theorem State.dropReference_falls {number : Half} {ids : List Nat} {id : Nat} (used : 0 < ids.count id)
    (stays : ¬ s.gst.Released ids id) : State.dropReference number ids s id =
      { s with gst := s.gst.setEntry id { s.gst.entry id with count := (s.gst.entry id).count - ids.count id } } :=
  (if_neg (Nat.ne_of_gt used)).trans
    (if_neg fun h => stays ⟨used, h.1, Nat.sub_eq_zero_iff_le.mp h.2⟩)

/-- R31, R49: a release, field by field. -/
theorem Gst.release_eq (g : Gst) (id : Nat) : g.release id =
    ⟨g.entries.set id .blank, freeInsert (g.entry id).base (granules (g.entry id).size) g.free,
      if g.moving = some id then none else g.cursor, if g.moving = some id then none else g.moving⟩ := by
  by_cases moving : g.moving = some id <;> simp [Gst.release, Gst.setEntry, moving]

theorem Gst.entry_set {g : Gst} {id i : Nat} {e : Glyph} {l : List Extent} {c m : Option Nat} (h : id < g.entries.length) :
    (⟨g.entries.set id e, l, c, m⟩ : Gst).entry i = if i = id then e else g.entry i := by
  split
  next same => subst same; simp [Gst.entry, h]
  next differ => simp [Gst.entry, List.getElem?_set_ne (Ne.symm differ)]

/-- R48, R49: what becomes of an entry when a label that names it so often leaves. -/
def Gst.dropped (g : Gst) (uses : List Nat) (id : Nat) : Glyph :=
  if g.Released uses id then .blank else { g.entry id with count := (g.entry id).count - uses.count id }

/-- R48, R49: the step for one id. -/
theorem State.dropReference_entry {number : Half} {uses : List Nat} {id : Nat} (h : id < s.gst.entries.length) (i : Nat) :
    (State.dropReference number uses s id).gst.entry i = if i = id then s.gst.dropped uses id else s.gst.entry i := by
  by_cases released : s.gst.Released uses id
  · rw [State.dropReference_releases released, Gst.dropped, if_pos released, (State.post_keeps _ _).2.2.1, Gst.release_eq]
    exact Gst.entry_set h
  · rw [Gst.dropped, if_neg released]
    by_cases unused : uses.count id = 0
    · rw [State.dropReference_unused unused, unused]
      split
      next same => subst same; rfl
      · rfl
    · rw [State.dropReference_falls (Nat.pos_of_ne_zero unused) released]
      exact Gst.entry_set h

theorem State.dropReference_length (number : Half) (uses : List Nat) (s : State) (id : Nat) :
    (State.dropReference number uses s id).gst.entries.length = s.gst.entries.length := by
  simp only [State.dropReference]
  split
  · rfl
  split <;> simp [Gst.release, Gst.setEntry]

theorem State.dropReference_moving (number : Half) (uses : List Nat) (s : State) (id : Nat) :
    let abandons := s.gst.Released uses id ∧ s.gst.moving = some id
    (State.dropReference number uses s id).gst.cursor = (if abandons then none else s.gst.cursor) ∧
    (State.dropReference number uses s id).gst.moving = (if abandons then none else s.gst.moving) := by
  by_cases released : s.gst.Released uses id
  · rw [State.dropReference_releases released, (State.post_keeps _ _).2.2.1, Gst.release_eq]
    have abandons : (s.gst.Released uses id ∧ s.gst.moving = some id) ↔ s.gst.moving = some id := and_iff_right released
    exact ⟨(if_congr abandons rfl rfl).symm, (if_congr abandons rfl rfl).symm⟩
  · simp only [released, false_and, if_false]
    by_cases unused : uses.count id = 0
    · rw [State.dropReference_unused unused]
      exact ⟨rfl, rfl⟩
    · rw [State.dropReference_falls (Nat.pos_of_ne_zero unused) released]
      exact ⟨rfl, rfl⟩

/-- R49: the report of an id that is released. -/
abbrev releaseReport (number : Half) (u : State) (id : Nat) : State :=
  u.post ⟨.glyphReleased, 0, number, BitVec.ofNat 16 id⟩

theorem State.post_eng {u v : State} (same : u.eng = v.eng) (e : Event) : (u.post e).eng = (v.post e).eng := by
  rw [State.post_eq, State.post_eq, same]

theorem State.dropReference_eng (number : Half) (uses : List Nat) (s : State) (id : Nat) :
    (State.dropReference number uses s id).eng =
      if s.gst.Released uses id then (releaseReport number s id).eng else s.eng := by
  by_cases released : s.gst.Released uses id
  · rw [State.dropReference_releases released, if_pos released]
    exact State.post_eng (by rfl) _
  · rw [if_neg released]
    by_cases unused : uses.count id = 0
    · rw [State.dropReference_unused unused]
    · rw [State.dropReference_falls (Nat.pos_of_ne_zero unused) released]

/-- R48, R49: the ids below `n`, in increasing order. -/
theorem State.dropReferences_below (number : Half) (uses : List Nat) (s : State) {n : Nat} (le : n ≤ s.gst.entries.length) :
    let t := (List.range n).foldl (State.dropReference number uses) s
    t.gst.entries.length = s.gst.entries.length ∧
    (∀ i, t.gst.entry i = if i < n then s.gst.dropped uses i else s.gst.entry i) ∧
    (∀ i < n, s.gst.moving = some i → s.gst.Released uses i → t.gst.cursor = none ∧ t.gst.moving = none) ∧
    ((∀ i < n, s.gst.moving = some i → ¬ s.gst.Released uses i) →
      t.gst.cursor = s.gst.cursor ∧ t.gst.moving = s.gst.moving) ∧
    t.eng = (((List.range n).filter fun i => decide (s.gst.Released uses i)).foldl (releaseReport number) s).eng := by
  induction n with
  | zero => simp
  | succ n ih =>
    obtain ⟨length, entry, abandoned, goesOn, eng⟩ := ih (Nat.le_of_succ_le le)
    rw [List.range_succ, List.foldl_append, List.filter_append, List.foldl_append]
    generalize (List.range n).foldl (State.dropReference number uses) s = u at *
    have same : u.gst.entry n = s.gst.entry n := by rw [entry, if_neg (Nat.lt_irrefl n)]
    have released : u.gst.Released uses n ↔ s.gst.Released uses n := by rw [Gst.Released, same]
    have dropped : u.gst.dropped uses n = s.gst.dropped uses n := by
      simp only [Gst.dropped, released, same]
    obtain ⟨cursor, moving⟩ := u.dropReference_moving number uses n
    simp only [List.foldl_cons, List.foldl_nil]
    refine ⟨(State.dropReference_length ..).trans length, fun i => ?_, fun i less at_ gone => ?_, fun stays => ?_, ?_⟩
    · rw [State.dropReference_entry (by omega), dropped, entry]
      split
      next is => rw [is, if_pos (Nat.lt_succ_self n)]
      next differs =>
        have : i < n ↔ i < n + 1 := by omega
        simp only [this]
    · rcases Nat.lt_succ_iff_lt_or_eq.mp less with before | rfl
      · obtain ⟨noCursor, noMove⟩ := abandoned i before at_ gone
        rw [cursor, moving, noCursor, noMove, ite_self]
        exact ⟨rfl, rfl⟩
      · obtain ⟨-, still⟩ := goesOn fun j less at' => absurd (Option.some.inj (at_.symm.trans at')) (Nat.ne_of_gt less)
        have abandons : u.gst.Released uses i ∧ u.gst.moving = some i := ⟨released.mpr gone, still.trans at_⟩
        rw [cursor, moving, if_pos abandons, if_pos abandons]
        exact ⟨rfl, rfl⟩
    · obtain ⟨sameCursor, sameMove⟩ := goesOn fun i less => stays i (Nat.lt_succ_of_lt less)
      have keeps : ¬ (u.gst.Released uses n ∧ u.gst.moving = some n) := fun h =>
        stays n (Nat.lt_succ_self n) (sameMove.symm.trans h.2) (released.mp h.1)
      rw [cursor, moving, if_neg keeps, if_neg keeps]
      exact ⟨sameCursor, sameMove⟩
    · rw [State.dropReference_eng]
      by_cases gone : s.gst.Released uses n
      · rw [if_pos (released.mpr gone), List.filter_cons_of_pos
          (p := fun i => decide (s.gst.Released uses i)) (decide_eq_true gone), List.filter_nil]
        exact State.post_eng eng _
      · rw [if_neg (mt released.mp gone), List.filter_cons_of_neg
          (p := fun i => decide (s.gst.Released uses i)) (mt of_decide_eq_true gone), List.filter_nil]
        exact eng

/-- Settles O36: one id, and then all of them in increasing order. -/
theorem referencesFallOneIdAtATime : Obligations.ReferencesFallOneIdAtATime := by
  refine ⟨fun s number ids id => ?_, fun s slot l length => ?_⟩
  · intro e n t
    refine ⟨State.dropReference_unused, fun used doomed last => ?_, fun used stays => ?_⟩
    · have releases : t = _ := State.dropReference_releases ⟨used, doomed, last⟩
      rw [releases, (State.post_keeps _ _).2.2.1, Gst.release_eq]
      exact ⟨rfl, rfl, rfl, rfl, by simp, State.post_eng (by rfl) _⟩
    · exact State.dropReference_falls used fun h => stays h.2
  · intro uses e released t
    obtain ⟨-, entry, abandoned, goesOn, eng⟩ := State.dropReferences_below l.number uses s (n := 64) length.ge
    have gst : t.gst = (s.dropReferences l.number uses).gst := rfl
    have events : t.eng.events = (s.dropReferences l.number uses).eng.events := rfl
    refine ⟨fun id less => ?_, fun id less at_ gone => ?_, fun stays => ?_, ?_⟩
    · exact (congrArg (Gst.entry · id) gst).trans ((entry id).trans (if_pos less))
    · rw [gst]
      exact abandoned id less at_ gone
    · rw [gst]
      exact goesOn stays
    · rw [events]
      exact congrArg Eng.events eng

end Sys2Proof.Machine

end

section
/-! Print runs (R123 to R125, R133, R134, R141, R142): how a run starts, how it rests and for which reason, and the
release of the motor. -/

namespace Sys2Proof.Machine

variable {s t u v : State}

/-! ### Positions -/

theorem shift_ofNat (p : Pos) (n : Nat) : shift p n = p + BitVec.ofNat 32 n := by
  rw [shift, BitVec.ofInt_natCast]

theorem shift_neg (p : Pos) (n : Nat) : shift p (-(n : Int)) = p - BitVec.ofNat 32 n := by
  rw [shift, BitVec.ofInt_neg, BitVec.ofInt_natCast, BitVec.sub_eq_add_neg]

/-! ### What follows, by the rests of a run -/

/-- The engine's part of what follows, from the claim on. -/
abbrev State.engineFollows (s : State) : State :=
  s.claim.reviewRun.leavePause.startRun.reviewRun.energise.idleSampling

theorem State.conclude_engine (w : s.csq.stage ≠ .waiting) (c : s.csq.stage ≠ .compacting) :
    s.conclude = s.engineFollows := by
  rw [State.conclude_eq, State.endWait_idle w, State.compactOn_idle c]

/-- R86: a claim changes the ring alone. -/
theorem State.claim_eq (s : State) : s.claim = { s with ring := s.claim.ring } := by
  simp only [State.claim]
  (repeat' split) <;> rfl

/-- R86: and it looks at the label queue and the ring alone. -/
theorem State.claim_of (lbq : v.lbq = u.lbq) (ring : v.ring = u.ring) : v.claim = { v with ring := u.claim.ring } := by
  rw [State.claim_eq, State.claim_ring_congr lbq ring]

/-- R116: what a run counts ahead does not depend on the motor's speed or rest. -/
theorem State.horizon_congr (lbq : v.lbq = u.lbq) (ring : v.ring = u.ring) (nvs : v.nvs = u.nvs)
    (reg : v.msu.reg = u.msu.reg) (pos : v.fmu.pos = u.fmu.pos) : v.horizon = u.horizon := by
  have slew (q : Pos) : v.slewFrom q = u.slewFrom q := by simp only [State.slewFrom, reg, nvs]
  have held (c : Copy) (line : Nat) : v.heldFrom c line = u.heldFrom c line := by simp only [State.heldFrom, ring]
  have beyond (r : Nat) (l : List Nat) : v.roadBeyond r l = u.roadBeyond r l := by
    simp only [State.roadBeyond, slew, held, lbq, pos]
  simp only [State.horizon, lbq, held, beyond]

/-- The motor at rest in a run, for this reason. -/
abbrev State.restingFor (s : State) (reason : Rest) : State :=
  { s with fmu := { s.fmu with speed := 0, rest := reason, settling := false } }

theorem State.inRun_iff : s.inRun = true ↔ s.eng.cond = .running ∧ s.fmu.mode = .printRun ∧ s.fmu.move = .run := by
  simp [State.inRun, and_assoc]

/-- R116, R142: a run whose horizon is 0 rests at S or below, and the reason is acted on. -/
theorem State.weighRest_rests (run : s.inRun = true) (none : s.horizon.count = 0)
    (slow : s.fmu.speed ≤ s.nvs.mech.startSpeed) :
    s.weighRest = (s.restingFor s.horizon.beyond.rest).actOnRest := by
  have rests : s.restReason = s.restingFor s.horizon.beyond.rest := if_pos ⟨none, slow⟩
  rw [State.weighRest, if_pos run, rests]

/-- R116: a run that may step has no reason to rest. -/
theorem State.weighRest_steps (run : s.inRun = true) (more : 0 < s.horizon.count) :
    s.weighRest = { s with fmu := { s.fmu with rest := .none } } := by
  have steps : s.restReason = { s with fmu := { s.fmu with rest := .none } } :=
    if_neg fun h => Nat.ne_of_gt more h.1
  rw [State.weighRest, if_pos run, steps]
  rfl

theorem State.weighRest_still (run : s.inRun = false) : s.weighRest = s := by
  rw [State.weighRest, if_neg (by simp [run])]

/-- A state that a weighed run has become, where no run is on any more. -/
theorem State.engineFollows_of_weighed (weighed : u.claim.weighRest = v.claim) (ended : v.inRun = false) :
    u.engineFollows = v.engineFollows := by
  have still : v.claim.inRun = false := by simpa [State.inRun] using ended
  have reviewed : u.claim.reviewRun = v.claim := by rw [State.reviewRun, weighed, State.weighRest_still still]
  rw [State.engineFollows, State.engineFollows, reviewed, State.reviewRun_still still]

theorem State.engineFollows_rests (run : s.inRun = false) (may : s.mayRun = false) : s.OnlyRests s.engineFollows :=
  ⟨s.engine_follows.2.2, State.engine_rests run may⟩

/-- R142: where the weighing of a run has ended it. -/
theorem State.onlyRests_of_weighed (weighed : u.claim.weighRest = v.claim) (ended : v.inRun = false)
    (none : v.mayRun = false) : v.OnlyRests u.engineFollows := by
  rw [State.engineFollows_of_weighed weighed ended]
  exact State.engineFollows_rests ended none

theorem State.mayRun_iff : s.mayRun = true ↔
    (s.eng.cond = .idle ∨ s.eng.cond = .paused) ∧ s.lbq.queue ≠ [] ∧ s.lbq.gate = true ∧ s.eng.headOpen = false ∧
      s.hdu.thermal = .normal ∧ s.msu.absent = false ∧ s.fmu.motion = none := by
  cases thermal : s.hdu.thermal <;> simp [State.mayRun, Thermal.hold, thermal, and_assoc]

/-! ### The road's end -/

/-- R115: a road that ends at a closed gate. -/
theorem State.gate_of_gateClosed (closed : s.horizon.beyond = .gateClosed) : s.lbq.gate = false := by
  have beyond (r : Nat) (l : List Nat) (h : (s.roadBeyond r l).beyond = .gateClosed) : s.lbq.gate = false := by
    cases gate : s.lbq.gate with
    | false => rfl
    | true =>
      simp only [State.roadBeyond, gate, Bool.not_true, Bool.false_and, Bool.false_eq_true, if_false, if_true] at h
      split at h
      · cases h
      · split at h <;> cases h
  simp only [State.horizon] at closed
  split at closed
  · exact beyond _ _ closed
  · split at closed
    · cases closed
    · exact beyond _ _ closed

/-! ### The rests of a run -/

/-- R142: at a closed gate the run ends in PAUSED. -/
theorem State.gate_rests (run : u.claim.inRun = true) (none : u.claim.horizon.count = 0)
    (closed : u.claim.horizon.beyond = .gateClosed) (slow : u.fmu.speed ≤ u.nvs.mech.startSpeed) :
    ({ u with fmu := u.fmu.atRest, eng := { u.eng with cond := .paused } } : State).OnlyRests u.engineFollows := by
  have gate : u.lbq.gate = false := by simpa using State.gate_of_gateClosed closed
  refine State.onlyRests_of_weighed ?_ rfl ?_
  · rw [State.weighRest_rests run none (by simpa using slow), closed,
      State.claim_of (u := u) (v := { u with fmu := u.fmu.atRest, eng := { u.eng with cond := .paused } }) rfl rfl]
    exact congrArg (fun w : State => (w.restingFor RoadEnd.gateClosed.rest).actOnRest) u.claim_eq
  · simp [State.mayRun, gate]

/-- R142: where the reason that ended the run lets it go on, the run is weighed once more. -/
theorem State.follows_after_action (x : State) :
    x.OnlyFollows x.claim.weighRest.leavePause.startRun.reviewRun.energise.idleSampling := by
  cases run : x.inRun with
  | false =>
    have still : x.claim.inRun = false := by simpa [State.inRun] using run
    have follows := x.engine_follows.2.2
    rwa [State.reviewRun_still still, ← State.weighRest_still still] at follows
  | true =>
    have cond := ((x.claim.weighRest_cond.trans x.claim.weighRest.leavePause_cond).trans (State.startRun_cond _)).trans
      (State.reviewRun_cond _)
    simp only [State.claim_keeps] at cond
    refine ⟨by simp, by simp, by simp, by simp, by simp, by simp, by simp, by simp, by simpa using cond, by simp,
      fun no => absurd (run.symm.trans no) (by decide)⟩

/-- R116: a run that rests for lack of lines, or steps on, is at the same reason when it is weighed again. -/
theorem State.engineFollows_steady {r : State} (first : u.claim.weighRest = r) (again : r.weighRest = r)
    (running : r.eng.cond = .running) : u.engineFollows = r.energise.idleSampling := by
  have reviewed : u.claim.reviewRun = r := by rw [State.reviewRun, first, again]
  have paused : r.leavePause = r := by rw [State.leavePause, if_neg (by rw [running]; nofun)]
  have started : r.startRun = r := State.startRun_still (by simp [State.mayRun, running])
  rw [State.engineFollows, reviewed, paused, started, State.reviewRun, again, again]

theorem State.restingFor_horizon (s : State) (reason : Rest) : (s.restingFor reason).horizon = s.horizon :=
  State.horizon_congr rfl rfl rfl rfl rfl

/-- R116: a starved run rests, and its motor's idle samples come. -/
theorem State.starved_rests (run : u.claim.inRun = true) (none : u.claim.horizon.count = 0)
    (slow : u.fmu.speed ≤ u.nvs.mech.startSpeed) {c : Copy} {line : Nat}
    (starved : u.claim.horizon.beyond = .notHeld c line) : u.engineFollows = { u.claim with
      fmu := { u.fmu with speed := 0, rest := .starved, settling := false }
      msu := { u.msu with idleTimer := some (u.msu.idleTimer.getD 50) } } := by
  obtain ⟨running, mode, move⟩ := State.inRun_iff.mp run
  rw [u.claim_keeps.2.2.2.2.2.1] at mode move
  have first : u.claim.weighRest = u.claim.restingFor .starved := by
    rw [State.weighRest_rests run none (by simpa using slow), starved]
    rfl
  have again : (u.claim.restingFor .starved).weighRest = u.claim.restingFor .starved := by
    have runs : (u.claim.restingFor .starved).inRun = true := run
    rw [State.weighRest_rests runs (by rw [State.restingFor_horizon, none]) (Nat.zero_le _), State.restingFor_horizon,
      starved]
    rfl
  have notDue : ((u.claim.restingFor .starved).forwardDue || (u.claim.restingFor .starved).backwardDue) = false := by
    simp [State.forwardDue, State.backwardDue, State.restingFor_horizon, Fmu.goesBack, mode, move, none]
  rw [State.engineFollows_steady first again running, State.energise, if_neg (by simp [notDue]), State.idleSampling,
    if_pos rfl]
  simp [Config.idleInterval]

theorem State.forwardDue_run (mode : s.fmu.mode = .printRun) (move : s.fmu.move = .run) :
    s.forwardDue = (decide (0 < s.horizon.count) || decide (s.startSpeed < s.fmu.speed)) := by
  rw [State.forwardDue, mode]
  exact if_pos move

/-- R125: a run that may step has a step to take, for which a released motor settles first. -/
theorem State.steps_on (run : u.claim.inRun = true) (more : 0 < u.claim.horizon.count) : u.engineFollows.fmu =
    if u.fmu.energised then { u.fmu with rest := .none }
    else { u.fmu with rest := .none, energised := true, settling := true, idleTimer := some 2000 } := by
  obtain ⟨running, mode, move⟩ := State.inRun_iff.mp run
  rw [u.claim_keeps.2.2.2.2.2.1] at mode move
  have horizon : ({ u.claim with fmu := { u.claim.fmu with rest := .none } } : State).horizon = u.claim.horizon :=
    State.horizon_congr rfl rfl rfl rfl rfl
  have first := State.weighRest_steps run more
  have again : ({ u.claim with fmu := { u.claim.fmu with rest := .none } } : State).weighRest =
      { u.claim with fmu := { u.claim.fmu with rest := .none } } :=
    State.weighRest_steps (s := { u.claim with fmu := { u.claim.fmu with rest := .none } }) run (by rwa [horizon])
  have due : ({ u.claim with fmu := { u.claim.fmu with rest := .none } } : State).forwardDue = true := by
    rw [State.forwardDue_run (by simpa using mode) (by simpa using move), horizon]
    simp [more]
  rw [State.engineFollows_steady first again running, (State.idleSampling_keeps _).2.2.2.2.2.2.1, State.energise, due]
  cases energised : u.fmu.energised <;> simp [energised, Config.releaseTime]

/-! ### The end of a run, and the automatic present -/

/-- R142: the engine in IDLE, the motor at rest. -/
abbrev State.runDone (s : State) : State := { s with fmu := s.fmu.atRest, eng := { s.eng with cond := .idle } }

theorem State.endRun_eq (s : State) : s.endRun = s.runDone.autoPresent := rfl

theorem State.autoPresent_ring (s : State) (r : Ring) :
    ({ s with ring := r } : State).autoPresent = { s.autoPresent with ring := r } := by
  simp only [State.autoPresent, State.beginMove]
  (repeat' split) <;> rfl

/-- R124: what an entry into IDLE brings. -/
theorem State.autoPresent_eq (s : State) :
    s.autoPresent =
      if s.nvs.profile.afterBatch = true ∧ s.fmu.present = .atPrintLine ∧ s.eng.headOpen = false then
        if s.nvs.mech.tearOffset = 0 then { s with fmu := { s.fmu with present := .presented, offset := 0 } }
        else { s with fmu := { s.fmu with
          mode := .freeMove, move := .present, rest := .none
          target := some (s.fmu.pos + BitVec.ofNat 32 s.nvs.mech.tearOffset)
          present := .presenting, offset := s.nvs.mech.tearOffset, motion := some ⟨0x00, .engine⟩ } }
      else s := by
  have may : (s.nvs.profile.afterBatch && s.fmu.present == .atPrintLine && !s.eng.headOpen) = true ↔
      s.nvs.profile.afterBatch = true ∧ s.fmu.present = .atPrintLine ∧ s.eng.headOpen = false := by
    simp [and_assoc]
  simp only [State.autoPresent, may, State.beginMove, shift_ofNat]

/-- R142: a run that ends with an empty queue ends in IDLE, where the automatic present may follow. -/
theorem State.endRun_rests {reason : Rest} (weighed : u.claim.weighRest = (u.claim.restingFor reason).endRun)
    (empty : u.lbq.queue = []) : u.runDone.autoPresent.OnlyRests u.engineFollows := by
  refine State.onlyRests_of_weighed ?_ (by simp [State.inRun]) (by simp [State.mayRun, empty])
  rw [weighed, State.endRun_eq, State.claim_of (u := u) (v := u.runDone.autoPresent) (by simp) (by simp)]
  have same : (u.claim.restingFor reason).runDone = { u.runDone with ring := u.claim.ring } :=
    congrArg (fun w : State => (w.restingFor reason).runDone) u.claim_eq
  rw [same, State.autoPresent_ring]

/-! ### How a run goes on -/

theorem State.countEdges_ring (s : State) (r : Ring) :
    ({ s with ring := r } : State).countEdges = { s.countEdges with ring := r } := by
  have far : ({ s with ring := r } : State).reachable = s.reachable := rfl
  rcases find : s.msu.find with _ | f
  · simp only [State.countEdges, find]
  · simp only [State.countEdges, find, far]
    split <;> rfl

/-- R151: an edge find has begun, its edges not yet counted. -/
abbrev State.findBegun (s : State) (n : Nat) : State :=
  { s with
    msu := { s.msu with
      reg := .lost
      edges := s.msu.edges.filter fun e => decide (0 < ahead s.fmu.pos e)
      find := some ⟨n, none, 0⟩ }
    fmu := { s.fmu with move := .find, target := none, rest := .none } }

theorem State.beginFind_eq (s : State) (n : Nat) : s.beginFind n = (s.findBegun n).countEdges := rfl

theorem State.beginFind_ring (s : State) (r : Ring) (n : Nat) :
    ({ s with ring := r } : State).beginFind n = { s.beginFind n with ring := r } :=
  State.countEdges_ring (s.findBegun n) r

theorem State.runOn_ring (s : State) (r : Ring) : ({ s with ring := r } : State).runOn = { s.runOn with ring := r } := by
  have reached (v : State) : ({ v with ring := r } : State).findReached = v.findReached := rfl
  simp only [State.runOn, State.beginFind_ring, reached]
  (repeat' split) <;> rfl

/-- R151: with no edge ahead, an edge find has its edges still to come. -/
theorem State.beginFind_passed (n : Nat) (passed : ∀ e ∈ s.msu.edges, (e - s.fmu.pos).toInt ≤ 0) :
    s.beginFind n = { s.findBegun n with msu := { (s.findBegun n).msu with edges := [] } } := by
  have none : (s.msu.edges.filter fun e => decide (0 < ahead s.fmu.pos e)) = [] := by
    simpa [ahead] using passed
  rw [State.beginFind_eq, State.findBegun, none]
  cases n <;> rfl

/-- R142: with more to print and no top known, the run goes on, by an edge find where none is known. -/
theorem State.topUnknown_follows (run : u.claim.inRun = true) (none : u.claim.horizon.count = 0)
    (lost : u.claim.horizon.beyond = .topUnknown) (slow : u.fmu.speed ≤ u.nvs.mech.startSpeed)
    (more : u.lbq.workRemains = true) : (u.restingFor .topUnknown).runOn.OnlyFollows u.engineFollows := by
  have remains : (u.claim.restingFor .topUnknown).lbq.workRemains = true := by simpa using more
  have same : u.claim.restingFor .topUnknown = { u.restingFor .topUnknown with ring := u.claim.ring } :=
    congrArg (fun w : State => w.restingFor .topUnknown) u.claim_eq
  have weighed : u.claim.weighRest = (u.restingFor .topUnknown).runOn.claim := by
    rw [State.weighRest_rests run none (by simpa using slow), lost,
      State.claim_of (u := u) (v := (u.restingFor .topUnknown).runOn) (by simp) (by simp)]
    refine (if_pos remains).trans ?_
    rw [RoadEnd.rest, same, State.runOn_ring]
  have follows := State.follows_after_action (u.restingFor .topUnknown).runOn
  rwa [← weighed] at follows

/-! ### How a run starts -/

/-- R125: a run whose motor retracts or searches has a step to take, and the motor is energised for it. -/
theorem State.conclude_underWay (w : s.csq.stage ≠ .waiting) (c : s.csq.stage ≠ .compacting)
    (running : s.eng.cond = .running) (mode : s.fmu.mode = .printRun) (other : s.fmu.move ≠ .run) :
    s.conclude.eng = s.eng ∧ s.conclude.msu.find = s.msu.find ∧ s.conclude.msu.edges = s.msu.edges ∧
    s.conclude.fmu.energised = true ∧ s.conclude.fmu.mode = s.fmu.mode ∧ s.conclude.fmu.move = s.fmu.move ∧
    s.conclude.fmu.present = s.fmu.present ∧ s.conclude.fmu.target = s.fmu.target := by
  have still : s.claim.inRun = false := by simp [State.inRun, other]
  have stays : s.claim.leavePause = s.claim := by rw [State.leavePause, if_neg (by simp [running])]
  have begun : s.claim.startRun = s.claim := State.startRun_still (by simp [State.mayRun, running])
  have due : (s.claim.forwardDue || s.claim.backwardDue) = true := by
    cases back : s.fmu.goesBack <;> simp [State.forwardDue, State.backwardDue, mode, other, back]
  rw [State.conclude_engine w c, State.engineFollows, State.reviewRun_still still, stays, begun,
    State.reviewRun_still still]
  cases on : s.fmu.energised <;> simp [State.idleSampling_msu, State.energise, due, on]

theorem exec_runStart (h : s.InService) (may : s.mayRun = true) : exec .runStart s = .next s.startRun.conclude :=
  (congrArg Host.Outcome.next (State.served_inService h _)).trans (congrArg _ (if_pos may))

theorem exec_runStart_still (none : s.mayRun = false) : exec .runStart s = .next s := by
  refine congrArg Host.Outcome.next (?_ : s.served _ = s)
  rw [State.served]
  split
  · exact if_neg (by simp [none])
  · rfl

theorem runStart_follows (may : s.mayRun = true) (w : s.csq.stage ≠ .waiting) (c : s.csq.stage ≠ .compacting) :
    s.startRun.conclude.hpu = s.hpu ∧ s.startRun.conclude.csq = s.csq ∧ s.OnlyFollows s.startRun.conclude ∧
    s.startRun.OnlyFollows s.startRun.conclude := by
  obtain ⟨hpu, csq, follows⟩ := State.conclude_follows (s := s.startRun) (by simpa using w) (by simpa using c)
  obtain ⟨gst, lbq, hdu, nvs, ram, strap, pending, pos, cond, ring, rests⟩ := id follows
  refine ⟨by simpa using hpu, by simpa using csq, ⟨by simpa using gst, by simpa using lbq, by simp, by simp, by simp, by simp,
    by simp, by simp, s.startRun_cond.trans cond, ?_, fun _ no => absurd (may.symm.trans no) (by decide)⟩, follows⟩
  rw [ring, State.claim_ring_congr (u := s) (by simp) (by simp)]

/-- A run whose media, presented by this offset, is being retracted. -/
abbrev State.retracting (s : State) : State :=
  { s with fmu := { s.fmu with
    mode := .printRun, move := .retract, present := .retracting
    target := some (s.fmu.pos - BitVec.ofNat 32 s.fmu.offset) } }

theorem State.beginRun_retracting (presented : s.fmu.present = .presented) (offset : s.fmu.offset ≠ 0) :
    s.beginRun = s.retracting := by
  rw [State.beginRun, if_pos presented, if_neg offset, shift_neg]

/-- R123: presented media is retracted before the first line. -/
theorem runStart_retracts (may : s.mayRun = true) (w : s.csq.stage ≠ .waiting) (c : s.csq.stage ≠ .compacting)
    (presented : s.fmu.present = .presented) (offset : s.fmu.offset ≠ 0) :
    let t := s.startRun.conclude
    t.eng.cond = .running ∧ t.fmu.mode = .printRun ∧ t.fmu.move = .retract ∧ t.fmu.present = .retracting ∧
      t.fmu.target = some (s.fmu.pos - BitVec.ofNat 32 s.fmu.offset) ∧ t.fmu.energised = true := by
  have begun : s.startRun = ({ s with eng := { s.eng with cond := .running } } : State).retracting := by
    rw [State.startRun, if_pos may]
    exact State.beginRun_retracting presented offset
  rw [begun]
  obtain ⟨eng, -, -, energised, mode, move, present, target⟩ := State.conclude_underWay
    (s := ({ s with eng := { s.eng with cond := .running } } : State).retracting) w c rfl rfl (Move.noConfusion ·)
  refine ⟨?_, mode, move, present, target, energised⟩
  rw [eng]

/-- A run that searches its first edge, with no edge ahead. -/
abbrev State.searching (s : State) : State :=
  { s with
    msu := { s.msu with reg := .lost, edges := [], find := some ⟨1, none, 0⟩ }
    fmu := { s.fmu with mode := .printRun, move := .find, target := none, rest := .none } }

theorem State.runOn_searching (unknown : s.msu.reg.state = .unknown) (mode : s.nvs.profile.mode ≠ .continuous)
    (passed : ∀ e ∈ s.msu.edges, (e - s.fmu.pos).toInt ≤ 0) : s.runOn = s.searching := by
  have found := State.beginFind_passed 1 passed
  have reached : (s.beginFind 1).findReached = false := by rw [found]; rfl
  simp only [State.runOn, unknown, mode, if_true, if_false, reached, Bool.false_eq_true]
  rw [found]

/-- R151: with registration UNKNOWN and no edge ahead, a run starts with an edge find of one edge. -/
theorem runStart_finds (may : s.mayRun = true) (w : s.csq.stage ≠ .waiting) (c : s.csq.stage ≠ .compacting)
    (present : s.fmu.present ≠ .presented) (unknown : s.msu.reg.state = .unknown)
    (mode : s.nvs.profile.mode ≠ .continuous) (passed : ∀ e ∈ s.msu.edges, (e - s.fmu.pos).toInt ≤ 0) :
    let t := s.startRun.conclude
    t.eng.cond = .running ∧ t.fmu.mode = .printRun ∧ t.fmu.move = .find ∧ t.fmu.target = none ∧
      t.msu.find = some ⟨1, none, 0⟩ ∧ t.msu.edges = [] ∧ t.fmu.energised = true := by
  have begun : s.startRun = ({ s with eng := { s.eng with cond := .running } } : State).searching := by
    rw [State.startRun, if_pos may, State.beginRun, if_neg present]
    exact State.runOn_searching unknown mode passed
  rw [begun]
  obtain ⟨eng, find, edges, energised, mode, move, -, target⟩ := State.conclude_underWay
    (s := ({ s with eng := { s.eng with cond := .running } } : State).searching) w c rfl rfl (Move.noConfusion ·)
  refine ⟨?_, mode, move, target, find, edges, energised⟩
  rw [eng]

/-- Settles O52: a run starts, rests with the reason its road gives, and the motor is released. -/
theorem runsStartAndTheMotorIsReleased : Obligations.RunsStartAndTheMotorIsReleased := by
  unfold Obligations.RunsStartAndTheMotorIsReleased
  refine ⟨fun s => State.mayRun_iff, fun s none => exec_runStart_still none, fun s h may w c => ?_, fun u => ?_,
    fun u w c run => ?_, fun s h composing still => ?_, fun s h => ?_⟩
  · obtain ⟨hpu, csq, ofOld, ofNew⟩ := runStart_follows may w c
    have begun : s.startRun = ({ s with eng := { s.eng with cond := .running } } : State).beginRun := if_pos may
    exact ⟨_, exec_runStart h may, hpu, csq, ofOld, begun ▸ ofNew, runStart_retracts may w c, runStart_finds may w c⟩
  · refine ⟨State.beginRun_retracting, fun presented offset => ?_, fun present => if_neg present,
      fun known => if_neg known, fun unknown mode => ?_, fun unknown mode => ⟨fun no => ?_, fun reached => ?_⟩⟩
    · rw [State.beginRun, if_pos presented, if_pos offset]
    · rw [State.runOn, if_pos unknown, if_pos mode]
      rfl
    · rw [State.runOn, if_pos unknown, if_neg mode]
      exact if_neg (by rw [no]; nofun)
    · have pos : (u.beginFind 1).fmu.pos = u.fmu.pos := by simp
      rw [State.runOn, if_pos unknown, if_neg mode, ← pos]
      exact if_pos reached
  · rw [State.conclude_engine w c]
    intro claimed h t resting done presents tear ends
    have ended (reason : Rest) (weighed : claimed.weighRest = (claimed.restingFor reason).endRun)
        (empty : u.lbq.queue = []) : ends := by
      have rests := State.endRun_rests weighed empty
      rw [show u.runDone.autoPresent = if presents then if tear = 0 then _ else _ else done from
        State.autoPresent_eq _] at rests
      refine ⟨fun no => ?_, fun yes zero => ?_, fun yes far => ?_⟩
      · rwa [if_neg no] at rests
      · rwa [if_pos yes, if_pos zero] at rests
      · rwa [if_pos yes, if_neg far] at rests
    refine ⟨State.steps_on run, fun none slow => ⟨fun c line => State.starved_rests run none slow,
      fun closed => State.gate_rests run none closed slow, fun left empty => ended .finished ?_ empty,
      fun lost printing empty => ended .topUnknown ?_ empty,
      fun lost more => State.topUnknown_follows run none lost slow ?_⟩⟩
    · rw [State.weighRest_rests run none (by simpa [claimed] using slow), left]
      rfl
    · have rest : claimed.lbq.workRemains = false := by
        simp [claimed, Lbq.workRemains, Lbq.nextCopy, printing, empty]
      rw [State.weighRest_rests run none (by simpa [claimed] using slow), lost]
      exact if_neg (by rw [show (claimed.restingFor _).lbq.workRemains = false from rest]; nofun)
    · rw [Lbq.workRemains, Bool.or_eq_true, Option.isSome_iff_ne_none, Option.isSome_iff_ne_none]
      exact more
  · refine (congrArg Host.Outcome.next (State.served_inService h _)).trans (congrArg _ (if_pos ?_))
    simp [still, Option.isSome_iff_ne_none.mpr composing]
  · refine (congrArg Host.Outcome.next (State.served_inService h _)).trans (congrArg _ (if_congr ?_ rfl rfl))
    simp [Option.isSome_iff_ne_none, and_assoc]

/-! ### SET RUN GATE -/

theorem exec_setRunGate (h : s.InService) : exec .setRunGate s = .next (s.plain 0x49 []
    (State.completeAfter fun s => ({ s with lbq := { s.lbq with gate := num8 s.csq.block 2 == 1 } }, .ok))) :=
  congrArg Host.Outcome.next (State.served_inService h _)

/-- Settles O38: the gate is set, and a run that rests at it ends in PAUSED. -/
theorem setRunGateSetsTheGate : Obligations.SetRunGateSetsTheGate := by
  unfold Obligations.SetRunGateSetsTheGate
  intro s r c u
  have ranges : s.ranges s.csq.block ++ [] = [(decide (1 < num8 s.csq.block 2), badParameter 2)] := by
    simp [State.ranges, r.code, runGateRange]
  constructor
  · intro asked
    obtain ⟨acts, ends, follows⟩ := State.completes (checks := [])
      (effect := fun s => (({ s with lbq := { s.lbq with gate := num8 s.csq.block 2 == 1 } } : State), Ending.ok)) r
      (by decide) (.inl c.1) c.2 (by rw [ranges]; simpa [firstOf] using asked) rfl rfl
    have is : ({ s with lbq := { s.lbq with gate := num8 s.csq.block 2 == 1 } } : State) = u := by
      have same : (num8 s.csq.block 2 == 1) = decide (num8 s.csq.block 2 = 1) := rfl
      rw [same]
    rw [is] at follows
    refine ⟨_, (exec_setRunGate r.1).trans (congrArg _ acts), ends, follows, fun run none closed slow => ?_⟩
    have rests := State.gate_rests run none closed slow
    rw [← State.conclude_engine (s := u) (by simp [u, r.2.2.1]) (by simp [u, r.2.2.1])] at rests
    have same : State.completeAfter (fun s => (({ s with
        lbq := { s.lbq with gate := num8 s.csq.block 2 == 1 } } : State), Ending.ok)) s = u.conclude.finish .ok := by
      rw [← is]
      rfl
    rw [same]
    exact rests.congr (State.SameEngine.refl _) (State.finish_sameEngine _ _)
  · intro beyond
    exact State.refusesPlain r (by decide) (.inl c.1) (exec_setRunGate r.1)
      (by rw [ranges]; simp [firstOf, beyond]; rfl)

end Sys2Proof.Machine

end

section
/-! Motion commands (R33 to R37, R121 to R124): their acts, and how FEED, PRESENT and RETRACT put a free move in hand. -/

namespace Sys2Proof.Machine

variable {s t u v : State} {code : Byte} {row : Instr}

/-! ### The first act of a motion command -/

theorem State.motion_refuses {e : Ending} (r : s.Ready code) (gate : s.eng.cond ≠ .faulted)
    (fails : firstOf (s.ranges s.csq.block) = some e) : s.motion code = s.finish e := by
  simp only [State.motion, State.inHand_validate r, if_true, State.gateAndRanges_passes (.inl gate), fails]

/-- R35: behind a free motion in progress the command waits. -/
theorem State.motion_waits (r : s.Ready code) (c : s.Clear) (passes : firstOf (s.ranges s.csq.block) = none)
    (moving : s.fmu.motion ≠ none) :
    s.motion code = { s with csq := { s.csq with stage := .waiting, waitTimer := some 1500 } } := by
  simp only [State.motion, State.inHand_validate r, if_true, State.gateAndRanges_passes (.inl c.1), passes,
    Option.isSome_iff_ne_none.mpr moving, c.2, Bool.false_eq_true, if_false, Config.motionWait]

theorem State.motion_acts (r : s.Ready code) (gate : s.eng.cond ≠ .faulted)
    (passes : firstOf (s.ranges s.csq.block) = none) (still : s.fmu.motion = none) :
    s.motion code = s.act s.motionChecksFor fun s => s.commitMotion.conclude := by
  simp only [State.motion, State.inHand_validate r, if_true, State.gateAndRanges_passes (.inl gate), passes, still,
    Option.isSome_none, Bool.false_eq_true, if_false]

theorem exec_motion (h : s.InService) : (row, code) ∈ [(Instr.feed, (0x51 : Byte)), (.advanceToEdge, 0x52),
    (.calibrateMedia, 0x53), (.present, 0x54), (.retract, 0x55), (.resume, 0x56)] →
    exec row s = .next (s.motion code) := by
  simp only [List.mem_cons, List.not_mem_nil, or_false, Prod.mk.injEq]
  rintro (⟨rfl, rfl⟩ | ⟨rfl, rfl⟩ | ⟨rfl, rfl⟩ | ⟨rfl, rfl⟩ | ⟨rfl, rfl⟩ | ⟨rfl, rfl⟩) <;>
    exact congrArg Host.Outcome.next (State.served_inService h _)

/-! ### The commit of each motion command -/

theorem State.commitMotion_feed (h : byteAt s.csq.block 0 = 0x51) : s.commitMotion = s.commitFeed := by
  rw [State.commitMotion, h]; rfl

theorem State.commitMotion_advance (h : byteAt s.csq.block 0 = 0x52) : s.commitMotion = s.commitAdvance := by
  rw [State.commitMotion, h]; rfl

theorem State.commitMotion_calibrate (h : byteAt s.csq.block 0 = 0x53) : s.commitMotion = s.commitCalibrate := by
  rw [State.commitMotion, h]; rfl

theorem State.commitMotion_present (h : byteAt s.csq.block 0 = 0x54) : s.commitMotion = s.commitPresent := by
  rw [State.commitMotion, h]; rfl

theorem State.commitMotion_retract (h : byteAt s.csq.block 0 = 0x55) : s.commitMotion = s.commitRetract := by
  rw [State.commitMotion, h]; rfl

theorem State.commitMotion_resume (h : byteAt s.csq.block 0 = 0x56) : s.commitMotion = s.commitResume := by
  rw [State.commitMotion, h]; rfl

/-! ### The preconditions -/

/-- An engine in IDLE or PAUSED, its head closed, refuses no move. -/
theorem State.motionChecks_pass (cond : s.eng.cond = .idle ∨ s.eng.cond = .paused) (closed : s.eng.headOpen = false) :
    firstOf s.motionChecks = none := by
  rcases cond with cond | cond <;> simp [State.motionChecks, Condition.live, cond, closed]

theorem State.searchChecks_pass (cond : s.eng.cond = .idle ∨ s.eng.cond = .paused) (closed : s.eng.headOpen = false)
    (media : s.msu.absent = false) : firstOf s.searchChecks = none := by
  rw [State.searchChecks, firstOf_append, State.motionChecks_pass cond closed, media]
  rfl

theorem State.motionChecksFor_move (h : byteAt s.csq.block 0 ∈ [(0x51 : Byte), 0x54, 0x55]) :
    s.motionChecksFor = s.motionChecks := by
  simp only [List.mem_cons, List.not_mem_nil, or_false] at h
  rcases h with h | h | h <;> rw [State.motionChecksFor, h] <;> rfl

theorem State.motionChecksFor_search (h : byteAt s.csq.block 0 ∈ [(0x52 : Byte), 0x53]) :
    s.motionChecksFor = s.searchChecks := by
  simp only [List.mem_cons, List.not_mem_nil, or_false] at h
  rcases h with h | h <;> rw [State.motionChecksFor, h] <;> rfl

theorem State.motionChecksFor_resume (h : byteAt s.csq.block 0 = 0x56) : s.motionChecksFor = s.resumeChecks := by
  rw [State.motionChecksFor, h]
  rfl

/-! ### A command that ends, and what follows -/

/-- A command ends, and the engine goes on. -/
theorem State.finish_follows (notSense : s.csq.block.head? ≠ some 0x12) (e : Ending) :
    s.EndsAndFollows (s.finish e).conclude e := by
  obtain ⟨hpu, csq, follows⟩ := State.conclude_follows (s := s.finish e) (fun h => Stage.noConfusion h)
    (fun h => Stage.noConfusion h)
  exact ⟨_, State.finish_endsWith notSense e, State.finish_sameEngine s e, hpu, csq, follows⟩

theorem State.OnlyRests.halted (h : u.OnlyRests t) : (t.eng.cond == .halted) = (u.eng.cond == .halted) := by
  obtain ⟨-, -, cond⟩ := h
  rw [State.CondRests] at cond
  by_cases paused : u.eng.cond = .paused ∧ u.lbq.queue = []
  · rw [if_pos paused] at cond
    rw [cond, paused.1]
    rfl
  · rw [if_neg paused] at cond
    rw [cond]

/-- R33: the completion byte of a command that has ended is as it was, where the engine rests. -/
theorem State.EndsWith.rests {e : Ending} (h : s.EndsWith u e) (hpu : t.hpu = u.hpu) (csq : t.csq = u.csq)
    (rests : u.OnlyRests t) : s.EndsWith t e := by
  obtain ⟨ends, sequencer⟩ := h
  have halted := rests.halted
  obtain ⟨⟨-, -, -, -, -, -, -, -, ⟨eng, -⟩, -⟩, ⟨motor, -⟩, -⟩ := rests
  have events : t.eng.events = u.eng.events := by rw [eng]
  have motion : t.fmu.motion = u.fmu.motion := by rcases motor with ⟨same, -⟩ | ⟨-, same⟩ <;> rw [same]
  exact ⟨by rw [hpu, ends, halted, events, motion], by rw [csq, sequencer]⟩

/-- A free move in hand, of this owner. -/
abbrev State.moved (s : State) (m : FreeMotion) : State := { s with fmu := { s.fmu with motion := some m } }

/-- R141: no run starts beside a free motion. -/
theorem State.mayRun_moving (moving : s.fmu.motion ≠ none) : s.mayRun = false := by
  rw [Bool.eq_false_iff]
  intro may
  obtain ⟨-, -, -, -, -, -, still⟩ := State.mayRun_iff.mp may
  exact moving still

/-- A motor in a free move has no run to review, and none may start. -/
theorem State.freeMove_rests (w : s.csq.stage ≠ .waiting) (c : s.csq.stage ≠ .compacting) (mode : s.fmu.mode = .freeMove)
    (moving : s.fmu.motion ≠ none) : s.OnlyRests s.conclude :=
  State.conclude_rests w c (by simp [State.inRun, mode]) (State.mayRun_moving moving)

/-- The owner of a motion that this block begins (R33). -/
abbrev ownerOf (block : List Byte) : Owner := if (byteAt block 1).getLsbD 7 then .detached else .attached

/-- A command ends beside a free move, which goes on. -/
theorem State.finish_rests (notSense : s.csq.block.head? ≠ some 0x12) (mode : s.fmu.mode = .freeMove)
    (moving : s.fmu.motion ≠ none) (e : Ending) :
    s.OnlyRests (s.finish e).conclude ∧ s.EndsWith (s.finish e).conclude e := by
  have idle : (s.finish e).csq.stage = .idle := rfl
  have w : (s.finish e).csq.stage ≠ .waiting := by rw [idle]; nofun
  have c : (s.finish e).csq.stage ≠ .compacting := by rw [idle]; nofun
  have same := State.finish_sameEngine s e
  have motor : (s.finish e).fmu = s.fmu := by simp
  have rests := State.freeMove_rests w c (by rw [motor, mode]) (by rwa [motor])
  obtain ⟨hpu, csq, -⟩ := State.conclude_follows w c
  refine ⟨rests.congr ?_ (State.SameEngine.refl _), (State.finish_endsWith notSense e).rests hpu csq rests⟩
  simp [State.SameEngine]

/-- R33: a detached motion completes its command now. -/
theorem State.accept_detached (detached : (byteAt u.csq.block 1).getLsbD 7 = true) :
    u.accept code = (u.moved ⟨code, .detached⟩).finish .ok := by
  rw [State.accept, detachBit, detached]
  rfl

/-- R33: an attached one when it has ended. -/
theorem State.accept_attached (attached : (byteAt u.csq.block 1).getLsbD 7 = false) :
    u.accept code = { u.moved ⟨code, .attached⟩ with csq := { u.csq with stage := .moving } } := by
  rw [State.accept, detachBit, attached]
  rfl

theorem State.accept_rests (notSense : u.csq.block.head? ≠ some 0x12) (mode : u.fmu.mode = .freeMove) :
    (u.moved ⟨code, ownerOf u.csq.block⟩).OnlyRests (u.accept code).conclude ∧
    if (byteAt u.csq.block 1).getLsbD 7 then u.EndsWith (u.accept code).conclude .ok
    else (u.accept code).conclude.hpu = u.hpu ∧ (u.accept code).conclude.csq = { u.csq with stage := .moving } := by
  by_cases detached : (byteAt u.csq.block 1).getLsbD 7 = true
  · have moving : (u.moved ⟨code, .detached⟩).fmu.motion ≠ none := nofun
    obtain ⟨rests, ends⟩ := State.finish_rests (s := u.moved ⟨code, .detached⟩) notSense mode moving .ok
    rw [State.accept_detached detached, ownerOf, if_pos detached, if_pos detached]
    exact ⟨rests, ends⟩
  · have attached : (byteAt u.csq.block 1).getLsbD 7 = false := by simpa using detached
    rw [State.accept_attached attached, ownerOf, if_neg detached, if_neg detached]
    generalize begun : ({ u.moved ⟨code, .attached⟩ with csq := { u.csq with stage := .moving } } : State) = v
    have stage : v.csq.stage = .moving := by rw [← begun]
    have rests := State.freeMove_rests (s := v) (by rw [stage]; nofun) (by rw [stage]; nofun)
      (by rw [← begun]; exact mode) (by rw [← begun]; nofun)
    obtain ⟨hpu, csq, -⟩ := State.conclude_follows (s := v) (by rw [stage]; nofun) (by rw [stage]; nofun)
    refine ⟨rests.congr ?_ (State.SameEngine.refl _), by rw [hpu, ← begun], by rw [csq, ← begun]⟩
    rw [← begun]
    exact State.SameEngine.refl (u.moved ⟨code, .attached⟩)

/-- R33: a motion command whose checks pass puts its free move in hand. -/
theorem State.moveBegins (r : s.Ready code) (notSense : code ≠ 0x12) (c : s.Clear) (runs : exec row s = .next (s.motion code))
    (passes : firstOf (s.ranges s.csq.block) = none) (still : s.fmu.motion = none)
    (met : firstOf s.motionChecksFor = none) (commits : s.commitMotion = u.accept code) (hpu : u.hpu = s.hpu)
    (csq : u.csq = s.csq) (mode : u.fmu.mode = .freeMove) :
    ∃ t, exec row s = .next t ∧ (u.moved ⟨code, ownerOf s.csq.block⟩).OnlyRests t ∧
      if (byteAt s.csq.block 1).getLsbD 7 then s.EndsWith t .ok
      else t.hpu = s.hpu ∧ t.csq = { s.csq with stage := .moving } := by
  obtain ⟨-, -, -, block⟩ := id r
  obtain ⟨rests, ends⟩ := State.accept_rests (u := u) (code := code) (by rw [csq, block]; simpa using notSense)
    mode
  refine ⟨(u.accept code).conclude, ?_, ?_, ?_⟩
  · rw [runs, State.motion_acts r c.1 passes still, State.act_commits met c.2, commits]
  · rwa [csq] at rests
  · rw [csq, hpu] at ends
    by_cases detached : (byteAt s.csq.block 1).getLsbD 7 = true
    · rw [if_pos detached] at ends ⊢
      exact .of_same hpu csq ends
    · rwa [if_neg detached] at ends ⊢

/-- R33: a motion command with no motion to make completes at once. -/
theorem State.moveDone (r : s.Ready code) (notSense : code ≠ 0x12) (c : s.Clear) (runs : exec row s = .next (s.motion code))
    (passes : firstOf (s.ranges s.csq.block) = none) (still : s.fmu.motion = none)
    (met : firstOf s.motionChecksFor = none) (commits : s.commitMotion = u.finish .ok) (csq : u.csq = s.csq) :
    ∃ t, exec row s = .next t ∧ u.EndsAndFollows t .ok := by
  obtain ⟨-, -, -, block⟩ := id r
  refine ⟨(u.finish .ok).conclude, ?_, State.finish_follows (by rw [csq, block]; simpa using notSense) .ok⟩
  rw [runs, State.motion_acts r c.1 passes still, State.act_commits met c.2, commits]

/-! ### FEED, PRESENT and RETRACT -/

/-- R121: the ranges of FEED. -/
theorem State.feedRanges_pass (r : s.Ready 0x51) (distance : int16 s.csq.block 2 ≥ -1024)
    (speed : num16 s.csq.block 4 = 0 ∨ (50 ≤ num16 s.csq.block 4 ∧ num16 s.csq.block 4 ≤ 1600)) :
    firstOf (s.ranges s.csq.block) = none := by
  have ranges : s.ranges s.csq.block = feedRanges s.csq.block := by simp [State.ranges, r.code]
  rw [ranges, feedRanges, firstOf_eq_none]
  simp only [List.mem_cons, List.not_mem_nil, or_false, forall_eq_or_imp, forall_eq, decide_eq_false_iff_not, not_lt,
    outside_eq]
  refine ⟨distance, ?_⟩
  rcases speed with zero | ⟨low, high⟩
  · simp [zero]
  · simp [low, high]

theorem State.noRanges (h : byteAt s.csq.block 0 ∈ [(0x54 : Byte), 0x55, 0x56]) :
    firstOf (s.ranges s.csq.block) = none := by
  simp only [List.mem_cons, List.not_mem_nil, or_false] at h
  rcases h with h | h | h <;> simp [State.ranges, h]

/-- R121: a FEED with a road to go loses registration, and backward the edges too. -/
abbrev State.feeding (s : State) : State :=
  { s with
    fmu := { s.fmu with
      mode := .freeMove, rest := .none, present := .atPrintLine
      move := .feed (decide (int16 s.csq.block 2 < 0)) (num16 s.csq.block 4)
      target := some (s.fmu.pos + BitVec.ofInt 32 (int16 s.csq.block 2)) }
    msu := { s.msu with
      reg := ⟨.unknown, none, false, 0⟩
      edges := if int16 s.csq.block 2 < 0 then [] else s.msu.edges
      lastEdge := if int16 s.csq.block 2 < 0 then none else s.msu.lastEdge } }

theorem State.commitFeed_moves (far : int16 s.csq.block 2 ≠ 0) : s.commitFeed = s.feeding.accept 0x51 := by
  rw [State.commitFeed, if_neg far]
  by_cases back : int16 s.csq.block 2 < 0
  · simp only [State.feeding, back, if_true, decide_true]
    rfl
  · simp only [State.feeding, back, if_false, decide_false]
    rfl

/-- Settles O39: FEED, PRESENT and RETRACT put their free move in hand, or complete at once with none to make. -/
theorem movesArePutInHand : Obligations.MovesArePutInHand := by
  unfold Obligations.MovesArePutInHand
  intro s may c detached begins
  obtain ⟨cond, closed, still⟩ := id may
  have checks := State.motionChecks_pass cond closed
  refine ⟨fun r => ?_, fun r => ?_, fun r => ?_⟩
  · intro d v distance speed
    have passes := State.feedRanges_pass r distance speed
    have met : firstOf s.motionChecksFor = none := by
      rwa [State.motionChecksFor_move (by rw [r.code]; decide)]
    have runs := exec_motion (row := .feed) (code := 0x51) r.1 (by decide)
    have commits := State.commitMotion_feed r.code
    constructor
    · exact fun zero => State.moveDone r (by decide) c runs passes still met (commits.trans (if_pos zero)) rfl
    · exact fun far => State.moveBegins (u := s.feeding) r (by decide) c runs passes still met
        (commits.trans (State.commitFeed_moves far)) rfl rfl rfl
  · intro tear
    have passes := State.noRanges (s := s) (by rw [r.code]; decide)
    have met : firstOf s.motionChecksFor = none := by
      rwa [State.motionChecksFor_move (by rw [r.code]; decide)]
    have runs := exec_motion (row := .present) (code := 0x54) r.1 (by decide)
    have commits := State.commitMotion_present r.code
    refine ⟨fun there => ?_, fun away near => ?_, fun away far => ?_⟩
    · exact State.moveDone r (by decide) c runs passes still met (commits.trans (if_pos there)) rfl
    · exact State.moveDone (u := { s with fmu := { s.fmu with present := .presented, offset := 0 } }) r (by decide) c runs
        passes still met (commits.trans ((if_neg away).trans (if_pos near))) rfl
    · refine State.moveBegins (u := { s with fmu := { s.fmu with
          mode := .freeMove, rest := .none, move := .present, present := .presenting, offset := tear
          target := some (s.fmu.pos + BitVec.ofNat 32 tear) } }) r (by decide) c runs passes still met ?_ rfl rfl rfl
      rw [commits, State.commitPresent, if_neg away, if_neg far, shift_ofNat]
      rfl
  · have passes := State.noRanges (s := s) (by rw [r.code]; decide)
    have met : firstOf s.motionChecksFor = none := by
      rwa [State.motionChecksFor_move (by rw [r.code]; decide)]
    have runs := exec_motion (row := .retract) (code := 0x55) r.1 (by decide)
    have commits := State.commitMotion_retract r.code
    refine ⟨fun there => ?_, fun away near => ?_, fun away far => ?_⟩
    · exact State.moveDone r (by decide) c runs passes still met (commits.trans (if_pos there)) rfl
    · exact State.moveDone (u := s.atPrintLine) r (by decide) c runs passes still met
        (commits.trans ((if_neg away).trans (if_pos near))) rfl
    · refine State.moveBegins (u := { s with fmu := { s.fmu with
          mode := .freeMove, rest := .none, move := .retract, present := .retracting
          target := some (s.fmu.pos - BitVec.ofNat 32 s.fmu.offset) } }) r (by decide) c runs passes still met ?_ rfl rfl rfl
      rw [commits, State.commitRetract, if_neg away, if_neg far, shift_neg]
      rfl

end Sys2Proof.Machine

end

section
/-! Motion commands that wait behind a free motion, or are refused (R35 to R37, R121). -/

namespace Sys2Proof.Machine

variable {s t u v : State} {code : Byte} {row : Instr} {e : Ending}

/-! ### Refusals -/

/-- A motion command refused before any wait. -/
theorem State.refusesMotion (r : s.Ready code) (notSense : code ≠ 0x12) (gate : s.eng.cond ≠ .faulted)
    (runs : exec row s = .next (s.motion code)) (fails : firstOf (s.ranges s.csq.block) = some e) :
    ∃ t, exec row s = .next t ∧ s.SameEngine t ∧ s.EndsWith t e :=
  ⟨_, by rw [runs, State.motion_refuses r gate fails], r.endsWith notSense e⟩

/-- R36: a motion command refused by its preconditions. -/
theorem State.refusesMotion5 (r : s.Ready code) (notSense : code ≠ 0x12) (gate : s.eng.cond ≠ .faulted)
    (runs : exec row s = .next (s.motion code)) (passes : firstOf (s.ranges s.csq.block) = none)
    (still : s.fmu.motion = none) (fails : firstOf s.motionChecksFor = some e) :
    ∃ t, exec row s = .next t ∧ s.SameEngine t ∧ s.EndsWith t e :=
  ⟨_, by rw [runs, State.motion_acts r gate passes still, State.act_refuses fails], r.endsWith notSense e⟩

theorem Condition.live_iff (c : Condition) : c.live = true ↔ c = .running ∨ c = .holding ∨ c = .recovering := by
  cases c <;> simp [Condition.live]

/-- R36: a live engine is busy, for every motion command. -/
theorem State.motionChecksFor_live (live : s.eng.cond.live = true) :
    firstOf s.motionChecksFor = some (refusal .engineBusy) := by
  rw [State.motionChecksFor]
  split <;> simp [State.searchChecks, State.motionChecks, State.resumeChecks, live]

/-- R36: a halted engine refuses with its first cause that persists, or for a move with its primary cause. -/
theorem State.motionChecksFor_halted (halted : s.eng.cond = .halted)
    (persists : byteAt s.csq.block 0 ≠ 0x56 ∨ s.firstPersisting ≠ none) :
    firstOf s.motionChecksFor = some s.haltedRefusal := by
  rw [State.motionChecksFor]
  split
  · simp [State.searchChecks, State.motionChecks, halted, Condition.live, firstOf]
  · simp [State.searchChecks, State.motionChecks, halted, Condition.live, firstOf]
  · rename_i resume
    have open_ : s.haltClear = false := by
      rcases persists with other | persists
      · exact absurd (BitVec.eq_of_toNat_eq resume) other
      · simpa [State.haltClear, Option.isSome_iff_ne_none] using persists
    simp [State.resumeChecks, halted, Condition.live, firstOf, open_]
  · simp [State.motionChecks, halted, Condition.live, firstOf]

/-- R36: an open head refuses every move. -/
theorem State.motionChecksFor_headOpen (rests : s.eng.cond.live = false) (halted : s.eng.cond ≠ .halted)
    (opened : s.eng.headOpen = true) (move : byteAt s.csq.block 0 ≠ 0x56) :
    firstOf s.motionChecksFor = some (refusal .headOpen) := by
  rw [State.motionChecksFor]
  split
  · simp [State.searchChecks, State.motionChecks, halted, rests, opened, firstOf]
  · simp [State.searchChecks, State.motionChecks, halted, rests, opened, firstOf]
  · rename_i resume
    exact absurd (BitVec.eq_of_toNat_eq resume) move
  · simp [State.motionChecks, halted, rests, opened, firstOf]

theorem State.haltedRefusal_persists {c : Cause} (persists : s.firstPersisting = some c) :
    s.haltedRefusal = .error .engineHalted none (.detail (c.sense.byte.setWidth 32)) := by
  rw [State.haltedRefusal, persists]
  cases c <;> rfl

theorem State.haltedRefusal_primary {c : Cause} (clear : s.firstPersisting = none) (primary : s.eng.primary = some c) :
    s.haltedRefusal = .error .engineHalted none (.detail (c.sense.byte.setWidth 32)) := by
  rw [State.haltedRefusal, clear, primary]
  cases c <;> rfl

/-! ### The end of the wait -/

/-- R35: the command that waited, at its preconditions. -/
abbrev State.waited (s : State) : State := { s with csq := { s.csq with stage := .validate, waitTimer := none } }

/-- R35: the wait ends with the motion, and step 5 follows in the same step. -/
theorem State.conclude_waited (waits : s.csq.stage = .waiting) (still : s.fmu.motion = none)
    (steps : s.waited.motionStep5 = v) (acted : v.csq.stage ≠ .waiting) : s.conclude = v.conclude := by
  have ended : s.endWait = v := by
    rw [State.endWait, if_pos ⟨waits, still⟩]
    exact steps
  rw [State.conclude_eq, ended, State.conclude_eq, State.endWait_idle acted]

theorem State.conclude_waited_refuses (waits : s.csq.stage = .waiting) (still : s.fmu.motion = none)
    (notSense : s.csq.block.head? ≠ some 0x12) (fails : firstOf s.waited.motionChecksFor = some e) :
    s.EndsAndFollows s.conclude e := by
  have steps : s.waited.motionStep5 = s.waited.finish e := State.act_refuses fails
  have idle : (s.waited.finish e).csq.stage = .idle := rfl
  rw [State.conclude_waited waits still steps (by rw [idle]; nofun)]
  obtain ⟨w, ends, same, hpu, csq, follows⟩ := State.finish_follows (s := s.waited) notSense e
  exact ⟨w, ends, same, hpu, csq, follows⟩

/-- R35: a FEED that waited is put in hand. -/
theorem State.conclude_waited_feeds (waits : s.csq.stage = .waiting) (still : s.fmu.motion = none)
    (block : byteAt s.csq.block 0 = 0x51) (notSense : s.csq.block.head? ≠ some 0x12)
    (attached : (byteAt s.csq.block 1).getLsbD 7 = false) (far : int16 s.csq.block 2 ≠ 0)
    (calm : s.hpu.breakPending = false) (cond : s.eng.cond = .idle ∨ s.eng.cond = .paused)
    (closed : s.eng.headOpen = false) :
    s.conclude.hpu = s.hpu ∧ s.conclude.csq = { s.csq with stage := .moving, waitTimer := none } ∧
      (s.feeding.moved ⟨0x51, .attached⟩).OnlyRests s.conclude := by
  have checks : firstOf s.waited.motionChecksFor = none := by
    rw [State.motionChecksFor_move (s := s.waited) (by rw [block]; decide)]
    exact State.motionChecks_pass cond closed
  have feeds : s.waited.commitMotion = s.waited.feeding.accept 0x51 :=
    (State.commitMotion_feed (s := s.waited) block).trans (State.commitFeed_moves (s := s.waited) far)
  have steps : s.waited.motionStep5 = s.waited.feeding.accept 0x51 :=
    (State.act_commits (s := s.waited) checks calm).trans feeds
  have moving : (s.waited.feeding.accept 0x51).csq.stage = .moving := by
    rw [State.accept_attached (u := s.waited.feeding) attached]
  obtain ⟨rests, ends⟩ := State.accept_rests (u := s.waited.feeding) (code := 0x51) notSense rfl
  rw [if_neg (by rw [attached]; nofun)] at ends
  rw [ownerOf, if_neg (by rw [attached]; nofun)] at rests
  rw [State.conclude_waited waits still steps (by rw [moving]; nofun)]
  exact ⟨ends.1, ends.2, rests.congr (State.SameEngine.refl _) (State.SameEngine.refl _)⟩

/-! ### The end of a backward FEED, and of a move that the opening head fails -/

theorem State.post_is (s : State) (e : Event) : s.post e = { s with eng := (s.post e).eng } := by
  rw [State.post_eq]

/-- R37: a detached motion that is over is reported by its event. -/
theorem State.endMotion_detached (detached : s.fmu.motion = some ⟨code, .detached⟩) (e : Ending) :
    s.endMotion e = ({ s with fmu := { s.fmu with motion := none } } : State).post (moveEvent code e) := by
  rw [State.endMotion, detached]

theorem exec_backwardStep (h : s.InService) (due : s.backwardDue = true) (elapsed : Nat) :
    exec (.backwardStep elapsed) s = .next (s.advanceClock elapsed).backStep :=
  (congrArg Host.Outcome.next (State.served_inService h _)).trans (congrArg _ (if_pos due))

theorem exec_headStateChange (h : s.InService) : exec .headStateChange s = .next s.headChanges.conclude :=
  congrArg Host.Outcome.next (State.served_inService h _)

/-- R131: an opening head fails a free move. -/
theorem State.headChanges_fails (closed : s.eng.headOpen = false) (rests : s.eng.cond.live = false)
    (halted : s.eng.cond ≠ .halted) (moving : s.fmu.motion ≠ none) :
    s.headChanges = (({ s with eng := { s.eng with headOpen := true } } : State).post
      ⟨.headOpened, 0, 0xFFFF, s.fmu.pos.setWidth 16⟩).failFreeMove .headOpen := by
  simp only [State.headChanges, closed, Bool.not_false, if_true, State.headOpens, State.post_keeps, rests,
    Bool.false_eq_true, if_false, halted, Option.isSome_iff_ne_none.mpr moving]
  rfl

theorem byteAt_head {block : List Byte} (head : block.head? = some code) : byteAt block 0 = code := by
  rw [byteAt, List.getD_eq_getElem?_getD, ← List.head?_eq_getElem?, head, Option.getD_some]

theorem State.SameEngine.post (h : u.SameEngine v) (e : Event) : (u.post e).SameEngine (v.post e) := by
  obtain ⟨gst, lbq, ring, hdu, fmu, msu, eng, nvs, ram, strap, pending⟩ := h
  refine ⟨?_, ?_, ?_, ?_, ?_, ?_, State.post_eng eng e, ?_, ?_, ?_, ?_⟩ <;> simp [*]

/-- R35, R37: an earlier move is reported, and the FEED that waited is put in hand. -/
theorem State.posted_feeds (waits : s.csq.stage = .waiting) (still : s.fmu.motion = none)
    (block : s.csq.block.head? = some 0x51) (attached : (byteAt s.csq.block 1).getLsbD 7 = false)
    (far : int16 s.csq.block 2 ≠ 0) (calm : s.hpu.breakPending = false) (cond : s.eng.cond = .idle ∨ s.eng.cond = .paused)
    (closed : s.eng.headOpen = false) (e : Event) :
    (s.post e).conclude.hpu = s.hpu ∧ (s.post e).conclude.csq = { s.csq with stage := .moving, waitTimer := none } ∧
      ((s.feeding.moved ⟨0x51, .attached⟩).post e).OnlyRests (s.post e).conclude := by
  have hpu : (s.post e).hpu = s.hpu := by simp
  have csq : (s.post e).csq = s.csq := by simp
  have code : byteAt s.csq.block 0 = 0x51 := byteAt_head block
  obtain ⟨p, q, rests⟩ := State.conclude_waited_feeds (s := s.post e) (by rw [csq, waits]) (by simpa using still)
    (by rw [csq, code]) (by rw [csq, block]; decide) (by rw [csq, attached]) (by rwa [csq]) (by rw [hpu, calm])
    (by simpa using cond) (by simpa using closed)
  rw [hpu] at p
  rw [csq] at q
  refine ⟨p, q, rests.congr ?_ (State.SameEngine.refl _)⟩
  rw [s.post_is e, State.post_is (s.feeding.moved ⟨0x51, .attached⟩) e, State.post_eng (u := s.feeding.moved ⟨0x51, .attached⟩)
    (v := s) rfl]
  exact ⟨rfl, rfl, rfl, rfl, rfl, rfl, rfl, rfl, rfl, rfl, rfl⟩

/-- R35: a FEED that waited behind a backward FEED begins as that one reaches its target. -/
theorem backwardFeed_waited (elapsed : Nat) {n : Nat} (h : s.InService) (waits : s.csq.stage = .waiting)
    (block : s.csq.block.head? = some 0x51) (attached : (byteAt s.csq.block 1).getLsbD 7 = false)
    (far : int16 s.csq.block 2 ≠ 0) (calm : s.hpu.breakPending = false) (cond : s.eng.cond = .idle ∨ s.eng.cond = .paused)
    (closed : s.eng.headOpen = false) (detached : s.fmu.motion = some ⟨code, .detached⟩) (mode : s.fmu.mode = .freeMove)
    (move : s.fmu.move = .feed true n) (target : s.fmu.target = some (s.fmu.pos - 1)) :
    let d := int16 s.csq.block 2
    let u : State := { s with
      hdu := { s.hdu with current := none, strobe := [], clock := s.hdu.clock.map (· + elapsed) }
      fmu := { s.fmu with
        pos := s.fmu.pos - 1, speed := 0, backward := true, mode := .freeMove, stop := none, why := none, rest := .none
        move := .feed (decide (d < 0)) (num16 s.csq.block 4), target := some (s.fmu.pos - 1 + BitVec.ofInt 32 d)
        motion := some ⟨0x51, .attached⟩, present := .atPrintLine, energised := true, settling := false
        idleTimer := some 2000 }
      msu := { s.msu with
        reg := ⟨.unknown, none, false, 0⟩, idleTimer := none
        edges := if d < 0 then [] else s.msu.edges
        lastEdge := if d < 0 then none else s.msu.lastEdge } }
    ∃ t, exec (.backwardStep elapsed) s = .next t ∧ t.hpu = s.hpu ∧
      t.csq = { s.csq with stage := .moving, waitTimer := none } ∧
      (u.post ⟨.moveDone, code, 0xFFFF, 0⟩).OnlyRests t := by
  intro d u
  have due : s.backwardDue = true := by simp [State.backwardDue, mode, move, Fmu.goesBack]
  obtain ⟨stepped, is⟩ : ∃ stepped, stepped = (s.advanceClock elapsed).stepBackward.strobeNothing := ⟨_, rfl⟩
  have csq : stepped.csq = s.csq := by rw [is]; rfl
  have there : stepped.fmu.target = some stepped.fmu.pos := by rw [is]; exact target
  have kind : stepped.fmu.move = .feed true n := by rw [is]; exact move
  have owner : stepped.toStopped.fmu.motion = some ⟨code, .detached⟩ := by rw [is]; exact detached
  have arrives : (s.advanceClock elapsed).backStep =
      (({ stepped.toStopped with fmu := { stepped.toStopped.fmu with motion := none } } : State).post
        ⟨.moveDone, code, 0xFFFF, 0⟩).conclude := by
    rw [State.backStep, ← is]
    refine congrArg State.conclude ((if_pos there).trans ?_)
    rw [State.backAtTarget, kind]
    exact State.endMotion_detached owner .ok
  obtain ⟨hpu, sequencer, rests⟩ := State.posted_feeds
    (s := { stepped.toStopped with fmu := { stepped.toStopped.fmu with motion := none } }) (csq ▸ waits) rfl
    (csq ▸ block) (csq ▸ attached) (csq ▸ far) (by rw [is]; exact calm) (by rw [is]; exact cond)
    (by rw [is]; exact closed) ⟨.moveDone, code, 0xFFFF, 0⟩
  refine ⟨_, (exec_backwardStep h due elapsed).trans (congrArg _ arrives), by rw [hpu, is]; rfl, by rw [sequencer, is]; rfl,
    rests.congr (.post ?_ _) (State.SameEngine.refl _)⟩
  rw [is]
  exact ⟨rfl, rfl, rfl, rfl, rfl, rfl, rfl, rfl, rfl, rfl, rfl⟩

/-- R35, R131: a FEED that waited behind a move which the opening head ends fails with HEAD OPEN. -/
theorem headOpens_waited (h : s.InService) (waits : s.csq.stage = .waiting) (block : s.csq.block.head? = some 0x51)
    (cond : s.eng.cond = .idle ∨ s.eng.cond = .paused) (closed : s.eng.headOpen = false)
    (detached : s.fmu.motion = some ⟨code, .detached⟩) :
    let u : State := ({ s with eng := { s.eng with headOpen := true } } : State).post
      ⟨.headOpened, 0, 0xFFFF, s.fmu.pos.setWidth 16⟩
    ∃ t, exec .headStateChange s = .next t ∧
      (({ u.freeMoveFailed with fmu := { u.freeMoveFailed.fmu with motion := none } } : State).post
        ⟨.moveFailed, code, 0xFFFF, 0x11⟩).EndsAndFollows t (.error .headOpen none .nothing) := by
  intro u
  have rests : s.eng.cond.live = false := by rcases cond with cond | cond <;> rw [cond] <;> rfl
  have halted : s.eng.cond ≠ .halted := by rcases cond with cond | cond <;> rw [cond] <;> nofun
  have changes : s.headChanges = u.failFreeMove .headOpen :=
    State.headChanges_fails closed rests halted (by rw [detached]; nofun)
  have motor : u.fmu.motion = some ⟨code, .detached⟩ := by simpa [u] using detached
  have motion : u.freeMoveFailed.fmu.motion = some ⟨code, .detached⟩ := motor
  have fails := u.failFreeMove_over .headOpen
  simp only [State.MotionOver, motion] at fails
  have csq : u.csq = s.csq := by simp [u]
  have opened : u.eng.headOpen = true := by simp [u]
  have same : u.eng.cond = s.eng.cond := by simp [u]
  have code_ : byteAt s.csq.block 0 = 0x51 := byteAt_head block
  refine ⟨_, (exec_headStateChange h).trans (congrArg _ (congrArg State.conclude (changes.trans fails))),
    State.conclude_waited_refuses ?_ (by simp) ?_ ?_⟩
  · simpa [State.freeMoveFailed, csq] using waits
  · simp [State.freeMoveFailed, csq, block]
  · refine State.motionChecksFor_headOpen ?_ ?_ ?_ ?_
    · simp [State.freeMoveFailed, same, rests]
    · simpa [State.freeMoveFailed, same] using halted
    · simpa [State.freeMoveFailed] using opened
    · simp [State.freeMoveFailed, csq, code_]

theorem State.feedRanges_of (r : s.Ready 0x51) : firstOf (s.ranges s.csq.block) =
    if int16 s.csq.block 2 < -1024 then some (badParameter 2)
    else if num16 s.csq.block 4 ≠ 0 ∧ (num16 s.csq.block 4 < 50 ∨ 1600 < num16 s.csq.block 4) then some (badParameter 4)
    else none := by
  have ranges : s.ranges s.csq.block = feedRanges s.csq.block := by simp [State.ranges, r.code]
  rw [ranges, feedRanges, firstOf_cons, firstOf_cons, firstOf_nil]
  simp [outside_eq]

/-- Settles O42: a motion command waits, acts when the earlier motion ends, or is refused in order. -/
theorem motionCommandsWaitOrAreRefused : Obligations.MotionCommandsWaitOrAreRefused := by
  unfold Obligations.MotionCommandsWaitOrAreRefused
  refine ⟨fun s row code row_code r c passes => ?_, fun s h timer notSense => ?_, fun s none => ?_,
    fun s elapsed code v h waits block attached far calm cond closed detached mode move target => ?_,
    fun s code h waits block cond closed detached => ?_, fun s c => ?_⟩
  · have runs := exec_motion (row := row) (code := code) r.1 row_code
    obtain ⟨notSense, resume⟩ : code ≠ 0x12 ∧ (code = 0x56 ↔ row = .resume) := by
      simp only [List.mem_cons, List.not_mem_nil, or_false, Prod.mk.injEq] at row_code
      rcases row_code with ⟨rfl, rfl⟩ | ⟨rfl, rfl⟩ | ⟨rfl, rfl⟩ | ⟨rfl, rfl⟩ | ⟨rfl, rfl⟩ | ⟨rfl, rfl⟩ <;> decide
    refine ⟨fun moving => by rw [runs, State.motion_waits r c passes moving], fun still => ?_⟩
    intro ends live
    have refuses {e : Ending} (fails : firstOf s.motionChecksFor = some e) : ends e :=
      State.refusesMotion5 r notSense c.1 runs passes still fails
    have quiet (dead : ¬ live) : s.eng.cond.live = false := by
      rw [Bool.eq_false_iff]
      exact fun h => dead ((Condition.live_iff _).mp h)
    refine ⟨fun busy => refuses (State.motionChecksFor_live ((Condition.live_iff _).mpr busy)),
      fun x halted persists => refuses ?_, fun x halted clear primary other => refuses ?_,
      fun dead halted opened other => refuses ?_, fun dead halted closed absent search => refuses ?_⟩
    · rw [State.motionChecksFor_halted halted (.inr (by rw [persists]; nofun)), State.haltedRefusal_persists persists]
    · rw [State.motionChecksFor_halted halted (.inl (by rw [r.code]; exact mt resume.mp other)),
        State.haltedRefusal_primary clear primary]
    · exact State.motionChecksFor_headOpen (quiet dead) halted opened (by rw [r.code]; exact mt resume.mp other)
    · have searches : byteAt s.csq.block 0 ∈ [(0x52 : Byte), 0x53] := by
        rw [r.code]
        rcases search with rfl | rfl <;> simp_all
      rw [State.motionChecksFor_search searches]
      simp [State.searchChecks, State.motionChecks, quiet dead, halted, closed, absent, firstOf]
      rfl
  · refine ⟨s.waitExpires, congrArg Host.Outcome.next (State.served_inService h _), by simp [State.SameEngine], ?_⟩
    rw [State.waitExpires, if_pos (Option.isSome_iff_ne_none.mpr timer)]
    cases motion : s.fmu.motion with
    | none => exact State.finish_endsWith notSense _
    | some m =>
      have byte : BitVec.ofNat 32 m.code.toNat = m.code.setWidth 32 := BitVec.ofNat_toNat _ _
      have ends := State.finish_endsWith notSense (refusalDetail .motionTimeout m.code.toNat)
      rw [refusalDetail, byte] at ends
      rw [refusalDetail, Option.elim_some, byte]
      exact ends
  · refine congrArg Host.Outcome.next (?_ : s.served _ = s)
    rw [State.served]
    split
    · exact if_neg (by simp [none])
    · rfl
  · exact backwardFeed_waited elapsed h waits block attached far calm cond closed detached mode move target
  · exact headOpens_waited h waits block cond closed detached
  · intro b v ends
    refine ⟨fun r => ⟨fun short => ?_, fun far some_ beyond => ?_⟩, fun r beyond => ?_⟩
    · refine State.refusesMotion r (by decide) c.1 (exec_motion r.1 (by decide)) ?_
      rw [State.feedRanges_of r, if_pos short]
      rfl
    · refine State.refusesMotion r (by decide) c.1 (exec_motion r.1 (by decide)) ?_
      rw [State.feedRanges_of r, if_neg (Int.not_lt.mpr far), if_pos ⟨some_, beyond⟩]
      rfl
    · refine State.refusesMotion r (by decide) c.1 (exec_motion r.1 (by decide)) ?_
      have ranges : s.ranges b = advanceRange b := by simp [State.ranges, b, r.code]
      rw [ranges, advanceRange, firstOf_cons, firstOf_nil, outside_eq, if_pos (by simpa [Nat.lt_one_iff] using beyond)]
      rfl

end Sys2Proof.Machine

end

section
/-! Searches (R133, R134, R136, R137): how ADVANCE TO EDGE and CALIBRATE MEDIA put them in hand, and their steps. -/

namespace Sys2Proof.Machine

variable {s t u v : State}

/-! ### The count of edges -/

theorem countReachable_fst (reach : Pos → Bool) (n : Nat) (l : List Pos) :
    (countReachable reach n l).1 = (l.filter reach).take n := by
  induction l generalizing n with
  | nil => cases n <;> simp [countReachable]
  | cons e l ih =>
    cases n with
    | zero => simp [countReachable]
    | succ n =>
      cases near : reach e <;> simp [countReachable, near, ih]

/-- R134: where fewer edges are found than needed, none is left behind them. -/
theorem countReachable_short {reach : Pos → Bool} {n : Nat} {l : List Pos} (short : (l.filter reach).length < n) :
    (countReachable reach n l).2 = [] := by
  induction l generalizing n with
  | nil => cases n with
    | zero => exact absurd short (Nat.not_lt_zero _)
    | succ n => rfl
  | cons e l ih =>
    cases n with
    | zero => exact absurd short (Nat.not_lt_zero _)
    | succ n =>
      cases near : reach e with
      | true =>
        rw [List.filter_cons_of_pos near, List.length_cons] at short
        simpa [countReachable, near] using ih (Nat.lt_of_succ_lt_succ short)
      | false =>
        rw [List.filter_cons_of_neg (by simp [near])] at short
        simpa [countReachable, near] using ih short

/-- R134: the edges behind the last one counted stay. -/
theorem countReachable_behind {reach : Pos → Bool} {n : Nat} {before after : List Pos} {e : Pos} (near : reach e = true)
    (last : (before.filter reach).length + 1 = n) : (countReachable reach n (before ++ e :: after)).2 = after := by
  induction before generalizing n with
  | nil =>
    subst last
    simp [countReachable, near]
  | cons x before ih =>
    cases n with
    | zero => exact absurd last (Nat.succ_ne_zero _)
    | succ n =>
      cases nearer : reach x with
      | true =>
        rw [List.filter_cons_of_pos nearer, List.length_cons] at last
        simpa [countReachable, nearer] using ih (Nat.succ.inj last)
      | false =>
        rw [List.filter_cons_of_neg (by simp [nearer])] at last
        simpa [countReachable, nearer] using ih last

/-- R134: the edges that an edge find has counted already. -/
abbrev State.countedBefore (s : State) (f : Find) : List Pos :=
  match f.last with
  | none => []
  | some x => s.msu.edges.takeWhile fun e => decide (0 ≤ ahead e x)

theorem State.countedBefore_append (s : State) (f : Find) :
    s.countedBefore f ++ s.msu.edges.drop (s.countedBefore f).length = s.msu.edges := by
  rw [State.countedBefore]
  cases f.last with
  | none => rfl
  | some x => exact (List.prefix_iff_eq_append.mp (List.takeWhile_prefix _))

/-- R134: what an edge find counts among the edges it has not counted yet. -/
abbrev State.counting (s : State) (f : Find) : List Pos × List Pos :=
  countReachable s.reachable f.need (s.msu.edges.drop (s.countedBefore f).length)

theorem State.countEdges_eq {f : Find} (find : s.msu.find = some f) :
    s.countEdges = (s.counting f).1.getLast?.elim
      { s with msu := { s.msu with edges := s.countedBefore f ++ (s.counting f).2 } }
      fun e => { s with
        msu := { s.msu with
          edges := s.countedBefore f ++ (s.counting f).1 ++ (s.counting f).2
          find := some ⟨f.need - (s.counting f).1.length, some e, 0⟩ }
        fmu := { s.fmu with target := if f.need = (s.counting f).1.length then some (e - 1) else s.fmu.target } } := by
  rw [State.countEdges, find]
  rcases f with ⟨need, last, steps⟩
  cases last with
  | none =>
    simp only [State.counting, State.countedBefore]
    cases List.getLast? _ <;> rfl
  | some x =>
    simp only [State.counting, State.countedBefore]
    cases List.getLast? _ <;> rfl

theorem State.countEdges_zero {f : Find} (find : s.msu.find = some f) (need : f.need = 0) : s.countEdges = s := by
  have counts : s.counting f = ([], s.msu.edges.drop (s.countedBefore f).length) := by
    rw [State.counting, need, countReachable]
  rw [State.countEdges_eq find, counts]
  exact congrArg (fun edges => { s with msu := { s.msu with edges := edges } }) (s.countedBefore_append f)

/-- R134: the edges that an edge find may count, those with room to stop. -/
abbrev State.mayCount (s : State) (f : Find) : List Pos :=
  ((s.msu.edges.drop (s.countedBefore f).length).filter s.reachable).take f.need

theorem State.counting_short {f : Find} (short : (s.mayCount f).length < f.need) : (s.counting f).2 = [] := by
  rw [State.mayCount, List.length_take] at short
  exact countReachable_short (by omega)

/-- R134: with no edge that leaves room to stop, those that do not are removed. -/
theorem State.countEdges_nothing {f : Find} (find : s.msu.find = some f) (need : 0 < f.need) (none : s.mayCount f = []) :
    s.countEdges = { s with msu := { s.msu with edges := s.countedBefore f } } := by
  have fst : (s.counting f).1 = [] := (countReachable_fst _ _ _).trans none
  rw [State.countEdges_eq find, fst, State.counting_short (by rw [none]; exact need), List.append_nil]
  rfl

/-- R134: the last edge counted is the one that the find stops at, once it has counted enough. -/
theorem State.countEdges_found {f : Find} {e : Pos} (find : s.msu.find = some f)
    (last : (s.mayCount f).getLast? = some e) : s.countEdges = { s with
      msu := { s.msu with
        edges := s.countedBefore f ++ s.mayCount f ++ (s.counting f).2
        find := some ⟨f.need - (s.mayCount f).length, some e, 0⟩ }
      fmu := { s.fmu with target := if (s.mayCount f).length = f.need then some (e - 1) else s.fmu.target } } := by
  have fst : (s.counting f).1 = s.mayCount f := countReachable_fst _ _ _
  rw [State.countEdges_eq find, fst, last, Option.elim_some]
  simp only [eq_comm (a := f.need)]

/-- R134: an edge find reaches its top, fails after two pitches with edges still to find, or goes on. -/
theorem State.findStep_eq {f g : Find} (find : s.msu.find = some f)
    (counted : ({ s with msu := { s.msu with find := some ⟨f.need, f.last, f.steps + 1⟩ } } : State).countEdges = u)
    (found : u.msu.find = some g) : s.findStep = (u,
      if u.findReached then .found else if 0 < g.need ∧ 2 * s.nvs.profile.pitch ≤ g.steps then .searchFailed
      else .goesOn) := by
  have profile : u.nvs = s.nvs := by rw [← counted]; simp
  simp only [State.findStep, find, counted, found, profile, Option.any_some, decide_eq_true_eq]
  split
  · rfl
  · split <;> rfl

theorem State.findStep_found {f : Find} (find : s.msu.find = some f)
    (counted : ({ s with msu := { s.msu with find := some ⟨f.need, f.last, f.steps + 1⟩ } } : State).countEdges = u)
    (reached : u.findReached = true) : s.findStep = (u, .found) := by
  simp only [State.findStep, find, counted, reached, if_true]

theorem State.findReached_iff : s.findReached = true ↔
    ∃ f, s.msu.find = some f ∧ f.need = 0 ∧ s.fmu.target = some s.fmu.pos := by
  cases find : s.msu.find <;> simp [State.findReached, find]

/-! ### The calibration -/

/-- A calibration in hand. -/
abbrev State.calibrating (s : State) (c : Calib) : State := { s with msu := { s.msu with calib := some c } }

/-- R137: every label fits what the calibration has measured. -/
abbrev State.LabelsFit (s : State) (c : Calib) : Prop := ∀ l, some l ∈ s.lbq.slots → l.length ≤ c.pitch - c.gap

theorem State.finishCalibration_eq (s : State) (c : Calib) [Decidable (s.LabelsFit c)] : s.finishCalibration c =
    if s.fmu.pos = c.top - 1 then if s.LabelsFit c then .calibrated else s.calibrationFailed else .goesOn := by
  have fits : (s.lbq.slots.all fun l => l.all fun l => decide (l.length ≤ c.pitch - c.gap)) = true ↔ s.LabelsFit c := by
    rw [List.all_eq_true]
    constructor
    · intro h l held
      simpa using h _ held
    · rintro h (_ | l) held
      · rfl
      · simpa using h l held
  rw [State.finishCalibration]
  exact if_congr Iff.rfl (if_congr fits rfl rfl) rfl

/-- R136: a step of the survey. -/
theorem State.surveyStep_eq (s : State) (c : Calib) (level : Byte) :
    let low := min c.lowest level.toNat
    let high := max c.highest level.toNat
    let surveyed : Calib := { c with steps := c.steps + 1, lowest := low, highest := high }
    s.surveyStep c level =
      if c.steps + 1 < 4608 then (s.calibrating surveyed, .goesOn)
      else if high - low < 24 then
        (s.calibrating surveyed, .calibrationFailed (refusalDetail .noContrast (high - low)))
      else if s.nvs.profile.empty ≤ (low + high) / 2 then (s.calibrating surveyed, s.calibrationFailed)
      else (s.calibrating { surveyed with phase := .measure, steps := 0, threshold := (low + high) / 2 }, .goesOn) :=
  rfl

/-- A step of the measure, its step counted. -/
abbrev Calib.stepped (c : Calib) (change : Option ClassChange) : Calib :=
  { c with steps := c.steps + 1, entered := c.entered || change.any fun x => x.after == .marker }

/-- R137: a change other than the three that the measure waits for. -/
theorem Calib.note_other {c : Calib} {x : ClassChange}
    (e1 : x.before = .marker → x.after = .media → c.e1 ≠ none ∧ c.m = none)
    (m : x.before = .media → x.after = .marker → c.e1 = none ∨ c.m ≠ none) :
    ({ c with steps := c.steps + 1 } : Calib).note x = (c.stepped (some x), none) := by
  obtain ⟨before, after, _⟩ := x
  by_cases edge : before = .marker ∧ after = .media
  · obtain ⟨rfl, rfl⟩ := edge
    obtain ⟨some_, none⟩ := e1 rfl rfl
    obtain ⟨e, some_⟩ := Option.ne_none_iff_exists'.mp some_
    simp [Calib.note, some_, none]
  by_cases mark : before = .media ∧ after = .marker
  · obtain ⟨rfl, rfl⟩ := mark
    rcases m rfl rfl with none | some_
    · simp [Calib.note, none]
    · cases none : c.e1 <;> cases some' : c.m <;> simp_all [Calib.note]
  cases before <;> cases after <;> simp_all [Calib.note]

/-- R137: E1 is the first edge behind a marker that the measure has entered. -/
theorem Calib.note_e1 {c : Calib} {x : Pos} (none : c.e1 = none) :
    ({ c with steps := c.steps + 1 } : Calib).note ⟨.marker, .media, x⟩ =
      ({ c.stepped (some ⟨.marker, .media, x⟩) with e1 := if c.entered then some x else Option.none }, Option.none) := by
  obtain ⟨phase, steps, lowest, highest, threshold, entered, e1, m, top, pitch, gap⟩ := c
  obtain rfl : e1 = Option.none := none
  cases entered <;> rfl

/-- R137: M is the first change to MARKER behind E1. -/
theorem Calib.note_m {c : Calib} {x e : Pos} (some_ : c.e1 = some e) (none : c.m = none) :
    ({ c with steps := c.steps + 1 } : Calib).note ⟨.media, .marker, x⟩ =
      ({ c.stepped (some ⟨.media, .marker, x⟩) with m := some x }, Option.none) := by
  simp [Calib.note, some_, none]

/-- R137: E2 is the first edge behind M. -/
theorem Calib.note_e2 {c : Calib} {x e m : Pos} (some_ : c.e1 = some e) (some' : c.m = some m) :
    ({ c with steps := c.steps + 1 } : Calib).note ⟨.marker, .media, x⟩ =
      (c.stepped (some ⟨.marker, .media, x⟩), some (e, m, x)) := by
  simp [Calib.note, some_, some']

theorem State.measureStep_none (s : State) (c : Calib) : s.measureStep c none =
    (s.calibrating (c.stepped none), if 8256 ≤ c.steps + 1 then s.calibrationFailed else .goesOn) := by
  have same : (c.entered || (none : Option ClassChange).any fun x => x.after == .marker) = c.entered := Bool.or_false _
  rw [State.measureStep, Calib.stepped, same]
  exact (apply_ite (Prod.mk _) _ _ _).symm

theorem State.measureStep_goes {c d : Calib} {x : ClassChange}
    (notes : ({ c with steps := c.steps + 1 } : Calib).note x = (d, none)) : s.measureStep c (some x) =
    (s.calibrating d, if 8256 ≤ c.steps + 1 then s.calibrationFailed else .goesOn) := by
  simp only [State.measureStep, notes]
  exact (apply_ite (Prod.mk _) _ _ _).symm

theorem State.measureStep_ends {c d : Calib} {x : ClassChange} {e1 m e2 : Pos}
    (notes : ({ c with steps := c.steps + 1 } : Calib).note x = (d, some (e1, m, e2))) :
    s.measureStep c (some x) = (s.calibrating d).measured d e1 m e2 := by
  simp only [State.measureStep, notes]

/-! ### ADVANCE TO EDGE and CALIBRATE MEDIA -/

theorem State.advanceRange_pass (r : s.Ready 0x52) (least : 1 ≤ num8 s.csq.block 2) (most : num8 s.csq.block 2 ≤ 16) :
    firstOf (s.ranges s.csq.block) = none := by
  have ranges : s.ranges s.csq.block = advanceRange s.csq.block := by simp [State.ranges, r.code]
  rw [ranges, advanceRange, firstOf_cons, firstOf_nil, outside_eq, if_neg (by simp; omega)]

/-- An edge find does not depend on where the media was presented. -/
theorem State.countEdges_present (s : State) (p : Present) :
    ({ s with fmu := { s.fmu with present := p } } : State).countEdges =
      { s.countEdges with fmu := { s.countEdges.fmu with present := p } } := by
  have far : ({ s with fmu := { s.fmu with present := p } } : State).reachable = s.reachable := rfl
  rcases find : s.msu.find with _ | f
  · simp only [State.countEdges, find]
  · simp only [State.countEdges, find, far]
    split <;> rfl

theorem State.beginFind_atPrintLine (s : State) (n : Nat) : s.atPrintLine.unregister.beginFind n =
    { s.beginFind n with fmu := { (s.beginFind n).fmu with present := .atPrintLine } } :=
  State.countEdges_present (s.findBegun n) .atPrintLine

/-- What an edge find changes is the motor and the sensor. -/
theorem State.beginFind_is (s : State) (n : Nat) :
    s.beginFind n = { s with fmu := (s.beginFind n).fmu, msu := (s.beginFind n).msu } := by
  obtain ⟨hpu, csq, gst, lbq, ring, hdu, eng, nvs, ram, strap, pending, -⟩ := s.beginFind_keeps n
  generalize s.beginFind n = u at *
  cases u
  simp_all

theorem State.beginFind_rest (s : State) (n : Nat) : (s.beginFind n).fmu.rest = .none := by
  rw [State.beginFind_eq, State.countEdges_eq (s := s.findBegun n) rfl]
  cases List.getLast? _ <;> rfl

/-- R133: in a mode with edges, ADVANCE TO EDGE is an edge find. -/
theorem State.commitAdvance_finds (mode : s.nvs.profile.mode ≠ .continuous)
    (far : (s.beginFind (num8 s.csq.block 2)).findReached = false) : s.commitAdvance =
    ({ s with
      fmu := { (s.beginFind (num8 s.csq.block 2)).fmu with
        mode := .freeMove, rest := .none, present := .atPrintLine }
      msu := (s.beginFind (num8 s.csq.block 2)).msu } : State).accept 0x52 := by
  have reached : (s.atPrintLine.unregister.beginFind (num8 s.csq.block 2)).findReached = false := by
    rw [State.beginFind_atPrintLine]
    exact far
  rw [State.commitAdvance, if_neg mode]
  refine (if_neg (by rw [reached]; nofun)).trans (congrArg (State.accept · 0x52) ?_)
  rw [State.beginFind_atPrintLine, ← s.beginFind_rest (num8 s.csq.block 2)]
  exact congrArg (fun u : State => { u with fmu := { u.fmu with mode := .freeMove, present := .atPrintLine } })
    (s.beginFind_is (num8 s.csq.block 2))

theorem State.commitAdvance_found (mode : s.nvs.profile.mode ≠ .continuous)
    (there : (s.beginFind (num8 s.csq.block 2)).findReached = true) : s.commitAdvance =
    ({ s.beginFind (num8 s.csq.block 2) with
      fmu := { (s.beginFind (num8 s.csq.block 2)).fmu with present := .atPrintLine } } : State).takeFind.toStopped.finish
      .ok := by
  have reached : (s.atPrintLine.unregister.beginFind (num8 s.csq.block 2)).findReached = true := by
    rw [State.beginFind_atPrintLine]
    exact there
  rw [State.commitAdvance, if_neg mode]
  refine (if_pos reached).trans ?_
  rw [State.beginFind_atPrintLine]

/-- R133: in CONTINUOUS mode it is a plain forward move. -/
theorem State.commitAdvance_plain (mode : s.nvs.profile.mode = .continuous) : s.commitAdvance =
    ({ s with
      fmu := { s.fmu with
        mode := .freeMove, rest := .none, present := .atPrintLine, move := .advance
        target := some (s.fmu.pos + BitVec.ofNat 32 (s.advanceTravel (num8 s.csq.block 2))) }
      msu := { s.msu with reg := ⟨.unknown, none, false, 0⟩ } } : State).accept 0x52 := by
  rw [State.commitAdvance, if_pos mode, shift_ofNat]
  rfl

/-- R136: a calibration begins with its survey. -/
theorem State.commitCalibrate_eq (s : State) : s.commitCalibrate =
    ({ s with
      fmu := { s.fmu with mode := .freeMove, rest := .none, present := .atPrintLine, move := .calibrate, target := none }
      msu := { s.msu with
        reg := ⟨.unknown, none, false, 0⟩, edges := [], lastEdge := none
        calib := some ⟨.survey, 0, 255, 0, 0, false, none, none, 0, 0, 0⟩ } } : State).accept 0x53 := rfl

/-- R134: the edges that a find counts and removes, and how its step ends. -/
theorem edgeFind_steps {f : Find} (find : s.msu.find = some f) :
    let reach (e : Pos) : Bool := decide
      ((((s.fmu.speed - s.nvs.mech.startSpeed + s.nvs.profile.accel - 1) / s.nvs.profile.accel : Nat) : Int) ≤
        (e - s.fmu.pos).toInt - 1)
    let behind := match f.last with
      | none => []
      | some x => s.msu.edges.takeWhile fun e => decide (0 ≤ (x - e).toInt)
    let fresh := s.msu.edges.drop behind.length
    let counted := (fresh.filter reach).take f.need
    let left (edges : List Pos) : State := { s with msu := { s.msu with edges := edges } }
    (f.need = 0 → s.countEdges = s) ∧
    (0 < f.need → counted = [] → s.countEdges = left behind) ∧
    (∀ e, counted.getLast? = some e →
      let found (edges : List Pos) : State := { s with
        msu := { s.msu with edges := edges, find := some ⟨f.need - counted.length, some e, 0⟩ }
        fmu := { s.fmu with target := if counted.length = f.need then some (e - 1) else s.fmu.target } }
      (counted.length < f.need → s.countEdges = found (behind ++ counted)) ∧
      (∀ before after, fresh = before ++ e :: after → reach e = true → (before.filter reach).length + 1 = f.need →
        s.countEdges = found (behind ++ counted ++ after))) ∧
    let u := ({ s with msu := { s.msu with find := some ⟨f.need, f.last, f.steps + 1⟩ } } : State).countEdges
    (u.findReached = true → s.findStep = (u, .found)) ∧
    (∀ g, u.findReached = false → u.msu.find = some g → s.findStep =
      (u, if 0 < g.need ∧ 2 * s.nvs.profile.pitch ≤ g.steps then .searchFailed else .goesOn)) := by
  intro reach behind fresh counted left
  have before_ : behind = s.countedBefore f := by
    rcases f with ⟨need, _ | x, steps⟩ <;> rfl
  have count : counted = s.mayCount f := by
    simp only [counted, fresh, before_]
    rfl
  rw [before_, count]
  refine ⟨State.countEdges_zero find, fun need none => State.countEdges_nothing find need none, fun e last => ?_, ?_⟩
  · intro found
    have counts := State.countEdges_found find last
    refine ⟨fun short => ?_, fun before after split near enough => ?_⟩
    · rw [State.counting_short short, List.append_nil] at counts
      exact counts
    · have rest : (s.counting f).2 = after := by
        have split_ : s.msu.edges.drop (s.countedBefore f).length = before ++ e :: after := by rw [← before_]; exact split
        rw [State.counting, split_]
        exact countReachable_behind near enough
      rw [rest] at counts
      exact counts
  · intro u
    refine ⟨State.findStep_found find rfl, fun g far found => ?_⟩
    rw [State.findStep_eq find (u := u) rfl found, far]
    rfl

/-- R136, R137: the steps of a calibration. -/
theorem calibration_steps {c : Calib} (level : Byte) (change : Option ClassChange) (calib : s.msu.calib = some c) :
    let holds (x : Calib) : State := { s with msu := { s.msu with calib := some x } }
    let fails : MoveEnd := .calibrationFailed (.error .calibrationFailed none (.position s.fmu.pos))
    let fits (x : Calib) : Prop := ∀ l, some l ∈ s.lbq.slots → l.length ≤ x.pitch - x.gap
    let finish (x : Calib) (m : MoveEnd) : Prop :=
      (s.fmu.pos ≠ x.top - 1 → m = .goesOn) ∧ (s.fmu.pos = x.top - 1 → fits x → m = .calibrated) ∧
      (s.fmu.pos = x.top - 1 → ¬ fits x → m = fails)
    let r := s.calibStep level change
    let low := min c.lowest level.toNat
    let high := max c.highest level.toNat
    let surveyed : Calib := { c with steps := c.steps + 1, lowest := low, highest := high }
    let stepped : Calib := { c with
      steps := c.steps + 1, entered := c.entered || change.any fun x => x.after == .marker }
    let goes (x : Calib) : Prop := r = (holds x, if 8256 ≤ c.steps + 1 then fails else .goesOn)
    (c.phase = .survey →
      (c.steps + 1 < 4608 → r = (holds surveyed, .goesOn)) ∧
      (4608 ≤ c.steps + 1 → high - low < 24 → r = (holds surveyed,
        .calibrationFailed (.error .noContrast none (.detail (BitVec.ofNat 32 (high - low)))))) ∧
      (4608 ≤ c.steps + 1 → 24 ≤ high - low →
        (s.nvs.profile.empty ≤ (low + high) / 2 → r = (holds surveyed, fails)) ∧
        ((low + high) / 2 < s.nvs.profile.empty →
          r = (holds { surveyed with phase := .measure, steps := 0, threshold := (low + high) / 2 }, .goesOn)))) ∧
    (c.phase = .measure →
      (∀ x, change = some ⟨.marker, .media, x⟩ → c.e1 = none →
        goes { stepped with e1 := if c.entered then some x else none }) ∧
      (∀ x e, change = some ⟨.media, .marker, x⟩ → c.e1 = some e → c.m = none → goes { stepped with m := some x }) ∧
      ((∀ x, change ≠ some ⟨.marker, .media, x⟩) → (∀ x, change ≠ some ⟨.media, .marker, x⟩) → goes stepped) ∧
      (∀ x e, change = some ⟨.marker, .media, x⟩ → c.e1 = some e → c.m = none → goes stepped) ∧
      (∀ x, change = some ⟨.media, .marker, x⟩ → c.e1 = none ∨ c.m ≠ none → goes stepped) ∧
      (∀ x e m, change = some ⟨.marker, .media, x⟩ → c.e1 = some e → c.m = some m →
        let pitch := (x - e).toInt
        let gap := (x - m).toInt
        let top := x + BitVec.ofInt 32 (s.nvs.mech.sensorOffset + s.nvs.profile.adjust)
        let good := 16 ≤ pitch ∧ pitch ≤ 4096 ∧ 2 ≤ gap ∧ gap ≤ 512 ∧ gap < pitch ∧ 2 ≤ gap / 2 ∧
          0 ≤ (top - 1 - s.fmu.pos).toInt
        let measured : Calib := { stepped with
          phase := .finishing, steps := 0, top := top, pitch := pitch.toNat, gap := gap.toNat }
        (good → r.1 = { holds measured with fmu := { s.fmu with target := some (top - 1) } } ∧
          finish measured r.2) ∧
        (¬ good → r = (holds stepped, fails)))) ∧
    (c.phase = .finishing → r.1 = s ∧ finish c r.2) := by
  classical
  intro holds fails fits finish r low high surveyed stepped goes
  have finishes (u : State) (x : Calib) (lbq : u.lbq = s.lbq) (pos : u.fmu.pos = s.fmu.pos) :
      finish x (u.finishCalibration x) := by
    rw [State.finishCalibration_eq, State.LabelsFit, lbq, pos, State.calibrationFailed, pos]
    exact ⟨fun far => if_neg far, fun there fit => (if_pos there).trans (if_pos fit),
      fun there short => (if_pos there).trans (if_neg short)⟩
  refine ⟨fun phase => ?_, fun phase => ?_, fun phase => ?_⟩
  · have step : r = s.surveyStep c level := by simp only [r, State.calibStep, calib, phase]
    rw [step, State.surveyStep_eq]
    refine ⟨fun early => if_pos early, fun late flat => (if_neg (Nat.not_lt.mpr late)).trans (if_pos flat),
      fun late contrast => ⟨fun bad => ?_, fun good => ?_⟩⟩
    · exact (if_neg (Nat.not_lt.mpr late)).trans ((if_neg (Nat.not_lt.mpr contrast)).trans (if_pos bad))
    · exact (if_neg (Nat.not_lt.mpr late)).trans
        ((if_neg (Nat.not_lt.mpr contrast)).trans (if_neg (Nat.not_le.mpr good)))
  · have step : r = s.measureStep c change := by simp only [r, State.calibStep, calib, phase]
    have other (e1 : ∀ x, change = some ⟨.marker, .media, x⟩ → c.e1 ≠ none ∧ c.m = none)
        (m : ∀ x, change = some ⟨.media, .marker, x⟩ → c.e1 = none ∨ c.m ≠ none) : goes stepped := by
      refine step.trans ?_
      rcases change with _ | x
      · exact s.measureStep_none c
      · refine State.measureStep_goes (Calib.note_other (fun before after => ?_) fun before after => ?_)
        · exact e1 x.at_ (by rw [← before, ← after])
        · exact m x.at_ (by rw [← before, ← after])
    refine ⟨fun x is none => ?_, fun x e is some_ none => ?_, fun notE notM => ?_, fun x e is some_ none => ?_,
      fun x is no => ?_, fun x e m is some_ some' => ?_⟩
    · subst is
      exact step.trans (State.measureStep_goes (Calib.note_e1 none))
    · subst is
      exact step.trans (State.measureStep_goes (Calib.note_m some_ none))
    · exact other (fun x is => absurd is (notE x)) fun x is => absurd is (notM x)
    · refine other (fun y is' => ⟨by rw [some_]; nofun, none⟩) fun y is' => ?_
      rw [is] at is'
      cases is'
    · refine other (fun y is' => ?_) fun y is' => no
      rw [is] at is'
      cases is'
    · subst is
      have ends := step.trans (State.measureStep_ends (Calib.note_e2 some_ some'))
      intro pitch gap top good measured
      refine ⟨fun holds_ => ?_, fun no => ends.trans (if_neg no)⟩
      have taken := ends.trans (if_pos holds_)
      rw [taken]
      exact ⟨rfl, finishes _ measured rfl rfl⟩
  · have step : r = (s, s.finishCalibration c) := by simp only [r, State.calibStep, calib, phase]
    rw [step]
    exact ⟨rfl, finishes s c rfl rfl⟩

/-- R134: what the search of part 4 comes to. -/
theorem decide4_search (under : Bool) (level : Byte) (change : Option ClassChange) :
    let w := if under then s.decideWindow else (s, false)
    let r := if w.1.msu.calib ≠ none then w.1.calibStep level change else w.1.findStep
    let d := s.decide4 under level change
    let engine := s.eng.cond = .running ∨ s.eng.cond = .recovering
    (w.1.msu.calib = none → w.1.msu.find = none → r = (w.1, .goesOn)) ∧
    (r.2 = .searchFailed → engine → d.state = ({ r.1 with
        msu := { r.1.msu with find := none, reg := ⟨.unknown, none, false, 0⟩ } } : State).post
          ⟨.registrationLost, 0, 0xFFFF, s.fmu.pos.setWidth 16⟩ ∧ d.lost = true ∧ d.move = .goesOn) ∧
    (r.2 = .found → d.lost = w.2 ∧ d.move = .found ∧ d.state = { r.1 with
      fmu := { r.1.fmu with target := none, speed := 0 }
      msu := { r.1.msu with
        find := none, reg := ⟨.registered, some (r.1.fmu.pos + 1), true, 0⟩
        edges := r.1.msu.edges.dropWhile fun e => decide ((e - (r.1.fmu.pos + 1)).toInt ≤ 0) } }) ∧
    (r.2 ≠ .found → r.2 ≠ .searchFailed ∨ ¬ engine → d.state = r.1 ∧ d.lost = w.2 ∧ d.move = r.2) := by
  intro w r d engine
  have search : w.1.searchStep level change = r := by
    simp only [State.searchStep, r]
    cases w.1.msu.calib <;> rfl
  have kept : r.1.eng.cond = s.eng.cond ∧ r.1.fmu.pos = s.fmu.pos := by
    rw [← search]
    cases under <;> simp [w]
  have decides : d = if r.2 = .searchFailed ∧ engine then ⟨r.1.loseRegistration, true, .goesOn⟩
      else if r.2 = .found then ⟨r.1.takeFind, w.2, .found⟩ else ⟨r.1, w.2, r.2⟩ := by
    have engine_ : r.1.engineSearch = true ↔ engine := by simp [State.engineSearch, kept.1, engine]
    simp only [d, State.decide4]
    exact if_congr (by rw [← engine_, ← search]) (by rw [← search]) (by rw [← search])
  refine ⟨fun calib find => ?_, fun failed by_ => ?_, fun found => ?_, fun notFound other => ?_⟩
  · have step : w.1.findStep = (w.1, .goesOn) := by rw [State.findStep, find]
    rw [← step]
    exact if_neg (not_not_intro calib)
  · rw [decides, if_pos ⟨failed, by_⟩]
    exact ⟨by rw [State.loseRegistration, kept.2]; rfl, rfl, rfl⟩
  · rw [decides, if_neg (by rw [found]; simp), if_pos found]
    exact ⟨rfl, rfl, rfl⟩
  · rw [decides, if_neg (by tauto), if_neg notFound]
    exact ⟨rfl, rfl, rfl⟩

/-- Settles O40: searches are put in hand, and the steps of an edge find and of a calibration. -/
theorem searchesArePutInHand : Obligations.SearchesArePutInHand := by
  unfold Obligations.SearchesArePutInHand
  refine ⟨fun s may c media => ?_, fun s n => ⟨rfl, State.findReached_iff⟩, fun s f find => ?_,
    fun s c level change calib => ?_, fun w c calib mode => ?_, fun s under level change => ?_⟩
  · obtain ⟨cond, closed, still⟩ := id may
    intro detached n lost begins
    have checks := State.searchChecks_pass cond closed media
    refine ⟨fun r least most => ?_, fun r => ?_⟩
    · have passes := State.advanceRange_pass r least most
      have met : firstOf s.motionChecksFor = none := by
        rwa [State.motionChecksFor_search (by rw [r.code]; decide)]
      have runs := exec_motion (row := .advanceToEdge) (code := 0x52) r.1 (by decide)
      have commits := State.commitMotion_advance r.code
      refine ⟨fun mode => ?_, fun mode => ?_⟩
      · intro pitch
        have travel : s.advanceTravel n = n * pitch := by
          cases last : s.msu.lastLen <;> simp only [State.advanceTravel, pitch, last]
        have plain := State.commitAdvance_plain mode
        rw [travel] at plain
        exact State.moveBegins r (by decide) c runs passes still met (commits.trans plain) rfl rfl rfl
      · intro ahead u
        refine ⟨fun none => State.beginFind_passed n fun e held => ?_, fun far => ?_, fun there => ?_⟩
        · simpa using List.filter_eq_nil_iff.mp none e held
        · exact State.moveBegins r (by decide) c runs passes still met (commits.trans (State.commitAdvance_finds mode far))
            rfl rfl rfl
        · exact State.moveDone r (by decide) c runs passes still met
            (commits.trans (State.commitAdvance_found mode there)) (by simp [u])
    · have runs := exec_motion (row := .calibrateMedia) (code := 0x53) r.1 (by decide)
      have range : firstOf (s.ranges s.csq.block) =
          if s.nvs.profile.mode = .continuous then some (badParameter 0) else none := by
        have ranges : s.ranges s.csq.block = s.calibrateRange := by simp [State.ranges, r.code]
        rw [ranges, State.calibrateRange, firstOf_cons, firstOf_nil]
        exact if_congr beq_iff_eq rfl rfl
      refine ⟨fun mode => State.refusesMotion r (by decide) c.1 runs (range.trans (if_pos mode)), fun mode => ?_⟩
      have met : firstOf s.motionChecksFor = none := by
        rwa [State.motionChecksFor_search (by rw [r.code]; decide)]
      exact State.moveBegins r (by decide) c runs (range.trans (if_neg mode)) still met
        ((State.commitMotion_calibrate r.code).trans s.commitCalibrate_eq) rfl rfl rfl
  · exact edgeFind_steps find
  · exact calibration_steps level change calib
  · intro p
    have ends : w.endOfStep .calibrated = w.takeCalibration.toStopped.endMotion .ok := by
      rw [State.endOfStep, mode]
      rfl
    have taken : w.takeCalibration.toStopped = ({ w with
      fmu := w.fmu.atRest
      nvs := { w.nvs with profile := { p with
        marker := c.threshold, pitch := c.pitch, gap := c.gap, tolerance := min p.tolerance (c.gap / 2) } }
      msu := { w.msu with
        calib := none, edges := [], lastEdge := some c.top, reg := ⟨.registered, some c.top, true, 0⟩ } } : State) := by
      rw [State.takeCalibration, calib]
      rfl
    rw [ends, ← taken]
    exact State.endMotion_over _ _
  · exact decide4_search under level change

end Sys2Proof.Machine

end

section
/-! The motor stays energised (R125): no operation but its release and the resets switches it off. -/

namespace Sys2Proof.Machine

variable {s t u v : State}

@[simp] theorem State.vacate_energised (s : State) (slot : Nat) (l : Label) :
    (s.vacate slot l).fmu.energised = s.fmu.energised := by
  simp [State.vacate]

@[simp] theorem State.removeLabel_energised (s : State) (slot : Nat) (report : Option Event) :
    (s.removeLabel slot report).fmu.energised = s.fmu.energised := by
  simp only [State.removeLabel]
  (repeat' split) <;> simp

@[simp] theorem State.reportIdleQueue_energised (s : State) (before : Lbq) :
    (s.reportIdleQueue before).fmu.energised = s.fmu.energised := by
  simp only [State.reportIdleQueue]
  (repeat' split) <;> simp

@[simp] theorem State.copyDone_energised (s : State) (slot : Nat) :
    (s.copyDone slot).fmu.energised = s.fmu.energised := by
  simp only [State.copyDone]
  (repeat' split) <;> simp

@[simp] theorem State.beginCopy_energised (s : State) (c : Copy) :
    (s.beginCopy c).fmu.energised = s.fmu.energised := rfl

@[simp] theorem State.countLine_energised (s : State) :
    s.countLine.fmu.energised = s.fmu.energised := rfl

@[simp] theorem State.strobeLine_energised (s : State) (i : Nat) (l : Line) (d : Nat) :
    (s.strobeLine i l d).fmu.energised = s.fmu.energised := rfl

@[simp] theorem State.prepareTop_energised (s : State) (top : Pos) (length : Nat) :
    (s.prepareTop top length).fmu.energised = s.fmu.energised := rfl

@[simp] theorem State.passLine_energised (s : State) (l : LabelLine) :
    (s.passLine l).fmu.energised = s.fmu.energised := by
  simp only [State.passLine]
  (repeat' split) <;> simp

@[simp] theorem State.discardInterrupted_energised (s : State) (slot : Nat) :
    (s.discardInterrupted slot).fmu.energised = s.fmu.energised := by
  simp only [State.discardInterrupted]
  (repeat' split) <;> simp

@[simp] theorem State.cutShort_energised (s : State) :
    s.cutShort.fmu.energised = s.fmu.energised := by
  simp only [State.cutShort]
  (repeat' split) <;> simp

@[simp] theorem State.unregister_energised (s : State) :
    s.unregister.fmu.energised = s.fmu.energised := rfl

@[simp] theorem State.emptyEdges_energised (s : State) :
    s.emptyEdges.fmu.energised = s.fmu.energised := rfl

@[simp] theorem State.registerAt_energised (s : State) (top : Pos) :
    (s.registerAt top).fmu.energised = s.fmu.energised := rfl

@[simp] theorem State.spoil_energised (s : State) :
    s.spoil.fmu.energised = s.fmu.energised := by
  simp only [State.spoil]
  (repeat' split) <;> simp

@[simp] theorem State.stopForHalt_energised (s : State) (cs : List Cause) :
    (s.stopForHalt cs).fmu.energised = s.fmu.energised := by
  simp only [State.stopForHalt]
  (repeat' split) <;> simp

@[simp] theorem State.recordHalt_energised (s : State) (cs : List Cause) (p : Cause) :
    (s.recordHalt cs p).fmu.energised = s.fmu.energised := rfl

@[simp] theorem State.endMotion_energised (s : State) (e : Ending) :
    (s.endMotion e).fmu.energised = s.fmu.energised := by
  simp only [State.endMotion]
  (repeat' split) <;> simp

@[simp] theorem State.halt_energised (s : State) (cs : List Cause) :
    (s.halt cs).fmu.energised = s.fmu.energised := by
  simp [State.halt]

@[simp] theorem State.reseat_energised (s : State) :
    s.reseat.fmu.energised = s.fmu.energised := rfl

@[simp] theorem State.countEdges_energised (s : State) :
    s.countEdges.fmu.energised = s.fmu.energised := by
  simp only [State.countEdges]
  (repeat' split) <;> simp

@[simp] theorem State.beginFind_energised (s : State) (n : Nat) :
    (s.beginFind n).fmu.energised = s.fmu.energised := by
  simp [State.beginFind]

@[simp] theorem State.takeFind_energised (s : State) :
    s.takeFind.fmu.energised = s.fmu.energised := by
  simp [State.takeFind]

@[simp] theorem State.runOn_energised (s : State) :
    s.runOn.fmu.energised = s.fmu.energised := by
  simp only [State.runOn]
  (repeat' split) <;> simp

@[simp] theorem State.beginRun_energised (s : State) :
    s.beginRun.fmu.energised = s.fmu.energised := by
  simp only [State.beginRun]
  (repeat' split) <;> simp

@[simp] theorem State.autoPresent_energised (s : State) :
    s.autoPresent.fmu.energised = s.fmu.energised := by
  simp only [State.autoPresent]
  (repeat' split) <;> simp

@[simp] theorem State.endRun_energised (s : State) :
    s.endRun.fmu.energised = s.fmu.energised := by
  simp [State.endRun]

@[simp] theorem State.actOnRest_energised (s : State) :
    s.actOnRest.fmu.energised = s.fmu.energised := by
  simp only [State.actOnRest]
  (repeat' split) <;> simp

@[simp] theorem State.restReason_energised (s : State) :
    s.restReason.fmu.energised = s.fmu.energised := by
  simp only [State.restReason]
  (repeat' split) <;> simp

@[simp] theorem State.weighRest_energised (s : State) :
    s.weighRest.fmu.energised = s.fmu.energised := by
  simp only [State.weighRest]
  (repeat' split) <;> simp

@[simp] theorem State.reviewRun_energised (s : State) :
    s.reviewRun.fmu.energised = s.fmu.energised := by
  simp [State.reviewRun]

@[simp] theorem State.leavePause_energised (s : State) :
    s.leavePause.fmu.energised = s.fmu.energised := by
  simp only [State.leavePause]
  (repeat' split) <;> simp

@[simp] theorem State.startRun_energised (s : State) :
    s.startRun.fmu.energised = s.fmu.energised := by
  simp only [State.startRun]
  (repeat' split) <;> simp

@[simp] theorem State.enterHold_energised (s : State) :
    s.enterHold.fmu.energised = s.fmu.energised := by
  simp only [State.enterHold]
  (repeat' split) <;> simp

@[simp] theorem State.enterRecovery_energised (s : State) (d : Bool) :
    (s.enterRecovery d).fmu.energised = s.fmu.energised := by
  simp only [State.enterRecovery]
  (repeat' split) <;> simp

@[simp] theorem State.recovered_energised (s : State) :
    s.recovered.fmu.energised = s.fmu.energised := by
  simp only [State.recovered]
  (repeat' split) <;> simp

@[simp] theorem State.recoveryFind_energised (s : State) :
    s.recoveryFind.fmu.energised = s.fmu.energised := by
  simp only [State.recoveryFind]
  (repeat' split) <;> simp

@[simp] theorem State.beginRecoveryFind_energised (s : State) :
    s.beginRecoveryFind.fmu.energised = s.fmu.energised := by
  simp only [State.beginRecoveryFind]
  (repeat' split) <;> simp

@[simp] theorem State.endFreeMove_energised (s : State) :
    s.endFreeMove.fmu.energised = s.fmu.energised := by
  simp [State.endFreeMove]

@[simp] theorem State.failFreeMove_energised (s : State) (c : SenseCode) :
    (s.failFreeMove c).fmu.energised = s.fmu.energised := by
  simp [State.failFreeMove]

@[simp] theorem State.failSearch_energised (s : State) :
    s.failSearch.fmu.energised = s.fmu.energised := by
  simp [State.failSearch]

@[simp] theorem State.abortFreeMove_energised (s : State) :
    s.abortFreeMove.fmu.energised = s.fmu.energised := by
  simp [State.abortFreeMove]

@[simp] theorem State.breakRecovery_energised (s : State) :
    s.breakRecovery.fmu.energised = s.fmu.energised := by
  simp [State.breakRecovery]

@[simp] theorem State.stopEnded_energised (s : State) :
    s.stopEnded.fmu.energised = s.fmu.energised := by
  simp only [State.stopEnded]
  (repeat' split) <;> simp

@[simp] theorem State.atPrintLine_energised (s : State) :
    s.atPrintLine.fmu.energised = s.fmu.energised := rfl

@[simp] theorem State.accept_energised (s : State) (code : Byte) :
    (s.accept code).fmu.energised = s.fmu.energised := by
  simp only [State.accept]
  (repeat' split) <;> simp

@[simp] theorem State.commitFeed_energised (s : State) :
    s.commitFeed.fmu.energised = s.fmu.energised := by
  simp only [State.commitFeed]
  (repeat' split) <;> simp

@[simp] theorem State.commitAdvance_energised (s : State) :
    s.commitAdvance.fmu.energised = s.fmu.energised := by
  simp only [State.commitAdvance]
  (repeat' split) <;> simp

@[simp] theorem State.commitCalibrate_energised (s : State) :
    s.commitCalibrate.fmu.energised = s.fmu.energised := by
  simp [State.commitCalibrate]

@[simp] theorem State.commitPresent_energised (s : State) :
    s.commitPresent.fmu.energised = s.fmu.energised := by
  simp only [State.commitPresent]
  (repeat' split) <;> simp

@[simp] theorem State.commitRetract_energised (s : State) :
    s.commitRetract.fmu.energised = s.fmu.energised := by
  simp only [State.commitRetract]
  (repeat' split) <;> simp

@[simp] theorem State.commitResume_energised (s : State) :
    s.commitResume.fmu.energised = s.fmu.energised := by
  simp only [State.commitResume]
  (repeat' split) <;> simp

@[simp] theorem State.commitMotion_energised (s : State) :
    s.commitMotion.fmu.energised = s.fmu.energised := by
  simp only [State.commitMotion]
  (repeat' split) <;> simp

@[simp] theorem State.motionStep5_energised (s : State) : s.motionStep5.fmu.energised = s.fmu.energised := by
  simp only [State.motionStep5, State.act]
  (repeat' split) <;> simp [State.abort]

@[simp] theorem State.endWait_energised (s : State) :
    s.endWait.fmu.energised = s.fmu.energised := by
  simp only [State.endWait]
  (repeat' split) <;> simp

@[simp] theorem State.compactOn_energised (s : State) :
    s.compactOn.fmu.energised = s.fmu.energised := by
  simp only [State.compactOn]
  (repeat' split) <;> simp

@[simp] theorem State.claim_energised (s : State) :
    s.claim.fmu.energised = s.fmu.energised := by
  simp only [State.claim]
  (repeat' split) <;> simp

@[simp] theorem State.idleSampling_energised (s : State) :
    s.idleSampling.fmu.energised = s.fmu.energised := by
  simp only [State.idleSampling]
  (repeat' split) <;> simp

theorem State.energise_energised (on : s.fmu.energised = true) : s.energise = s := by
  simp [State.energise, on]

/-- R125: an energised motor stays energised in what follows. -/
theorem State.conclude_energised (on : s.fmu.energised = true) : s.conclude.fmu.energised = true := by
  rw [State.conclude_eq, State.idleSampling_energised, State.energise_energised (by simpa using on)]
  simpa using on

/-! ### The backward step -/

/-- R110: a step is taken backward. -/
abbrev State.steppedBack (s : State) (elapsed : Nat) : State :=
  { s with
    hdu := { s.hdu with current := none, strobe := [], clock := s.hdu.clock.map (· + elapsed) }
    fmu := { s.fmu with
      pos := s.fmu.pos - 1, speed := s.nvs.mech.startSpeed, backward := true, rest := .none, energised := true
      settling := false, idleTimer := some 2000 }
    msu := { s.msu with idleTimer := none } }

theorem State.backStep_far (elapsed : Nat) (far : s.fmu.target ≠ some (s.fmu.pos - 1)) :
    (s.advanceClock elapsed).backStep = (s.steppedBack elapsed).conclude :=
  congrArg State.conclude (if_neg far)

theorem State.backStep_there (elapsed : Nat) (there : s.fmu.target = some (s.fmu.pos - 1)) :
    (s.advanceClock elapsed).backStep = (s.steppedBack elapsed).backAtTarget.conclude :=
  congrArg State.conclude (if_pos there)

theorem State.backAtTarget_energised (on : s.fmu.energised = true) : s.backAtTarget.fmu.energised = true := by
  simp only [State.backAtTarget]
  (repeat' split) <;> simpa using on

/-- R122, R123: a backward FEED or a RETRACT has reached its target, and its free move ends. -/
theorem State.backAtTarget_ends (kind : s.fmu.move ≠ .retract ∨ s.fmu.mode ≠ .printRun) : s.backAtTarget =
    (({ s with fmu := { s.fmu with
      present := if s.fmu.move = .retract then .atPrintLine else s.fmu.present } } : State).toStopped).endMotion .ok := by
  by_cases retract : s.fmu.move = .retract
  · have free : s.fmu.mode ≠ .printRun := kind.resolve_left (not_not_intro retract)
    simp only [State.backAtTarget, retract, if_true]
    exact if_neg free
  · rw [if_neg retract, State.backAtTarget]
    split
    · exact absurd ‹_› retract
    all_goals rfl

/-- R123: the retract that opens a run is over, and the run goes on. -/
theorem State.backAtTarget_runsOn (retract : s.fmu.move = .retract) (mode : s.fmu.mode = .printRun) : s.backAtTarget =
    ({ s with fmu := { s.fmu with present := .atPrintLine, target := none, speed := 0 } } : State).runOn := by
  simp only [State.backAtTarget, retract, State.atPrintLine, mode, if_true]

theorem State.endMotion_fmu (s : State) (e : Ending) : (s.endMotion e).fmu = { s.fmu with motion := none } := by
  simp only [State.endMotion]
  (repeat' split) <;> simp

theorem State.endMotion_stage (s : State) (e : Ending) {stage : Stage} (not : s.csq.stage ≠ stage) (busy : stage ≠ .idle) :
    (s.endMotion e).csq.stage ≠ stage := by
  simp only [State.endMotion]
  (repeat' split)
  · exact not
  · exact fun h => busy h.symm
  · simpa using not
  · exact not

theorem State.OnlyRests.energised (h : u.OnlyRests t) (on : u.fmu.energised = true) :
    t.fmu = u.fmu ∧ t.msu = { u.msu with
      idleTimer := if u.fmu.speed = 0 then some (u.msu.idleTimer.getD 50) else none } := by
  obtain ⟨-, ⟨⟨same, -⟩ | ⟨off, -⟩, sensor⟩, -⟩ := h
  · exact ⟨same, sensor⟩
  · exact absurd (on.symm.trans off) nofun

theorem State.backwardDue_move (due : s.backwardDue = true) : s.fmu.move ≠ .run := by
  intro run
  simp [State.backwardDue, Fmu.goesBack, run] at due

/-- Settles O46: a backward step lowers the position by 1 at S, and ends at its target. -/
theorem backwardStepMovesOneLineBack : Obligations.BackwardStepMovesOneLineBack := by
  unfold Obligations.BackwardStepMovesOneLineBack
  refine ⟨fun s elapsed h due => ⟨_, exec_backwardStep h due elapsed, by simp, ?_, ?_⟩, fun s elapsed none => ?_⟩
  · by_cases there : s.fmu.target = some (s.fmu.pos - 1)
    · rw [State.backStep_there elapsed there]
      exact State.conclude_energised (State.backAtTarget_energised rfl)
    · rw [State.backStep_far elapsed there]
      exact State.conclude_energised rfl
  · intro hdu fmu msu stopped
    refine ⟨fun w c far => ?_, fun w c there kind => ?_, fun w c there retract mode => ?_⟩
    · rw [State.backStep_far elapsed far]
      obtain ⟨p, q, follows⟩ := State.conclude_follows (s := s.steppedBack elapsed) w c
      refine ⟨p, q, follows, fun moving => ?_⟩
      have rests := State.conclude_rests (s := s.steppedBack elapsed) w c
        (by simp [State.inRun, State.backwardDue_move due]) (State.mayRun_moving moving)
      obtain ⟨motor, sensor⟩ := rests.energised rfl
      refine ⟨motor, fun positive => ?_⟩
      rw [sensor, if_neg (Nat.ne_of_gt positive)]
    · have kind_ : (s.steppedBack elapsed).fmu.move ≠ .retract ∨ (s.steppedBack elapsed).fmu.mode ≠ .printRun :=
        kind.imp_right fun free => by rw [free]; nofun
      have ends : (s.steppedBack elapsed).backAtTarget =
          ({ s with hdu := hdu, fmu := stopped, msu := msu } : State).endMotion .ok :=
        State.backAtTarget_ends kind_
      rw [State.backStep_there elapsed there, ends]
      have w' := State.endMotion_stage ({ s with hdu := hdu, fmu := stopped, msu := msu } : State) .ok w nofun
      have c' := State.endMotion_stage ({ s with hdu := hdu, fmu := stopped, msu := msu } : State) .ok c nofun
      refine ⟨(State.endMotion_over _ .ok).ends w' c', fun empty => ?_⟩
      have rests := State.conclude_rests w' c' (by simp [State.inRun, State.endMotion_fmu, stopped])
        (by simp [State.mayRun, empty])
      rw [(rests.energised (by rw [State.endMotion_fmu])).1, State.endMotion_fmu]
    · rw [State.backStep_there elapsed there, State.backAtTarget_runsOn (s := s.steppedBack elapsed) retract mode]
      obtain ⟨p, q, follows⟩ := State.conclude_follows (s := ({ s.steppedBack elapsed with
        fmu := { (s.steppedBack elapsed).fmu with present := .atPrintLine, target := none, speed := 0 } } : State).runOn)
        (by simpa using w) (by simpa using c)
      exact ⟨by simpa using p, by simpa using q, follows⟩
  · refine congrArg Host.Outcome.next (?_ : s.served _ = s)
    rw [State.served]
    split
    · exact if_neg (by simp [none])
    · rfl

end Sys2Proof.Machine

end

section
/-! The render of a band (R87 to R94): its dots, its lines in the ring, and the cursor behind it. -/

namespace Sys2Proof.Machine

variable {s t u v : State}

/-! ### Dots -/

theorem byteOfBits_testBit (bits : List Bool) (i : Nat) :
    (bits.foldr (fun b n => bit b + 2 * n) 0).testBit i = bits.getD i false := by
  induction bits generalizing i with
  | nil => simp
  | cons b bits ih =>
    rw [List.foldr_cons]
    generalize List.foldr _ _ bits = n at ih
    cases i with
    | zero => cases b <;> simp [bit, Nat.testBit_zero, Nat.add_mod]
    | succ i =>
      have half : (bit b + 2 * n) / 2 = n := by cases b <;> simp [bit]; omega
      rw [Nat.testBit_succ, half, ih, List.getD_cons_succ]

/-- R80: dot 8k of a line stands in the most significant bit of byte k. -/
theorem lineByte_dot (dot : Nat → Bool) (x : Nat) : (lineByte dot (x / 8)).getLsbD (7 - x % 8) = dot x := by
  have less := Nat.mod_lt x (by decide : 0 < 8)
  have whole : 8 * (x / 8) + x % 8 = x := Nat.div_add_mod x 8
  rw [lineByte, byteOfBits, BitVec.getLsbD_ofNat, byteOfBits_testBit]
  generalize x / 8 = k at *
  generalize x % 8 = r at *
  subst whole
  interval_cases r <;> simp

theorem labelLine_dot (g : Gst) (ram : Memory) (l : Label) (y : Nat) {x : Nat} (less : x < 832) :
    (byteAt (labelLine g ram l y) (x / 8)).getLsbD (7 - x % 8) = labelDot g ram l x y := by
  have inRange : x / 8 < 104 := by omega
  have byte : byteAt (labelLine g ram l y) (x / 8) = lineByte (fun x => labelDot g ram l x y) (x / 8) := by
    simp [byteAt, labelLine, Config.lineBytes, List.getD_eq_getElem?_getD, inRange]
  rw [byte, lineByte_dot]

/-- R90: a dot inside the footprint takes the operation's bit. -/
theorem applyDot_eq (op : Nat) (f : Footprint) (source : Nat → Nat → Bool) (x y : Nat) (d : Bool) :
    applyDot op f source x y d =
      if f.x ≤ x ∧ (x : Int) < f.x + f.width ∧ f.y ≤ y ∧ (y : Int) < f.y + f.height then
        op.testBit ((if source (x - f.x).toNat (y - f.y).toNat then 1 else 0) + if d then 2 else 0)
      else d := by
  rw [applyDot, Footprint.offset]
  split
  · rename_i p q inside
    split at inside
    · rename_i within
      obtain ⟨rfl, rfl⟩ : p = _ ∧ q = _ := by simpa [eq_comm] using inside
      rw [if_pos within, rasterOp]
      cases source _ _ <;> cases d <;> rfl
    · cases inside
  · rename_i outside
    split at outside
    · cases outside
    · rename_i without
      rw [if_neg without]

theorem applyDot_at (op : Nat) (px py w h : Nat) (source : Nat → Nat → Bool) (x y : Nat) (d : Bool) :
    applyDot op ⟨px, py, w, h⟩ source x y d =
      if px ≤ x ∧ x < px + w ∧ py ≤ y ∧ y < py + h then
        op.testBit ((if source (x - px) (y - py) then 1 else 0) + if d then 2 else 0)
      else d := by
  have inside : ((px : Int) ≤ x ∧ (x : Int) < px + w ∧ (py : Int) ≤ y ∧ (y : Int) < py + h) ↔
      px ≤ x ∧ x < px + w ∧ py ≤ y ∧ y < py + h := by omega
  rw [applyDot_eq]
  refine if_congr inside ?_ rfl
  rw [show ((x : Int) - (px : Int)).toNat = x - px by omega, show ((y : Int) - (py : Int)).toNat = y - py by omega]

theorem ceilDiv_eight (w : Nat) : ceilDiv w 8 = (w + 7) / 8 := rfl

/-- R94: a text is laid out glyph by glyph. -/
theorem textLayout_append (g : Gst) (t : Transform) (spacing x y : Int) (before after : List Nat) (pen : Int) :
    textLayout g t spacing x y pen (before ++ after) = textLayout g t spacing x y pen before ++
      textLayout g t spacing x y (penMoved t.turns pen
        (before.map fun i => (scaledWidth (g.entry i) t : Int) + spacing).sum) after := by
  induction before generalizing pen with
  | nil => simp [textLayout, penMoved_zero]
  | cons id before ih =>
    rw [List.cons_append, textLayout_cons, ih, textLayout_cons, penMoved_add, List.map_cons, List.sum_cons,
      List.cons_append]

/-- Table 5-6: the corner of a glyph behind a text of this extent. -/
theorem textCorner_penMoved (form : Transform) (px py : Nat) (moved wide : Int) :
    textCorner form.turns px py (penMoved form.turns (penStart form px py) moved) wide =
      (if form.turns % 4 = 0 then (px : Int) + moved else if form.turns % 4 = 2 then px - moved - wide + 1 else px,
        if form.turns % 4 = 1 then (py : Int) + moved else if form.turns % 4 = 3 then py - moved - wide + 1 else py) := by
  have less := Nat.mod_lt form.turns (by decide : 0 < 4)
  have parity : form.turns % 2 = form.turns % 4 % 2 := by omega
  generalize turns : form.turns % 4 = n at less parity
  interval_cases n <;> simp [textCorner, penMoved, penStart, turns, parity]

/-! ### Lines in the ring -/

theorem getD_flatten {α : Type} {n : Nat} (d : α) : ∀ {lines : List (List α)}, (∀ l ∈ lines, l.length = n) → ∀ {j k : Nat},
    k < n → lines.flatten.getD (n * j + k) d = (lines.getD j []).getD k d := by
  intro lines
  induction lines with
  | nil => simp
  | cons l lines ih =>
    intro lengths j k less
    have length : l.length = n := lengths l List.mem_cons_self
    rw [List.flatten_cons]
    cases j with
    | zero => rw [Nat.mul_zero, Nat.zero_add, List.getD_cons_zero, List.getD_append _ _ _ _ (by omega)]
    | succ j =>
      rw [List.getD_append_right _ _ _ _ (by rw [length, Nat.mul_succ]; omega), List.getD_cons_succ,
        ← ih (fun l h => lengths l (List.mem_cons_of_mem _ h)) less, length]
      congr 1
      rw [Nat.mul_succ]
      omega

theorem length_flatten_uniform {α : Type} {n : Nat} {lines : List (List α)} (lengths : ∀ l ∈ lines, l.length = n) :
    lines.flatten.length = n * lines.length := by
  induction lines with
  | nil => simp
  | cons l lines ih =>
    rw [List.flatten_cons, List.length_append, lengths l List.mem_cons_self,
      ih fun l h => lengths l (List.mem_cons_of_mem _ h), List.length_cons, Nat.mul_succ, Nat.add_comm]

/-- R82: the COMPOSING band stands in the ring, just before its tail. -/
theorem Ring.composing_some {r : Ring} {i : Nat} (composing : r.composing = some i) :
    i = (r.tail + 15) % 16 ∧ i < 16 ∧ i < r.bands.length ∧ (r.band i).state = .composing := by
  simp only [Ring.composing, Config.ringBands] at composing
  split at composing
  · rename_i state
    obtain rfl := Option.some.inj composing
    have less : (r.tail + 16 - 1) % 16 < 16 := Nat.mod_lt _ (by decide)
    refine ⟨rfl, less, ?_, state⟩
    rw [← Nat.not_le]
    intro beyond
    rw [Ring.band, Config.ringBands, Nat.mod_eq_of_lt less, List.getD_eq_default _ _ beyond] at state
    cases state
  · cases composing

theorem Ring.band_setBand_other {r : Ring} {i j : Nat} (b : Band) (other : i % 16 ≠ j % 16) :
    (r.setBand i b).band j = r.band j := by
  rw [Ring.setBand, Ring.band, Ring.band, List.getD_eq_getElem?_getD, List.getElem?_set_ne other,
    List.getD_eq_getElem?_getD]

theorem Ring.band_setBand_same {r : Ring} {i : Nat} (b : Band) (inRange : i % 16 < r.bands.length) :
    (r.setBand i b).band i = b := by
  rw [Ring.setBand, Ring.band, List.getD_eq_getElem?_getD]
  simp [Config.ringBands, inRange]

/-- R86: a claim fills the band at the tail and no other. -/
theorem State.claim_band {i : Nat} (other : i % 16 ≠ s.ring.tail % 16) : s.claim.ring.band i = s.ring.band i := by
  rw [State.claim]
  split
  · rfl
  · split
    · rfl
    · split
      · exact Ring.band_setBand_other _ other.symm
      · rfl

theorem exec_bandRender (h : s.InService) (composing : s.ring.composing ≠ none) (still : s.gst.moving = none) :
    exec .bandRender s = .next s.renderBand.conclude :=
  (congrArg Host.Outcome.next (State.served_inService h _)).trans
    (congrArg _ (if_pos (by simp [still, Option.isSome_iff_ne_none.mpr composing])))

/-- R87: what the render of the COMPOSING band leaves. -/
theorem State.renderBand_eq {i : Nat} {l : Label} (composing : s.ring.composing = some i)
    (label : s.lbq.label (s.ring.band i).slot = some l) : s.renderBand = { s with
      ram := s.ram.writeBlock (ringOffset i 0) (s.bandLines l (s.ring.band i)).flatten
      ring := { s.ring.setBand i { s.ring.band i with
          state := .ready, dots := (s.bandLines l (s.ring.band i)).map dotCount } with
        seat := s.lbq.seatAfter (s.ring.band i) } } := by
  simp only [State.renderBand, composing, label]

theorem slotAfter_split {slot : Nat} {before behind : List Nat} (first : slot ∉ before) :
    slotAfter slot (before ++ slot :: behind) = behind.head? := by
  induction before with
  | nil => simp [slotAfter]
  | cons a before ih =>
    obtain ⟨ne, rest⟩ := not_or.mp (mt List.mem_cons.mpr first)
    rw [List.cons_append, slotAfter, if_neg (Ne.symm ne), ih rest]

/-- R97: where the cursor goes behind a rendered band. -/
theorem Lbq.seatAfter_eq {q : Lbq} {b : Band} {l : Label} (label : q.label b.slot = some l) : q.seatAfter b =
    if b.first + 16 < l.length then some ⟨b.slot, b.copy, b.first + 16⟩
    else if b.copy < l.copies ∧ l.finishing = false then some ⟨b.slot, b.copy + 1, 0⟩
    else (slotAfter b.slot q.queue).bind fun i => (q.label i).map fun l => ⟨i, l.done + 1, 0⟩ := by
  simp only [Lbq.seatAfter, Lbq.copyAfter, label, Config.bandLines, Bool.not_eq_true']
  split
  · rfl
  · split
    · rfl
    · cases slotAfter b.slot q.queue with
      | none => rfl
      | some i =>
        simp only [Option.bind_some, Lbq.firstCopy]
        cases q.label i <;> rfl

/-- R87: the lines of a band as the ring holds them, and no other byte has changed. -/
theorem renderBand_ram {i : Nat} {lines : List Line} (lengths : ∀ l ∈ lines, l.length = 104) (m : Memory) :
    (∀ j k, j < lines.length → k < 104 →
      (m.writeBlock (ringOffset i 0) lines.flatten).read (1664 * i + 104 * j + k) = byteAt (lines.getD j []) k) ∧
    ∀ a, a < 1664 * i ∨ 1664 * i + 104 * lines.length ≤ a →
      (m.writeBlock (ringOffset i 0) lines.flatten).read a = m.read a := by
  have base : ringOffset i 0 = 1664 * i := by
    simp only [ringOffset, Config.bandLines, Config.lineBytes]
    omega
  have total := length_flatten_uniform lengths
  rw [base]
  refine ⟨fun j k jless kless => ?_, fun a away => ?_⟩
  · rw [Nat.add_assoc, Memory.read_written m (by rw [total]; omega), getD_flatten 0 lengths kless]
    rfl
  · exact Memory.read_elsewhere m (by rwa [total])

/-- Settles O47: the render fills its band, dot by dot. -/
theorem bandRenderFillsTheBand : Obligations.BandRenderFillsTheBand := by
  unfold Obligations.BandRenderFillsTheBand
  refine ⟨fun s i l h composing still label w c => ?_, fun s idle => ?_, fun g ram l x y less => labelLine_dot g ram l y less,
    fun g ram l p x y => ⟨rfl, ?_⟩, fun g ram px py w h op x y d => ?_, fun g ram px py w h op bitmap x y d => ?_,
    fun g ram id px py op form x y d => ?_, fun g ram px py op form spacing before id x y d => ?_⟩
  · intro b lines first
    obtain ⟨tail, low, inRange, -⟩ := Ring.composing_some composing
    have rendered := State.renderBand_eq composing label
    obtain ⟨p, q, follows⟩ := State.conclude_follows (s := s.renderBand) (by simpa using w) (by simpa using c)
    have ram : s.renderBand.conclude.ram = s.ram.writeBlock (ringOffset i 0) lines.flatten := by
      obtain ⟨-, -, -, -, ram, -⟩ := follows
      rw [ram, rendered]
      rfl
    have ring : s.renderBand.conclude.ring = s.renderBand.claim.ring := by
      obtain ⟨-, -, -, -, -, -, -, -, -, ring, -⟩ := follows
      exact ring
    have lengths : ∀ l ∈ lines, l.length = 104 := by
      intro line mem
      obtain ⟨j, -, rfl⟩ := List.mem_map.mp mem
      simp [labelLine, Config.lineBytes]
    have count : lines.length = b.count := by simp [lines]
    obtain ⟨held, away⟩ := renderBand_ram (i := i) lengths s.ram
    rw [count] at held away
    have seat := Lbq.seatAfter_eq label
    refine ⟨_, exec_bandRender h (by rw [composing]; nofun) still, by simpa using p, by simpa using q,
      ⟨s.lbq.seatAfter b, ?_, fun more => seat.trans (if_pos more), fun last copies going =>
        seat.trans ((if_neg (Nat.not_lt.mpr last)).trans (if_pos ⟨copies, going⟩)), fun before behind last done queue
        new => ?_⟩, ?_, by rwa [ram], by rwa [ram]⟩
    · have is : ({ s with
          ram := s.ram.writeBlock (ringOffset i 0) lines.flatten
          ring := { s.ring with
            bands := s.ring.bands.set i { b with state := .ready, dots := lines.map dotCount }
            seat := s.lbq.seatAfter b } } : State) = s.renderBand := by
        rw [rendered, Ring.setBand, Config.ringBands, Nat.mod_eq_of_lt low]
        rfl
      rw [ram, is]
      exact follows
    · have other : ¬ (b.copy < l.copies ∧ l.finishing = false) := by
        rintro ⟨more, going⟩
        rcases done with copies | finishing
        · exact Nat.not_lt.mpr copies more
        · exact absurd (going.symm.trans finishing) nofun
      rw [seat, if_neg (Nat.not_lt.mpr last), if_neg other, queue, slotAfter_split new]
    · have at_ : s.renderBand.ring.tail = s.ring.tail := by
        rw [rendered]
        rfl
      rw [ring, State.claim_band (by rw [at_, tail]; omega), rendered]
      exact Ring.band_setBand_same _ (by rwa [Nat.mod_eq_of_lt low])
  · refine congrArg Host.Outcome.next (?_ : s.served _ = s)
    rw [State.served]
    split
    · refine if_neg ?_
      rcases idle with none | moving
      · simp [none]
      · simp [moving]
    · rfl
  · rw [labelDot, List.foldl_append]
    rfl
  · rw [Placement.apply, applyDot_at]
    refine if_congr Iff.rfl ?_ rfl
    cases d <;> rfl
  · rw [Placement.apply, applyDot_at]
    rfl
  · intro e wide high across down u v column row place source
    have place_ : scaledPosition e form u v = (column, row) := by
      have less := Nat.mod_lt form.turns (by decide : 0 < 4)
      simp only [scaledPosition, column, row]
      generalize form.turns % 4 = turns at less
      interval_cases turns <;> rfl
    have is : glyphSource ram e form u v = source := by
      rw [glyphSource, place_]
      rfl
    rw [Placement.apply, glyphFootprint_eq, applyDot_at, is]
  · intro wide high moved turns left top across down earlier
    refine ⟨rfl, ?_⟩
    have corner : textCorner form.turns px py (penMoved form.turns (penStart form px py) moved) (wide id) = (left, top) :=
      textCorner_penMoved form px py moved (wide id)
    have last : (Placement.text px py op form spacing (before ++ [id])).apply g ram x y d =
        applyDot op (glyphFootprint (g.entry id) form left top) (glyphSource ram (g.entry id) form) x y earlier := by
      rw [show left = (left, top).1 from rfl, show top = (left, top).2 from rfl, ← corner, Placement.apply,
        textLayout_append, List.foldl_append, textLayout_cons]
      rfl
    have width : ((if form.turns % 2 = 0 then (g.entry id).width * form.hm else (g.entry id).height * form.vm : Nat) : Int)
        = across := apply_ite _ _ _ _
    have height : ((if form.turns % 2 = 0 then (g.entry id).height * form.vm else (g.entry id).width * form.hm : Nat) : Int)
        = down := apply_ite _ _ _ _
    rw [last, glyphFootprint_eq, applyDot_eq, width, height]
    refine if_ctx_congr Iff.rfl (fun inside => ?_) fun _ => rfl
    obtain ⟨west, east, north, south⟩ := inside
    rw [← width] at east
    rw [← height] at south
    rw [Placement.apply, glyphFootprint_eq, applyDot_at]
    refine Eq.trans ?_ (if_pos ⟨Nat.zero_le _, ?_, Nat.zero_le _, ?_⟩).symm
    · rfl
    · rw [Nat.zero_add, Int.toNat_lt (Int.sub_nonneg_of_le west)]
      exact Int.sub_left_lt_of_lt_add east
    · rw [Nat.zero_add, Int.toNat_lt (Int.sub_nonneg_of_le north)]
      exact Int.sub_left_lt_of_lt_add south

end Sys2Proof.Machine

end

section
/-! Halts (R145) and the Break at its safe point (R10, R11): a halt said once, and what a Break in EXECUTE does. -/

namespace Sys2Proof.Machine

variable {s t u v : State} {code : Byte}

/-! ### A halt, said once -/

theorem State.reseat_is (s : State) : s.reseat = { s with ring := s.reseat.ring } := rfl

/-- The primary cause of a halt by these causes (R145). -/
abbrev primaryOf (cs : List Cause) : Cause := (Cause.all.find? cs.contains).getD .registrationLost

theorem Lbq.printing_none {q : Lbq} (idle : q.printing = none) : { q with printing := none } = q := by
  cases q
  simp_all

/-- R145 step 2: the supervisor once the printing copy is spoiled. -/
def State.engSpoiled (s : State) : Eng :=
  match s.lbq.printing with
  | none => { s.eng with interrupted := none }
  | some p => { s.eng with
      interrupted := some ⟨p.slot, p.copy⟩
      events := if s.eng.events.length < 16 then s.eng.events ++ [⟨.labelSpoiled, BitVec.ofNat 8 p.copy,
        (s.lbq.label p.slot).elim noLabel (·.number), BitVec.ofNat 16 p.passed⟩] else s.eng.events
      overflow := if s.eng.events.length < 16 then s.eng.overflow else min 65535 (s.eng.overflow + 1) }

/-- R145 step 2: the printing copy is spoiled. -/
theorem State.spoil_eq (s : State) :
    s.spoil = { s with lbq := { s.lbq with printing := none }, eng := s.engSpoiled } := by
  cases printing : s.lbq.printing with
  | none =>
    rw [Lbq.printing_none printing]
    simp only [State.spoil, State.engSpoiled, printing]
  | some p =>
    simp only [State.spoil, State.engSpoiled, printing, State.post_eq]
    rfl

/-- R145 steps 3 and 4: behind the spoiled copy, the ring is flushed and every search and present is over. -/
theorem State.flushed_cut (idle : u.lbq.printing = none) :
    ({ u with ring := u.ring.flush } : State).reseat.cutShort.unregister = { u with
      ring := ⟨List.replicate 16 .blank, u.ring.tail, u.ring.tail,
        u.lbq.queue.head?.bind fun i => (u.lbq.label i).map fun l => ⟨i, l.done + 1, 0⟩⟩
      fmu := { u.fmu with
        present := if u.fmu.present = .presenting ∨ u.fmu.present = .retracting then .atPrintLine else u.fmu.present }
      msu := { u.msu with find := none, calib := none, reg := ⟨.unknown, none, false, 0⟩ } } := by
  rw [State.cutShort_unregister, State.reseat_is, State.reseat_flushed u idle]

/-- R145: a halt up to its record, before it is posted. -/
abbrev State.haltRecorded (s : State) (cs : List Cause) : State :=
  (({ (s.stopForHalt cs).spoil with ring := (s.stopForHalt cs).spoil.ring.flush } : State).reseat.cutShort.unregister
    ).recordHalt cs (primaryOf cs)

/-- R145: the state that a halt by these causes leaves. -/
theorem State.haltRecorded_post (s : State) (cs : List Cause)
    (dead : (causeSet cs).getLsbD 0 = true ↔ Cause.headOpen ∈ cs) :
    (s.haltRecorded cs).post ⟨.halted, (causeSet cs).setWidth 8, (s.haltRecorded cs).interruptedLabel,
      (primaryOf cs).sense.byte.setWidth 16⟩ = s.asHalted (causeSet cs) (primaryOf cs) := by
  have stops := s.stopForHalt_eq cs
  simp only [← dead] at stops
  obtain ⟨stop, is⟩ : ∃ stop, stop = if (causeSet cs).getLsbD 0 = true ∨ s.fmu.backward = true ∨
      s.fmu.speed ≤ s.nvs.mech.startSpeed ∨ s.fmu.mode = .stopped then s.fmu.atRest
    else if s.fmu.stop = some .fault ∨ s.fmu.stop = some .dead then { s.fmu with why := some .halt }
    else { s.fmu with mode := .stopping, stop := some .fault, why := some .halt } := ⟨_, rfl⟩
  rw [← is] at stops
  have same : stop.present = s.fmu.present ∧ stop.pos = s.fmu.pos := by
    rw [is]
    (repeat' split) <;> exact ⟨rfl, rfl⟩
  have recorded : s.haltRecorded cs = ({ s with
      ring := ⟨List.replicate 16 .blank, s.ring.tail, s.ring.tail,
        s.lbq.queue.head?.bind fun i => (s.lbq.label i).map fun l => ⟨i, l.done + 1, 0⟩⟩
      fmu := { stop with present :=
        if s.fmu.present = .presenting ∨ s.fmu.present = .retracting then .atPrintLine else s.fmu.present }
      msu := { s.msu with find := none, calib := none, reg := ⟨.unknown, none, false, 0⟩ }
      lbq := { s.lbq with printing := none }, eng := s.engSpoiled } : State).recordHalt cs (primaryOf cs) := by
    have cut := State.flushed_cut (u := { s with
      fmu := stop, lbq := { s.lbq with printing := none }, eng := s.engSpoiled }) rfl
    simp only [same.1] at cut
    have spoiled : ({ s with fmu := stop } : State).spoil =
      { s with fmu := stop, lbq := { s.lbq with printing := none }, eng := s.engSpoiled } := State.spoil_eq _
    rw [State.haltRecorded, stops, spoiled, cut]
    rfl
  rw [recorded]
  simp only [State.recordHalt, State.asHalted, ← is, same.2]
  cases printing : s.lbq.printing with
  | none =>
    simp only [State.engSpoiled, printing]
    rfl
  | some p =>
    simp only [State.engSpoiled, printing, State.post_eq]
    rfl

/-- R145: a halt, and the end of the free motion in it. -/
theorem State.halt_eq (s : State) (cs : List Cause) (dead : (causeSet cs).getLsbD 0 = true ↔ Cause.headOpen ∈ cs) :
    s.halt cs = (s.asHalted (causeSet cs) (primaryOf cs)).endMotion
      ((s.asHalted (causeSet cs) (primaryOf cs)).haltEnding (primaryOf cs)) := by
  rw [← s.haltRecorded_post cs dead]
  rfl

/-- R145: what the end of a free motion says of the halt that ended it. -/
theorem State.haltEnding_asHalted (s : State) (causes : BitVec 4) (c : Cause) :
    (s.asHalted causes c).haltEnding c =
      .error c.sense none (if c = .headCritical then .detail (BitVec.ofInt 32 s.hdu.temp) else .position s.fmu.pos) := by
  have kept : (s.asHalted causes c).eng.haltPos = s.fmu.pos ∧ (s.asHalted causes c).hdu = s.hdu := by
    simp only [State.asHalted]
    cases s.lbq.printing <;> simp
  cases c <;> simp [State.haltEnding, kept, State.tempDetail, Cause.sense]

/-- R145: a halt by these causes, with its primary cause. -/
theorem State.halt_is (s : State) {cs : List Cause} {causes : BitVec 4} {c : Cause} (set : causeSet cs = causes)
    (first : primaryOf cs = c) (dead : causes.getLsbD 0 = true ↔ Cause.headOpen ∈ cs) :
    s.halt cs = (s.asHalted causes c).endMotion
      (.error c.sense none (if c = .headCritical then .detail (BitVec.ofInt 32 s.hdu.temp) else .position s.fmu.pos)) := by
  subst set first
  rw [State.halt_eq s cs dead, State.haltEnding_asHalted]

theorem State.endMotion_still (still : s.fmu.motion = none) (e : Ending) : s.endMotion e = s := by
  rw [State.endMotion, still]
  have same : ({ s.fmu with motion := none } : Fmu) = s.fmu := by rw [← still]
  simp only [same]

/-! ### Ends of commands, up to the Break-pending flag -/

theorem State.SameEngine.symm (h : u.SameEngine v) : v.SameEngine u := by
  obtain ⟨gst, lbq, ring, hdu, fmu, msu, eng, nvs, ram, strap, pending⟩ := h
  exact ⟨gst.symm, lbq.symm, ring.symm, hdu.symm, fmu.symm, msu.symm, eng.symm, nvs.symm, ram.symm, strap.symm, pending.symm⟩

theorem State.SameEngine.trans (h : u.SameEngine v) (k : v.SameEngine t) : u.SameEngine t := by
  obtain ⟨gst, lbq, ring, hdu, fmu, msu, eng, nvs, ram, strap, pending⟩ := h
  obtain ⟨gst', lbq', ring', hdu', fmu', msu', eng', nvs', ram', strap', pending'⟩ := k
  exact ⟨gst'.trans gst, lbq'.trans lbq, ring'.trans ring, hdu'.trans hdu, fmu'.trans fmu, msu'.trans msu, eng'.trans eng,
    nvs'.trans nvs, ram'.trans ram, strap'.trans strap, pending'.trans pending⟩

theorem State.SameEngine.mayRun (h : u.SameEngine v) : v.mayRun = u.mayRun := by
  obtain ⟨-, lbq, -, hdu, fmu, msu, eng, -⟩ := h
  simp only [State.mayRun, lbq, hdu, fmu, msu, eng]

/-- R10: with a Break pending. -/
abbrev State.pended (s : State) : State := { s with hpu := { s.hpu with breakPending := true } }

theorem State.EndsWith.of_pended {e : Ending} (hpu : v.hpu = { u.hpu with breakPending := true }) (csq : v.csq = u.csq)
    (h : v.EndsWith t e) : u.EndsWith t e := by
  obtain ⟨ends, sequencer⟩ := h
  rw [csq] at sequencer
  exact ⟨by rw [ends, hpu]; rfl, sequencer⟩

theorem State.EndsAndFollows.of_pended {e : Ending} (hpu : v.hpu = { u.hpu with breakPending := true })
    (csq : v.csq = u.csq) (same : u.SameEngine v) (h : v.EndsAndFollows t e) : u.EndsAndFollows t e := by
  obtain ⟨w, ends, engine, rest⟩ := h
  exact ⟨w, ends.of_pended hpu csq, same.trans engine, rest⟩

/-! ### A Break in EXECUTE -/

theorem exec_break (h : s.InService) (execute : s.hpu.phase = .execute) :
    exec .breakRequest s = .next s.breakExecute.conclude := by
  rw [exec_breakRequest h, State.breakNow, execute]

theorem State.breakExecute_again (pending : s.hpu.breakPending = true) : s.breakExecute = s := if_pos pending

theorem State.breakExecute_pends (none : s.hpu.breakPending = false)
    (stage : s.csq.stage = .validate ∨ s.csq.stage = .finish ∨ ∃ w, s.csq.stage = .writing w) :
    s.breakExecute = s.pended := by
  rcases stage with stage | stage | ⟨w, stage⟩ <;>
    simp only [State.breakExecute, none, stage, Bool.false_eq_true, if_false]

theorem State.breakExecute_aborts (none : s.hpu.breakPending = false) (stage : s.csq.stage = .waiting ∨
    (∃ n, s.csq.stage = .ramTesting n) ∨ (s.csq.stage = .compacting ∧ s.gst.moving = Option.none)) :
    s.breakExecute = s.pended.abort := by
  rcases stage with stage | ⟨n, stage⟩ | ⟨stage, still⟩
  · simp only [State.breakExecute, none, stage, Bool.false_eq_true, if_false]
  · simp only [State.breakExecute, none, stage, Bool.false_eq_true, if_false]
  · simp only [State.breakExecute, none, stage, still, Bool.false_eq_true, if_false, Option.isNone_none, if_true]

theorem State.breakExecute_moves (none : s.hpu.breakPending = false) (stage : s.csq.stage = .moving) :
    s.breakExecute = s.pended.breakMotion := by
  simp only [State.breakExecute, none, stage, Bool.false_eq_true, if_false]

theorem State.breakExecute_compacting (stage : s.csq.stage = .compacting) (moving : s.gst.moving ≠ Option.none) :
    s.breakExecute = s.pended := by
  cases pending : s.hpu.breakPending with
  | true =>
    rw [State.breakExecute_again pending]
    have same : ({ s.hpu with breakPending := true } : Hpu) = s.hpu := by rw [← pending]
    rw [State.pended, same]
  | false =>
    obtain ⟨id, moving⟩ := Option.ne_none_iff_exists'.mp moving
    simp only [State.breakExecute, pending, stage, moving, Bool.false_eq_true, if_false, Option.isNone_some]

/-- R10: a command at work that no Break can end yet goes on with the flag set. -/
theorem break_pends (h : s.InService) (execute : s.hpu.phase = .execute) (pends : s.breakExecute = v)
    (hpu : v.hpu = { s.hpu with breakPending := true }) (csq : v.csq = s.csq) (same : v.SameEngine s)
    (w : s.csq.stage ≠ .waiting) (c : s.csq.stage ≠ .compacting) :
    ∃ t, exec .breakRequest s = .next t ∧ t.hpu = { s.hpu with breakPending := true } ∧ t.csq = s.csq ∧
      s.OnlyFollows t := by
  obtain ⟨p, q, follows⟩ := State.conclude_follows (s := v) (by rwa [csq]) (by rwa [csq])
  exact ⟨_, by rw [exec_break h execute, pends], p.trans hpu, q.trans csq, follows.congr same (State.SameEngine.refl _)⟩

/-- R10: a command that a Break ends at once. -/
theorem break_aborts (h : s.InService) (execute : s.hpu.phase = .execute) (notSense : s.csq.block.head? ≠ some 0x12)
    (aborts : s.breakExecute = s.pended.abort) :
    ∃ t, exec .breakRequest s = .next t ∧ s.EndsAndFollows t (.error .aborted none .nothing) :=
  ⟨_, by rw [exec_break h execute, aborts]; rfl, State.EndsAndFollows.of_pended (v := s.pended) rfl rfl
    (State.SameEngine.refl s) (State.finish_follows (s := s.pended) notSense (refusal .aborted))⟩

/-! ### A Break of an attached move -/

theorem State.stopsAtOnce_soft (mode : s.fmu.mode ≠ .stopped) :
    s.stopsAtOnce .soft = true ↔ s.fmu.backward = true ∨ s.fmu.speed ≤ s.nvs.mech.startSpeed := by
  have slow : decide (s.fmu.speed ≤ s.startSpeed) = true ↔ s.fmu.speed ≤ s.nvs.mech.startSpeed := decide_eq_true_iff
  rw [← slow]
  simp [State.stopsAtOnce, mode]

/-- R10, R131: an attached move that a Break ends at once. -/
theorem abortFreeMove_ends (notSense : s.csq.block.head? ≠ some 0x12)
    (attached : s.fmu.motion = some ⟨code, .attached⟩) :
    let still : State := { s.movementCut with fmu := { s.movementCut.fmu with motion := none } }
    still.EndsAndFollows s.abortFreeMove.conclude (.error .aborted none .nothing) ∧
      (still.mayRun = false → still.MotorRests s.abortFreeMove.conclude) := by
  intro still
  have over_ := s.abortFreeMove_over
  have motion : s.movementCut.fmu.motion = some ⟨code, .attached⟩ := attached
  simp only [State.MotionOver, motion] at over_
  obtain ⟨ends, same⟩ := over_ notSense
  have idle : s.abortFreeMove.csq.stage = .idle := by rw [ends.2]
  obtain ⟨p, q, follows⟩ := State.conclude_follows (s := s.abortFreeMove) (by rw [idle]; nofun) (by rw [idle]; nofun)
  refine ⟨⟨_, ends, same, p, q, follows⟩, fun none => ?_⟩
  have stopped : s.abortFreeMove.inRun = false := by
    have motor : s.abortFreeMove.fmu = still.fmu := same.2.2.2.2.1
    simp [State.inRun, motor, still, State.movementCut, Fmu.atRest]
  have rests := State.conclude_rests (s := s.abortFreeMove) (by rw [idle]; nofun) (by rw [idle]; nofun) stopped
    (same.mayRun.trans none)
  exact rests.2.1.congr same.symm (State.SameEngine.refl _)

/-- R119: a soft stop for a Break begins. -/
abbrev State.breaking (s : State) : State :=
  { s with
    fmu := { s.fmu with mode := .stopping, stop := some .soft, why := some .breakRequest }
    msu := { s.msu with find := none } }

/-- R119: a motor that stops for a Break goes on stopping. -/
theorem breaking_rests {m : FreeMotion} (motion : v.fmu.motion = some m) (mode : v.fmu.mode = .stopping)
    (w : v.csq.stage = .moving) :
    v.OnlyRests v.conclude ∧ v.conclude.hpu = v.hpu ∧ v.conclude.csq = v.csq := by
  have rests := State.conclude_rests (s := v) (by rw [w]; nofun) (by rw [w]; nofun) (by simp [State.inRun, mode])
    (State.mayRun_moving (by rw [motion]; nofun))
  obtain ⟨p, q, -⟩ := State.conclude_follows (s := v) (by rw [w]; nofun) (by rw [w]; nofun)
  exact ⟨rests, p, q⟩

@[simp] theorem State.asHalted_csq (s : State) (causes : BitVec 4) (c : Cause) :
    (s.asHalted causes c).csq = s.csq ∧ (s.asHalted causes c).hpu = s.hpu := by
  simp only [State.asHalted]
  cases s.lbq.printing <;> simp

/-- R145: a halt with the motor STOPPED and no copy printing. -/
theorem State.asHalted_stopped (idle : s.lbq.printing = none) (mode : s.fmu.mode = .stopped) (causes : BitVec 4) (c : Cause) :
    s.asHalted causes c = ({ s with
      ring := ⟨List.replicate 16 .blank, s.ring.tail, s.ring.tail,
        s.lbq.queue.head?.bind fun i => (s.lbq.label i).map fun l => ⟨i, l.done + 1, 0⟩⟩
      fmu := { s.fmu.atRest with
        underrun := none
        present := if s.fmu.present = .presenting ∨ s.fmu.present = .retracting then .atPrintLine else s.fmu.present }
      msu := { s.msu with find := none, calib := none, reg := ⟨.unknown, none, false, 0⟩ }
      eng := { s.eng with
        cond := .halted, causes := causes, primary := some c, haltPos := s.fmu.pos, interrupted := none
        settle := none } } : State).post ⟨.halted, causes.setWidth 8, 0xFFFF, c.sense.byte.setWidth 16⟩ := by
  have same := Lbq.printing_none idle
  simp only [State.asHalted, idle, mode, or_true, if_true, Option.map_none, Option.elim_none]
  rw [same]

/-- R11, R145: a recovery that a Break ends halts the engine again with REGISTRATION LOST alone. -/
theorem State.breakRecovery_eq (s : State) : s.breakRecovery =
    (({ s with fmu := { s.fmu.atRest with motion := none } } : State).asHalted 8 .registrationLost).finish
      (refusal .aborted) := by
  have motion : (({ s with fmu := { s.fmu.atRest with motion := none } } : State).asHalted 8
      .registrationLost).fmu.motion = none := by
    simp only [State.asHalted]
    cases s.lbq.printing <;> simp [Fmu.atRest]
  have halts := State.halt_is { s with fmu := { s.fmu.atRest with motion := none } } (cs := [.registrationLost])
    (causes := 8) (c := .registrationLost) rfl rfl (by decide)
  rw [State.endMotion_still motion] at halts
  exact congrArg (State.finish · (refusal .aborted)) halts

/-- R11: a Break of an attached RESUME in RECOVERING. -/
theorem break_recovery (h : s.InService) (execute : s.hpu.phase = .execute) (none : s.hpu.breakPending = false)
    (stage : s.csq.stage = .moving) (block : s.csq.block.head? = some 0x56)
    (attached : s.fmu.motion = some ⟨0x56, .attached⟩) (cond : s.eng.cond = .recovering)
    (idle : s.lbq.printing = Option.none) :
    ∃ t, exec .breakRequest s = .next t ∧
      let pends := t.hpu = { s.hpu with breakPending := true } ∧ t.csq = s.csq
      let lost : State := ({ s with
        fmu := { s.fmu with
          mode := .stopped, speed := 0, target := Option.none, stop := Option.none, why := Option.none, move := .none
          rest := .none, settling := false, motion := Option.none, underrun := Option.none
          present := if s.fmu.present = .presenting ∨ s.fmu.present = .retracting then .atPrintLine
            else s.fmu.present }
        msu := { s.msu with find := Option.none, calib := Option.none, reg := ⟨.unknown, Option.none, false, 0⟩ }
        ring := (({ s with ring := s.ring.flush } : State).reseat).ring
        eng := { s.eng with
          cond := .halted, causes := 8, primary := some .registrationLost, haltPos := s.fmu.pos
          interrupted := Option.none, settle := Option.none } } : State).post ⟨.halted, 8, 0xFFFF, 0x21⟩
      (s.fmu.mode = .stopping → pends ∧
        ({ s with fmu := { s.fmu with why := some .breakRequest } } : State).OnlyRests t) ∧
      (s.fmu.mode = .freeMove → s.fmu.backward = false → s.nvs.mech.startSpeed < s.fmu.speed → pends ∧
        ({ s with
          fmu := { s.fmu with mode := .stopping, stop := some .soft, why := some .breakRequest }
          msu := { s.msu with find := Option.none } } : State).OnlyRests t) ∧
      (s.fmu.mode = .freeMove → s.fmu.backward = true ∨ s.fmu.speed ≤ s.nvs.mech.startSpeed →
        lost.EndsAndFollows t (.error .aborted Option.none .nothing)) := by
  obtain ⟨t, is⟩ : ∃ t, s.pended.breakMotion.conclude = t := ⟨_, rfl⟩
  refine ⟨t, by rw [exec_break h execute, State.breakExecute_moves none stage, is], ?_⟩
  intro pends lost
  refine ⟨fun mode => ?_, fun mode forward fast => ?_, fun mode slow => ?_⟩
  · have moves : s.pended.breakMotion = { s.pended with fmu := { s.fmu with why := some .breakRequest } } := by
      rw [State.breakMotion, if_pos cond, if_pos mode]
    obtain ⟨rests, p, q⟩ := breaking_rests (v := { s.pended with fmu := { s.fmu with why := some .breakRequest } })
      attached mode stage
    rw [(congrArg State.conclude moves).symm.trans is] at rests p q
    exact ⟨⟨p, q⟩, rests.congr (State.SameEngine.refl _) (State.SameEngine.refl _)⟩
  · have fast_ : ¬ (s.fmu.backward = true ∨ s.fmu.speed ≤ s.nvs.mech.startSpeed) := by
      rw [forward]
      simpa using fast
    have moves : s.pended.breakMotion = s.pended.breaking := by
      rw [State.breakMotion, if_pos cond, if_neg (by rw [mode]; nofun),
        if_neg (mt (State.stopsAtOnce_soft (s := s.pended) (by rw [mode]; nofun)).mp fast_)]
      rfl
    obtain ⟨rests, p, q⟩ := breaking_rests (v := s.pended.breaking) attached rfl stage
    rw [(congrArg State.conclude moves).symm.trans is] at rests p q
    exact ⟨⟨p, q⟩, rests.congr (State.SameEngine.refl _) (State.SameEngine.refl _)⟩
  · have moves : s.pended.breakMotion = s.pended.breakRecovery := by
      rw [State.breakMotion, if_pos cond, if_neg (by rw [mode]; nofun),
        if_pos ((State.stopsAtOnce_soft (s := s.pended) (by rw [mode]; nofun)).mpr slow)]
    have halted := State.asHalted_stopped (s := { s.pended with fmu := { s.fmu.atRest with motion := Option.none } }) idle rfl 8
      .registrationLost
    rw [← is, moves, State.breakRecovery_eq, halted]
    refine (State.finish_follows (by simp [block]) (refusal .aborted)).of_pended (by simp [lost]) (by simp [lost])
      (.post ?_ _)
    rw [State.reseat_flushed s idle]
    exact State.SameEngine.refl _

/-- Settles O10: a Break in EXECUTE acts at its safe point. -/
theorem breakInExecuteActsAtASafePoint : Obligations.BreakInExecuteActsAtASafePoint := by
  unfold Obligations.BreakInExecuteActsAtASafePoint
  refine ⟨⟨fun s h execute none stage => ?_, fun s h execute none stage notSense => ?_, fun s h execute pending w c => ?_,
    fun s h execute stage moving => ?_⟩, fun s code h execute none stage block notSense attached cond stop mode => ?_,
    fun s h execute none stage block attached cond idle => ?_, fun w m mode slow why cond notSense => ?_⟩
  · have other : s.csq.stage ≠ .waiting ∧ s.csq.stage ≠ .compacting := by
      rcases stage with stage | stage | ⟨w, stage⟩ <;> rw [stage] <;> exact ⟨nofun, nofun⟩
    exact break_pends h execute (State.breakExecute_pends none stage) rfl rfl (State.SameEngine.refl s) other.1 other.2
  · exact break_aborts h execute notSense (State.breakExecute_aborts none stage)
  · obtain ⟨p, q, follows⟩ := State.conclude_follows w c
    exact ⟨_, by rw [exec_break h execute, State.breakExecute_again pending], p, q, follows⟩
  · have pends := State.breakExecute_compacting stage moving
    have engine : s.pended.conclude = s.pended.engineFollows := by
      have held : s.pended.compactOn = s.pended := if_neg fun both => moving both.2
      rw [State.conclude_eq, State.endWait_idle (s := s.pended) (by rw [stage]; nofun), held]
    obtain ⟨p, q, follows⟩ := s.pended.engine_follows
    refine ⟨_, by rw [exec_break h execute, pends, engine], p, q, follows.congr (State.SameEngine.refl _)
      (State.SameEngine.refl _)⟩
  · have live : s.eng.cond ≠ .recovering := by rcases cond with cond | cond <;> rw [cond] <;> nofun
    have heeds : s.pended.stopIgnored .soft = false := by simp [State.stopIgnored, stop]
    refine ⟨_, by rw [exec_break h execute, State.breakExecute_moves none stage], ?_⟩
    intro cut stopped
    have moves : s.pended.breakMotion =
        if s.pended.stopsAtOnce .soft then s.pended.abortFreeMove else s.pended.breaking := by
      rw [State.breakMotion, if_neg live, if_neg (by rw [heeds]; nofun)]
      rfl
    rw [moves]
    by_cases slow : s.fmu.backward = true ∨ s.fmu.speed ≤ s.nvs.mech.startSpeed
    · rw [if_pos slow, if_pos ((State.stopsAtOnce_soft (s := s.pended) (by rw [mode]; nofun)).mpr slow)]
      obtain ⟨ends, rests⟩ := abortFreeMove_ends (s := s.pended) (code := code) (by rw [block]; simpa using notSense)
        attached
      exact ⟨ends.of_pended (u := stopped) (v := { s.pended.movementCut with
        fmu := { s.pended.movementCut.fmu with motion := Option.none } }) rfl rfl (State.SameEngine.refl stopped), rests⟩
    · rw [if_neg slow, if_neg (mt (State.stopsAtOnce_soft (s := s.pended) (by rw [mode]; nofun)).mp slow)]
      obtain ⟨rests, p, q⟩ := breaking_rests (v := s.pended.breaking) attached rfl stage
      exact ⟨rests.congr (State.SameEngine.refl _) (State.SameEngine.refl _), p, q⟩
  · exact break_recovery h execute none stage block attached cond idle
  · intro halted
    have ends : w.endOfStep m = halted.finish (refusal .aborted) := by
      rw [State.endOfStep, mode]
      refine (if_pos slow).trans ?_
      rw [State.stopEnded, why]
      exact (if_pos cond).trans w.breakRecovery_eq
    rw [ends]
    exact ⟨State.finish_endsWith (by simpa [halted, State.asHalted_csq] using notSense) _, State.finish_sameEngine _ _⟩

end Sys2Proof.Machine

end

section
/-! A command that fails has no effect (R30, R31), and a pending Break ends it at its safe point (R10). -/

namespace Sys2Proof.Machine

variable {s t u v w x : State} {code : Byte} {row : Instr} {checks : List (Bool × Ending)} {commit : State → State}

/-! ### Endings that are errors -/

/-- R38: the ending is an error. -/
def Ending.isError : Ending → Bool
  | .error _ _ _ => true
  | .ok | .notice _ => false

theorem byteOfBits_zero (b : Bool) (l : List Bool) : l.length = 7 → (byteOfBits (b :: l)).getLsbD 0 = b := by
  intro _
  rw [byteOfBits, BitVec.getLsbD_ofNat, byteOfBits_testBit]
  rfl

theorem completionByte_error (e : Ending) (seq : BitVec 3) (motion events halted : Bool) :
    (completionByte e seq motion events halted).getLsbD 0 = e.isError := by
  cases e <;> exact byteOfBits_zero _ _ rfl

/-- A command has ended with an error. -/
abbrev State.Failed (t : State) : Prop := t.hpu.phase = .completion ∧ t.hpu.completion.getLsbD 0 = true

/-- A command is over, and the engine as this state has it. -/
abbrev State.Over (u t : State) : Prop := u.SameEngine t ∧ t.csq.block = [] ∧ t.csq.payload = []

theorem State.failed_finish (s : State) (e : Ending) : (s.finish e).Failed ↔ e.isError = true := by
  rw [← completionByte_error e (s.hpu.seq + 1) s.fmu.motion.isSome (!s.eng.events.isEmpty) (s.eng.cond == .halted)]
  exact ⟨fun h => h.2, fun h => ⟨rfl, h⟩⟩

theorem State.over_finish (s : State) (e : Ending) : s.Over (s.finish e) := ⟨State.finish_sameEngine s e, rfl, rfl⟩

theorem State.not_failed_of_phase (h : t.hpu.phase ≠ .completion) : ¬ t.Failed := fun failed => h failed.1

/-- Every refusal of these checks is an error. -/
def Errors (l : List (Bool × Ending)) : Prop := ∀ c ∈ l, c.2.isError = true

theorem Errors.nil : Errors [] := nofun

theorem Errors.cons {c : Bool} {e : Ending} {l : List (Bool × Ending)} (head : e.isError = true) (tail : Errors l) :
    Errors ((c, e) :: l) := by
  intro x mem
  rcases List.mem_cons.mp mem with rfl | mem
  · exact head
  · exact tail x mem

theorem Errors.append {l k : List (Bool × Ending)} (first : Errors l) (then_ : Errors k) : Errors (l ++ k) := by
  intro x mem
  rcases List.mem_append.mp mem with mem | mem
  · exact first x mem
  · exact then_ x mem

theorem Errors.firstOf {l : List (Bool × Ending)} {e : Ending} (h : Errors l) (first : firstOf l = some e) :
    e.isError = true := by
  induction l with
  | nil => cases first
  | cons c l ih =>
    rw [firstOf_cons] at first
    split at first
    · cases first
      exact h c List.mem_cons_self
    · exact ih (fun x mem => h x (List.mem_cons_of_mem _ mem)) first

/-! ### The checks of the commands -/

theorem errors_originRanges (s : State) (b : List Byte) (i : Nat) : Errors (s.originRanges b i) :=
  .cons rfl (.cons rfl .nil)

theorem errors_glyphIdRange (b : List Byte) : Errors (glyphIdRange b) := .cons rfl .nil

theorem errors_areaRanges (s : State) (b : List Byte) : Errors (s.placeAreaRanges b) :=
  (errors_originRanges s b 2).append (.cons rfl (.cons rfl (.cons rfl .nil)))

theorem errors_ranges (s : State) (b : List Byte) : Errors (s.ranges b) := by
  rw [State.ranges]
  split
  · exact .cons rfl .nil
  · exact .cons rfl .nil
  · exact .cons rfl (.cons rfl (.cons rfl .nil))
  · exact errors_glyphIdRange b
  · exact errors_glyphIdRange b
  · exact .cons rfl (.cons rfl (.cons rfl .nil))
  · exact ((errors_glyphIdRange b).append (errors_originRanges s b 3)).append (.cons rfl .nil)
  · exact (errors_originRanges s b 2).append (.cons rfl (.cons rfl (.cons rfl .nil)))
  · exact errors_areaRanges s b
  · exact errors_areaRanges s b
  · exact .cons rfl .nil
  · exact .cons rfl (.cons rfl .nil)
  · exact .cons rfl .nil
  · exact .cons rfl .nil
  · exact .nil

theorem errors_gateAndRanges (s : State) (b : List Byte) : Errors (s.gateAndRanges b) := .cons rfl (errors_ranges s b)

theorem errors_busyChecks (s : State) : Errors s.busyChecks := .cons rfl (.cons rfl (.cons rfl .nil))

theorem errors_fieldRefusals (l : List (Bool × Nat)) : Errors (fieldRefusals l) := by
  intro c mem
  obtain ⟨b, -, rfl⟩ := List.mem_map.mp mem
  rfl

theorem errors_motionChecks (s : State) : Errors s.motionChecks := by
  refine .cons rfl (.cons ?_ (.cons rfl .nil))
  rw [State.haltedRefusal]
  split <;> rfl

theorem errors_motionChecksFor (s : State) : Errors s.motionChecksFor := by
  have halted : s.haltedRefusal.isError = true := by
    rw [State.haltedRefusal]
    split <;> rfl
  rw [State.motionChecksFor]
  split
  · exact (errors_motionChecks s).append (.cons rfl .nil)
  · exact (errors_motionChecks s).append (.cons rfl .nil)
  · exact .cons rfl (.cons halted .nil)
  · exact errors_motionChecks s

theorem errors_placementChecks (s : State) : Errors s.placementChecks := .cons rfl (.cons rfl .nil)

theorem errors_definedCheck (s : State) (ids : List Nat) : Errors (s.definedCheck ids) := by
  rw [State.definedCheck]
  split
  · exact .cons rfl .nil
  · exact .nil

theorem errors_placementResources (s : State) (p : Placement) : Errors (s.placementResources p) := .cons rfl (.cons rfl .nil)

theorem errors_idFields (ids : List Byte) : Errors (idFields ids) := by
  intro c mem
  obtain ⟨b, -, rfl⟩ := List.mem_map.mp mem
  rfl

theorem errors_loadChecks (s : State) (record : Nat) : Errors (s.loadChecks record) := by
  rw [State.loadChecks]
  split
  · exact .cons rfl .nil
  · exact errors_fieldRefusals _

/-! ### Commits that do not fail -/

/-- A machine with a command due, no Break pending. -/
structure State.Due (x : State) : Prop where
  phase : x.hpu.phase = .execute
  calm : x.hpu.breakPending = false
  stage : x.csq.stage = .validate ∨ x.csq.stage = .finish

theorem State.Due.notWaiting (h : x.Due) : x.csq.stage ≠ .waiting := by
  rcases h.stage with stage | stage <;> rw [stage] <;> nofun

/-- The commit ends no command with an error. -/
def Succeeds (commit : State → State) : Prop := ∀ x : State, x.Due → ¬ (commit x).Failed

/-- A commit that ends its command with an error has no effect. -/
def Harmless (commit : State → State) : Prop := ∀ x : State, x.Due → (commit x).Failed → x.Over (commit x)

theorem Succeeds.harmless (h : Succeeds commit) : Harmless commit := fun x due failed => absurd failed (h x due)

theorem succeeds_completeAfter {effect : State → State × Ending} (fine : ∀ x, (effect x).2.isError = false) :
    Succeeds (State.completeAfter effect) := by
  intro x _ failed
  exact absurd ((State.failed_finish _ _).mp failed) (by rw [fine x]; nofun)

/-- A commit that leaves the port in another phase. -/
theorem succeeds_of_phase (phase : ∀ x : State, x.hpu.phase = .execute → (commit x).hpu.phase ≠ .completion) :
    Succeeds commit := fun x due => State.not_failed_of_phase (phase x due.phase)

theorem succeeds_enterDataIn (bytes : State → List Byte) : Succeeds fun s => s.enterDataIn (bytes s) :=
  succeeds_of_phase fun _ _ => nofun

theorem harmless_finish (e : State → Ending) : Harmless fun s => s.finish (e s) := fun x _ _ => State.over_finish x _

theorem harmless_cancelNow : Harmless State.cancelNow := by
  intro x due failed
  rw [State.cancelNow] at failed ⊢
  split at failed
  · rename_i none
    rw [if_pos none]
    exact State.over_finish x _
  · exact absurd failed (succeeds_completeAfter (fun _ => rfl) x due)

/-- R48: a compaction ends with success, or goes on, with no Break pending. -/
theorem State.compactOn_succeeds (phase : x.hpu.phase = .execute) (calm : x.hpu.breakPending = false) :
    ¬ x.compactOn.Failed := by
  have atWork : ∀ y : State, y.hpu = x.hpu → ¬ y.Failed := fun y hpu =>
    State.not_failed_of_phase (by rw [hpu, phase]; nofun)
  rw [State.compactOn, calm]
  split
  · split
    · exact fun failed => absurd ((State.failed_finish x _).mp failed) nofun
    · rw [if_neg nofun]
      split
      · exact atWork _ rfl
      · exact atWork _ rfl
  · exact atWork _ rfl

theorem State.compacting_succeeds (stage : x.csq.stage = .compacting) (phase : x.hpu.phase = .execute)
    (calm : x.hpu.breakPending = false) : ¬ x.conclude.Failed := by
  intro failed
  obtain ⟨ends, -, -⟩ := State.conclude_compacting (s := x) (by rw [stage]; nofun)
  rw [State.Failed, ends] at failed
  exact State.compactOn_succeeds phase calm failed

/-- COMPACT GLYPHS ends with success or goes to work. -/
theorem succeeds_compact : Succeeds fun s => ({ s with csq := { s.csq with stage := .compacting } } : State).conclude :=
  by
  intro x due
  have succeeds : ∀ y : State, y.hpu = x.hpu → y.csq.stage = .compacting → ¬ y.conclude.Failed := fun y hpu stage =>
    State.compacting_succeeds stage (hpu ▸ due.phase) (hpu ▸ due.calm)
  apply succeeds
  · rfl
  · rfl

/-! ### The commit of a motion command -/

/-- The engine is at work beside the port, and no command has failed. -/
structure State.Fine (t : State) : Prop where
  success : ¬ t.Failed
  waiting : t.csq.stage ≠ .waiting
  compacting : t.csq.stage ≠ .compacting

theorem State.Fine.of_eq (h : u.Fine) (hpu : v.hpu = u.hpu) (csq : v.csq = u.csq) : v.Fine :=
  ⟨by rw [State.Failed, hpu]; exact h.success, by rw [csq]; exact h.waiting, by rw [csq]; exact h.compacting⟩

theorem State.Fine.finish (s : State) {e : Ending} (fine : e.isError = false) : (s.finish e).Fine :=
  ⟨fun failed => absurd ((State.failed_finish s e).mp failed) (by rw [fine]; nofun), nofun, nofun⟩

theorem State.Fine.conclude (h : u.Fine) : u.conclude.Fine := by
  obtain ⟨hpu, csq, -⟩ := State.conclude_follows h.waiting h.compacting
  exact h.of_eq hpu csq

theorem State.Due.fine (h : x.Due) : x.Fine :=
  ⟨State.not_failed_of_phase (by rw [h.phase]; nofun), h.notWaiting, by
    rcases h.stage with stage | stage <;> rw [stage] <;> nofun⟩

theorem State.accept_fine (phase : u.hpu.phase = .execute) (code : Byte) : (u.accept code).Fine := by
  simp only [State.accept]
  split
  · exact State.Fine.finish _ rfl
  · exact ⟨State.not_failed_of_phase (by simp only; rw [phase]; nofun), nofun, nofun⟩

theorem State.Fine.endMotion (h : u.Fine) : (u.endMotion .ok).Fine := by
  simp only [State.endMotion]
  (repeat' split)
  · exact h.of_eq rfl rfl
  · exact State.Fine.finish _ rfl
  · exact h.of_eq (by simp) (by simp)
  · exact h.of_eq rfl rfl

theorem State.Fine.recovered (h : u.Fine) : u.recovered.Fine := by
  rw [State.recovered_eq]
  exact State.Fine.endMotion (h.of_eq (by simp) (by simp))

theorem State.Fine.beginRecoveryFind (h : u.Fine) : u.beginRecoveryFind.Fine := by
  rw [State.beginRecoveryFind]
  split
  · exact h
  rw [State.recoveryFind]
  split
  · exact State.Fine.recovered (h.of_eq (by simp) (by simp))
  · simp only
    split
    · exact State.Fine.recovered (h.of_eq (by simp) (by simp))
    · exact h.of_eq (by simp) (by simp)

theorem State.Due.commitMotion (h : x.Due) : x.commitMotion.Fine := by
  have fine := h.fine
  rw [State.commitMotion]
  split
  · rw [State.commitFeed]
    simp only
    split
    · exact State.Fine.finish _ rfl
    · refine State.accept_fine ?_ _
      split <;> simp [h.phase]
  · rw [State.commitAdvance]
    simp only
    split
    · exact State.accept_fine (by simp [h.phase]) _
    · split
      · exact State.Fine.finish _ rfl
      · exact State.accept_fine (by simp [h.phase]) _
  · exact State.accept_fine (by simp [h.phase]) _
  · rw [State.commitPresent]
    simp only
    (repeat' split)
    · exact State.Fine.finish _ rfl
    · exact State.Fine.finish _ rfl
    · exact State.accept_fine (by simp [h.phase]) _
  · rw [State.commitRetract]
    simp only
    (repeat' split)
    · exact State.Fine.finish _ rfl
    · exact State.Fine.finish _ rfl
    · exact State.accept_fine (by simp [h.phase]) _
  · rw [State.commitResume]
    split
    · exact State.Fine.beginRecoveryFind
        (State.accept_fine (by simp [h.phase]) _)
    · exact State.Fine.finish _ rfl

/-! ### A command acts on the machine its operands leave -/

/-- The machine with no Break pending. -/
abbrev State.calmed (s : State) : State := { s with hpu := { s.hpu with breakPending := false } }

/-- A row carries out an act of the command in hand on the machine `u` that its operands leave, with a Break pending
and without. -/
structure State.Acts (s u : State) (row : Instr) (code : Byte) (checks : List (Bool × Ending))
    (commit : State → State) : Prop where
  hpu : u.hpu = s.hpu
  csq : u.csq = s.csq
  phase : s.hpu.phase = .execute
  stage : s.csq.stage = .validate ∨ s.csq.stage = .finish
  code : s.csq.block.head? = some code
  runs : exec row s = .next (u.act checks commit)
  calm : exec row s.calmed = .next (u.calmed.act checks commit)
  errors : Errors checks

theorem State.Acts.failed (a : s.Acts u row code checks commit) (harmless : Harmless commit)
    (h : exec row s = .next t) (failed : t.Failed) : u.Over t := by
  obtain rfl : u.act checks commit = t := Host.Outcome.next.inj (a.runs.symm.trans h)
  rw [State.act] at failed ⊢
  cases first : firstOf checks with
  | some e => exact State.over_finish u e
  | none =>
    simp only [first] at failed ⊢
    split
    · exact State.over_finish u _
    · rename_i calm
      rw [if_neg calm] at failed
      exact harmless u ⟨a.hpu ▸ a.phase, by simpa using calm, a.csq ▸ a.stage⟩ failed

/-- R39, R41: the record that a command leaves when a Break ends it. -/
theorem State.Acts.aborts (a : s.Acts u row code checks commit) :
    s.EntersCompletion u.abort (.error .aborted none .nothing)
      (if code = 0x12 then s.csq.sense else ⟨.aborted, code, none, .nothing⟩) := by
  have enters : u.EntersCompletion u.abort (.error .aborted none .nothing)
      (if code = 0x12 then s.csq.sense else ⟨.aborted, code, none, .nothing⟩) := by
    have block : u.csq.block.head? = some code := a.csq ▸ a.code
    split
    · rename_i sense
      rw [← a.csq]
      exact State.finish_keepsSense (sense ▸ block) _
    · rename_i sense
      have ends := State.finish_endsWith (s := u) (by rw [block]; exact fun same => sense (Option.some.inj same))
        (refusal .aborted)
      rw [State.EndsWith] at ends
      have byte : byteAt u.csq.block 0 = code := by
        rw [byteAt, List.getD_eq_getElem?_getD, ← List.head?_eq_getElem?, block]
        rfl
      exact byte ▸ ends
  rwa [State.EntersCompletion, a.hpu] at enters

/-- R10: with a Break pending the command ends at its safe point, unless it has failed before. -/
theorem State.Acts.breaks {decides : Prop} (a : s.Acts u row code checks commit) (pending : s.hpu.breakPending = true)
    (outcome : (¬ decides ∧ Succeeds commit) ∨ (decides ∧ (firstOf checks = none ↔ s.eng.cond ≠ .faulted))) :
    ∃ t, exec row s = .next t ∧ u.SameEngine t ∧
      (∀ v, exec row s.calmed = .next v → v.Failed → s.eng.cond = .faulted ∨ ¬ decides → t = v) ∧
      ((∀ v, exec row s.calmed = .next v → ¬ v.Failed) ∨ (s.eng.cond ≠ .faulted ∧ decides) →
        s.EntersCompletion t (.error .aborted none .nothing)
          (if code = 0x12 then s.csq.sense else ⟨.aborted, code, none, .nothing⟩)) := by
  have calmed : ∀ v, exec row s.calmed = .next v → v = u.calmed.act checks commit := fun v h =>
    Host.Outcome.next.inj (h.symm.trans a.calm)
  cases first : firstOf checks with
  | some e =>
    have refused : u.calmed.act checks commit = u.finish e := State.act_refuses first
    refine ⟨u.finish e, a.runs.trans (congrArg _ (State.act_refuses first)), State.finish_sameEngine u e,
      fun v h _ _ => refused.symm.trans (calmed v h).symm, ?_⟩
    rintro (none | ⟨sound, decides⟩)
    · exact absurd ((State.failed_finish u e).mpr (a.errors.firstOf first)) (refused ▸ none _ a.calm)
    · rcases outcome with ⟨not, -⟩ | ⟨-, gate⟩
      · exact absurd decides not
      · exact absurd (gate.mpr sound) (by rw [first]; nofun)
  | none =>
    have aborted : u.act checks commit = u.abort := by
      simp only [State.act, first, a.hpu, pending, if_true]
    refine ⟨u.abort, a.runs.trans (congrArg _ aborted), State.finish_sameEngine u _, ?_, fun _ => a.aborts⟩
    intro v h failed allowed
    rcases outcome with ⟨-, success⟩ | ⟨decides, gate⟩
    · rw [calmed v h, State.act_commits first rfl] at failed
      exact absurd failed (success _ ⟨(congrArg Hpu.phase a.hpu).trans a.phase, rfl, a.csq ▸ a.stage⟩)
    · exact absurd decides (allowed.resolve_left (gate.mp first))

/-- What the statement asks of a row. -/
def State.NoEffect (s u : State) (row : Instr) (code : Byte) (decides : Prop) : Prop :=
  (∀ t, s.Ready code ∨ s.ReadyAgain code → exec row s = .next t → t.Failed → u.Over t) ∧
  (s.Ready code ∨ (s.ReadyAgain code ∧ code ∈ [0x21, 0x23, 0x31, 0x43, 0x45]) → s.hpu.breakPending = true →
    ∃ t, exec row s = .next t ∧ u.SameEngine t ∧
      (∀ v, exec row s.calmed = .next v → v.Failed → s.eng.cond = .faulted ∨ ¬ decides → t = v) ∧
      ((∀ v, exec row s.calmed = .next v → ¬ v.Failed) ∨ (s.eng.cond ≠ .faulted ∧ decides) →
        s.EntersCompletion t (.error .aborted none .nothing)
          (if code = 0x12 then s.csq.sense else ⟨.aborted, code, none, .nothing⟩)))

/-- A command without a payload, which has one act. -/
theorem noEffect_single {decides : Prop} (ready : s.Ready code → s.Acts u row code checks commit)
    (again : s.ReadyAgain code → exec row s = .next s) (single : code ∉ [0x21, 0x23, 0x31, 0x43, 0x45])
    (harmless : Harmless commit)
    (outcome : s.Ready code →
      (¬ decides ∧ Succeeds commit) ∨ (decides ∧ (firstOf checks = none ↔ s.eng.cond ≠ .faulted))) :
    s.NoEffect u row code decides := by
  constructor
  · rintro t (r | r) h failed
    · exact (ready r).failed harmless h failed
    · obtain rfl : s = t := Host.Outcome.next.inj ((again r).symm.trans h)
      exact absurd failed.1 (by rw [r.2.1]; nofun)
  · rintro (r | ⟨-, payload⟩) pending
    · exact (ready r).breaks pending (outcome r)
    · exact absurd payload single

/-- A command with a payload, which has two. -/
theorem noEffect_double {decides : Prop} {again : List (Bool × Ending)} {commit' : State → State}
    (ready : s.Ready code → s.Acts u row code checks commit)
    (finish : s.ReadyAgain code → s.Acts u row code again commit')
    (first : Succeeds commit) (second : Succeeds commit') (not : ¬ decides) : s.NoEffect u row code decides := by
  constructor
  · rintro t (r | r) h failed
    · exact (ready r).failed first.harmless h failed
    · exact (finish r).failed second.harmless h failed
  · rintro (r | ⟨r, -⟩) pending
    · exact (ready r).breaks pending (.inl ⟨not, first⟩)
    · exact (finish r).breaks pending (.inl ⟨not, second⟩)

/-! ### The rows -/

theorem State.Ready.calmed (r : s.Ready code) : s.calmed.Ready code := r

/-- A row without a payload and without operands. -/
theorem acts_plain (r : s.Ready code) {checks : State → List (Bool × Ending)} {commit : State → State → State}
    (serves : ∀ x, exec row x = .next (x.served fun x => x.plain code (checks x) (commit x)))
    (calm : checks s.calmed = checks s) (calm' : commit s.calmed = commit s) (errors : Errors (checks s)) :
    s.Acts s row code (s.gateAndRanges s.csq.block ++ checks s) (commit s) := by
  refine ⟨rfl, rfl, r.2.1, .inl r.2.2.1, r.2.2.2, ?_, ?_, (errors_gateAndRanges s _).append errors⟩
  · rw [serves, State.served_inService r.1, State.plain_ready r]
  · rw [serves, State.served_inService r.calmed.1, State.plain_ready r.calmed, calm, calm']
    rfl

theorem ignored_again (r : s.ReadyAgain code) {checks : State → List (Bool × Ending)} {commit : State → State → State}
    (serves : ∀ x, exec row x = .next (x.served fun x => x.plain code (checks x) (commit x))) :
    exec row s = .next s := by
  rw [serves, State.served_inService r.1, State.plain, State.inHand_not_validate r]
  rfl

theorem noEffect_plain {decides : Prop} {checks : State → List (Bool × Ending)} {commit : State → State → State}
    (serves : ∀ x, exec row x = .next (x.served fun x => x.plain code (checks x) (commit x)))
    (single : code ∉ [0x21, 0x23, 0x31, 0x43, 0x45]) (not : ¬ decides) (errors : Errors (checks s))
    (calm : checks s.calmed = checks s) (calm' : commit s.calmed = commit s) (success : Succeeds (commit s)) :
    s.NoEffect s row code decides :=
  noEffect_single (fun r => acts_plain r serves calm calm' errors) (fun r => ignored_again r serves) single
    success.harmless fun _ => .inl ⟨not, success⟩

/-- A row of a command with a payload, without operands. -/
theorem noEffect_withPayload {decides : Prop} {checks again : State → List (Bool × Ending)} {length : State → Nat}
    {commit : State → State → State}
    (serves : ∀ x, exec row x =
      .next (x.served fun x => x.withPayload code (checks x) (length x) (again x) (commit x)))
    (not : ¬ decides) (first : Errors (checks s)) (second : Errors (again s))
    (calm : checks s.calmed = checks s ∧ length s.calmed = length s ∧ again s.calmed = again s ∧
      commit s.calmed = commit s)
    (success : Succeeds (commit s)) : s.NoEffect s row code decides := by
  obtain ⟨sameChecks, sameLength, sameAgain, sameCommit⟩ := calm
  refine noEffect_double (checks := s.gateAndRanges s.csq.block ++ checks s)
    (commit := fun t => t.enterDataOut (length s)) (again := s.csq.crcCheck :: again s) (commit' := commit s)
    (fun r => ⟨rfl, rfl, r.2.1, .inl r.2.2.1, r.2.2.2, ?_, ?_, (errors_gateAndRanges s _).append first⟩)
    (fun r => ⟨rfl, rfl, r.2.1, .inr r.2.2.1, r.2.2.2, ?_, ?_, .cons rfl second⟩)
    (succeeds_of_phase fun _ _ => nofun) success not
  · rw [serves, State.served_inService r.1, State.withPayload_ready r]
  · have r' : s.calmed.Ready code := r
    rw [serves, State.served_inService r'.1, State.withPayload_ready r', sameChecks, sameLength]
    rfl
  · rw [serves, State.served_inService r.1, State.withPayload_again r]
  · have r' : s.calmed.ReadyAgain code := r
    rw [serves, State.served_inService r'.1, State.withPayload_again r', sameAgain, sameCommit]

/-- What a motion command is checked for at once: with a free motion in progress it waits, and the rest comes later. -/
def State.motionGate (s : State) : List (Bool × Ending) :=
  s.gateAndRanges s.csq.block ++ if s.fmu.motion.isSome then [] else s.motionChecksFor

/-- What a motion command does that no check has refused: it waits, or it is carried out. -/
def State.motionAct (s x : State) : State :=
  if s.fmu.motion.isSome then { x with csq := { x.csq with stage := .waiting, waitTimer := some Config.motionWait } }
  else x.commitMotion.conclude

theorem motion_act (r : s.Ready code) : s.motion code = s.act s.motionGate s.motionAct := by
  have gate : firstOf s.motionGate = (firstOf (s.gateAndRanges s.csq.block)).or
      (firstOf (if s.fmu.motion.isSome then [] else s.motionChecksFor)) := firstOf_append _ _
  rw [State.motion, if_pos (State.inHand_validate r)]
  cases first : firstOf (s.gateAndRanges s.csq.block) with
  | some e => exact (State.act_refuses (by rw [gate, first]; rfl)).symm
  | none =>
    rw [first, Option.none_or] at gate
    cases waits : s.fmu.motion.isSome with
    | true => simp only [State.act, gate, waits, State.motionAct, if_true, firstOf_nil]
    | false => simp only [State.act, gate, waits, State.motionAct, Bool.false_eq_true, if_false]

theorem succeeds_motion (s : State) : Succeeds s.motionAct := by
  intro x due
  rw [State.motionAct]
  split
  · exact State.not_failed_of_phase (by simp only; rw [due.phase]; nofun)
  · exact due.commitMotion.conclude.success

/-- The six motion commands. -/
theorem noEffect_motion {decides : Prop} (serves : ∀ x, exec row x = .next (x.served fun x => x.motion code))
    (single : code ∉ [0x21, 0x23, 0x31, 0x43, 0x45]) (not : ¬ decides) : s.NoEffect s row code decides := by
  refine noEffect_single (checks := s.motionGate) (commit := s.motionAct)
    (fun r => ⟨rfl, rfl, r.2.1, .inl r.2.2.1, r.2.2.2, ?_, ?_, ?_⟩) (fun r => ?_) single (succeeds_motion s).harmless
    fun _ => .inl ⟨not, succeeds_motion s⟩
  · rw [serves, State.served_inService r.1, motion_act r]
  · have r' : s.calmed.Ready code := r
    rw [serves, State.served_inService r'.1, motion_act r']
    rfl
  · refine (errors_gateAndRanges s _).append ?_
    split
    · exact .nil
    · exact errors_motionChecksFor s
  · rw [serves, State.served_inService r.1, State.motion, State.inHand_not_validate r]
    rfl

/-- A row without a payload that first reads its operands. -/
theorem noEffect_reading {decides : Prop} {f : State → State} (serves : ∀ x, exec row x = .next (x.served f))
    (hpu : u.hpu = s.hpu) (csq : u.csq = s.csq)
    (runs : s.Ready code → f s = u.plain code checks commit)
    (calm : s.Ready code → f s.calmed = u.calmed.plain code checks commit) (again : s.ReadyAgain code → f s = s)
    (single : code ∉ [0x21, 0x23, 0x31, 0x43, 0x45]) (not : ¬ decides) (errors : Errors checks)
    (success : Succeeds commit) : s.NoEffect u row code decides := by
  have ready : s.Ready code → u.Ready code := fun r => by
    rw [State.Ready, State.InService, hpu, csq]
    exact r
  refine noEffect_single (checks := u.gateAndRanges u.csq.block ++ checks) (commit := commit)
    (fun r => ⟨hpu, csq, r.2.1, .inl r.2.2.1, r.2.2.2, ?_, ?_, (errors_gateAndRanges u _).append errors⟩) (fun r => ?_)
    single success.harmless fun _ => .inl ⟨not, success⟩
  · rw [serves, State.served_inService r.1, runs r, State.plain_ready (ready r)]
  · have r' : u.calmed.Ready code := ready r
    rw [serves, State.served_inService (s := s.calmed) r.1, calm r, State.plain_ready r']
    rfl
  · rw [serves, State.served_inService r.1, again r]

theorem succeeds_beginWrite (record : Nat) (bytes : State → List Byte) :
    Succeeds fun s => s.beginWrite record (bytes s) :=
  succeeds_of_phase fun x phase => by
    rw [State.beginWrite]
    simp only
    rw [phase]
    nofun

theorem succeeds_commitMechanism : Succeeds State.commitMechanism := by
  intro x due
  have fine : ((x.useMechanism (Mechanism.ofBytes x.csq.body)).beginWrite 0 x.csq.body).Fine :=
    ⟨State.not_failed_of_phase (by simp [State.beginWrite, due.phase]), by simp [State.beginWrite],
      by simp [State.beginWrite]⟩
  rw [State.commitMechanism]
  exact fine.conclude.success

/-- R13, R31: TEST READY and CANCEL LABELS are refused at first in FAULTED alone. -/
theorem gate_decides (noRanges : s.ranges s.csq.block = []) (closed : byteAt s.csq.block 0 ∉ faultGateCodes) :
    firstOf (s.gateAndRanges s.csq.block ++ []) = none ↔ s.eng.cond ≠ .faulted := by
  simp [State.gateAndRanges, State.faultGate, noRanges, closed, firstOf_cons]

/-- R24: those two outcomes are found at the commit. -/
theorem noEffect_deciding {decides : Prop} (serves : ∀ x, exec row x = .next (x.served fun x => x.plain code [] commit))
    (single : code ∉ [0x21, 0x23, 0x31, 0x43, 0x45]) (decided : decides) (closed : code ∉ faultGateCodes)
    (noRanges : byteAt s.csq.block 0 = code → s.ranges s.csq.block = []) (harmless : Harmless commit) :
    s.NoEffect s row code decides :=
  noEffect_single (fun r => acts_plain r (checks := fun _ => []) (commit := fun _ => commit) serves rfl rfl .nil)
    (fun r => ignored_again r (checks := fun _ => []) (commit := fun _ => commit) serves) single harmless
    fun r => .inr ⟨decided, gate_decides (noRanges r.code) (by rwa [r.code])⟩

/-! ### The kinds of rows -/

/-- A command that hands over bytes. -/
theorem noEffect_reads {decides : Prop} {bytes : State → List Byte}
    (serves : ∀ x, exec row x = .next (x.served fun x => x.plain code [] fun s => s.enterDataIn (bytes s)))
    (single : code ∉ [0x21, 0x23, 0x31, 0x43, 0x45]) (not : ¬ decides) : s.NoEffect s row code decides :=
  noEffect_plain (checks := fun _ => []) (commit := fun _ s => s.enterDataIn (bytes s)) serves single not .nil rfl rfl
    (succeeds_enterDataIn _)

theorem succeeds_ok (f : State → State) : Succeeds (State.completeAfter fun s => (f s, .ok)) :=
  succeeds_completeAfter fun _ => rfl

theorem succeeds_commitPlacement (p : Placement) : Succeeds (State.completeAfter fun s => s.commitPlacement p) :=
  succeeds_completeAfter fun x => by
    rw [State.commitPlacement]
    split <;> rfl

theorem succeeds_commitDelete : Succeeds (State.completeAfter State.commitDelete) :=
  succeeds_completeAfter fun x => by
    rw [State.commitDelete]
    (repeat' split) <;> rfl

theorem succeeds_commitOpen : Succeeds (State.completeAfter State.commitOpen) :=
  succeeds_completeAfter fun x => by
    rw [State.commitOpen]
    split <;> rfl

theorem succeeds_commitClose : Succeeds (State.completeAfter State.commitClose) :=
  succeeds_completeAfter fun x => by
    rw [State.commitClose]
    split <;> rfl

theorem succeeds_commitDiscard : Succeeds (State.completeAfter State.commitDiscard) :=
  succeeds_completeAfter fun x => by
    rw [State.commitDiscard]
    split <;> rfl

/-- SET MECHANISM PARAMETERS reads its operands in both of its acts. -/
theorem noEffect_setMechanism {decides : Prop} (not : ¬ decides) (strap : Bool) (decay : List Decay)
    (hu : (s.sampleStrap strap).readStore decay = u) :
    s.NoEffect u (.setMechanismParameters strap decay) 0x23 decides := by
  have hpu : u.hpu = s.hpu := hu ▸ rfl
  have csq : u.csq = s.csq := hu ▸ rfl
  have calm : (s.calmed.sampleStrap strap).readStore decay = u.calmed := hu ▸ rfl
  have same : u.InService = s.InService ∧ u.hpu.phase = s.hpu.phase := by rw [State.InService, hpu]; exact ⟨rfl, rfl⟩
  refine noEffect_double (checks := u.gateAndRanges u.csq.block ++ (u.busyChecks ++ [u.strapCheck 0]))
    (commit := fun t => t.enterDataOut 12) (again := u.csq.crcCheck :: u.mechanismPayloadChecks)
    (commit' := State.commitMechanism)
    (fun r => ⟨hpu, csq, r.2.1, .inl r.2.2.1, r.2.2.2, ?_, ?_, (errors_gateAndRanges u _).append
      ((errors_busyChecks u).append (.cons rfl .nil))⟩)
    (fun r => ⟨hpu, csq, r.2.1, .inr r.2.2.1, r.2.2.2, ?_, ?_, .cons rfl
      (((errors_fieldRefusals _).append (errors_busyChecks u)).append (.cons rfl .nil))⟩)
    (succeeds_of_phase fun _ _ => nofun) succeeds_commitMechanism not
  · have r' : u.Ready 0x23 := by rwa [State.Ready, same.1, same.2, csq]
    rw [exec_setMechanismParameters r.1, State.setMechanism, State.inHand_validate r, Bool.true_or, if_pos rfl, hu,
      State.withPayload_ready r']
  · have r' : u.calmed.Ready 0x23 := by rw [State.Ready, State.InService]; simp only; rwa [hpu, csq]
    rw [exec_setMechanismParameters (s := s.calmed) r.1, State.setMechanism, State.inHand_validate (s := s.calmed) r,
      Bool.true_or, if_pos rfl, calm, State.withPayload_ready r']
    rfl
  · have r' : u.ReadyAgain 0x23 := by rwa [State.ReadyAgain, same.1, same.2, csq]
    rw [exec_setMechanismParameters r.1, State.setMechanism, State.inHand_finish r, Bool.or_true, if_pos rfl, hu,
      State.withPayload_again r']
  · have r' : u.calmed.ReadyAgain 0x23 := by rw [State.ReadyAgain, State.InService]; simp only; rwa [hpu, csq]
    rw [exec_setMechanismParameters (s := s.calmed) r.1, State.setMechanism, State.inHand_finish (s := s.calmed) r,
      Bool.or_true, if_pos rfl, calm, State.withPayload_again r']
    rfl

theorem noEffect_storeProfile {decides : Prop} (not : ¬ decides) (strap : Bool) (decay : List Decay)
    (hu : (s.sampleStrap strap).readStore decay = u) :
    s.NoEffect u (.storeProfile strap decay) 0x24 decides := by
  have calm : (s.calmed.sampleStrap strap).readStore decay = u.calmed := hu ▸ rfl
  have csq : u.csq = s.csq := hu ▸ rfl
  refine noEffect_reading (checks := [u.strapCheck (slotRecord u.csq.block)])
    (commit := fun s => s.beginWrite (slotRecord u.csq.block) s.nvs.profile.bytes) (fun _ => rfl) (hu ▸ rfl) csq
    (fun r => ?_) (fun r => ?_) (fun r => ?_) (by decide) not (.cons rfl .nil) (succeeds_beginWrite _ _)
  · rw [State.storeProfile, if_pos (State.inHand_validate r), hu]
  · rw [State.storeProfile, if_pos (State.inHand_validate (s := s.calmed) r), calm]
    rfl
  · rw [State.storeProfile, State.inHand_not_validate r]
    rfl

theorem noEffect_loadProfile {decides : Prop} (not : ¬ decides) (decay : List Decay) (hu : s.readStore decay = u) :
    s.NoEffect u (.loadProfile decay) 0x25 decides := by
  have calm : s.calmed.readStore decay = u.calmed := hu ▸ rfl
  refine noEffect_reading (checks := u.busyChecks ++ u.loadChecks (slotRecord u.csq.block))
    (commit := State.completeAfter fun s => (s.loadProfile (slotRecord u.csq.block), .ok)) (fun _ => rfl) (hu ▸ rfl)
    (hu ▸ rfl) (fun r => ?_) (fun r => ?_) (fun r => ?_) (by decide) not
    ((errors_busyChecks u).append (errors_loadChecks u _)) (succeeds_ok _)
  · rw [State.loadSlot, if_pos (State.inHand_validate r), hu]
  · rw [State.loadSlot, if_pos (State.inHand_validate (s := s.calmed) r), calm]
    rfl
  · rw [State.loadSlot, State.inHand_not_validate r]
    rfl

theorem noEffect_verifyProfiles {decides : Prop} (not : ¬ decides) (decay : List Decay) (hu : s.readStore decay = u) :
    s.NoEffect u (.verifyProfiles decay) 0x26 decides := by
  have calm : s.calmed.readStore decay = u.calmed := hu ▸ rfl
  refine noEffect_reading (checks := []) (commit := fun s => s.enterDataIn ((List.range 5).map s.nvs.verdict))
    (fun _ => rfl) (hu ▸ rfl) (hu ▸ rfl) (fun r => ?_) (fun r => ?_) (fun r => ?_) (by decide) not .nil
    (succeeds_enterDataIn _)
  · rw [State.verifyStore, if_pos (State.inHand_validate r), hu]
  · rw [State.verifyStore, if_pos (State.inHand_validate (s := s.calmed) r), calm]
  · rw [State.verifyStore, State.inHand_not_validate r]
    rfl

theorem succeeds_ramTest : Succeeds fun s => { s with csq := { s.csq with stage := .ramTesting 0 } } :=
  succeeds_of_phase fun x phase => by
    simp only
    rw [phase]
    nofun

/-- Settles O13: each row acts once or twice on the machine that its operands leave; what refuses it, and a Break
at the safe point, change no block of the engine. -/
theorem failedCommandsHaveNoEffect : Obligations.FailedCommandsHaveNoEffect := by
  intro s strap decay row code u read rows mem failed decides
  have defined := errors_definedCheck s
  have room := errors_placementResources s
  have placing := errors_placementChecks s
  have each : ∀ e ∈ rows, s.NoEffect e.2.2 e.1 e.2.1 (e.1 = .testReady ∨ e.1 = .cancelLabels) := by
    simp only [rows, List.forall_mem_cons, List.not_mem_nil, false_imp_iff, implies_true, and_true]
    refine ⟨?_, ?_, ?_, ?_, ?_, ?_, ?_, ?_, ?_, ?_, ?_, ?_, ?_, ?_, ?_, ?_, ?_, ?_, ?_, ?_, ?_, ?_, ?_, ?_, ?_, ?_, ?_, ?_,
      ?_, ?_⟩
    · exact noEffect_deciding (fun _ => rfl) (by decide) (by simp) (by decide) (fun code => by simp [State.ranges, code])
        (harmless_finish _)
    · exact noEffect_reads (fun _ => rfl) (by decide) (by simp)
    · exact noEffect_reads (fun _ => rfl) (by decide) (by simp)
    · exact noEffect_reads (fun _ => rfl) (by decide) (by simp)
    · exact noEffect_withPayload (checks := State.busyChecks) (length := fun _ => 18) (again := State.mediaChecks)
        (commit := fun _ => State.completeAfter fun s => (s.useProfile (Profile.ofBytes s.csq.body), .ok))
        (fun _ => rfl) (by simp) (errors_busyChecks s) ((errors_fieldRefusals _).append (errors_busyChecks s))
        ⟨rfl, rfl, rfl, rfl⟩ (succeeds_ok _)
    · exact noEffect_reads (fun _ => rfl) (by decide) (by simp)
    · exact noEffect_setMechanism (by simp) strap decay rfl
    · exact noEffect_storeProfile (by simp) strap decay rfl
    · exact noEffect_loadProfile (by simp) decay rfl
    · exact noEffect_verifyProfiles (by simp) decay rfl
    · exact noEffect_withPayload (checks := fun s => s.defineChecks s.csq.block)
        (length := fun s => glyphBytes s.csq.block + 2)
        (again := fun s => s.defineChecks s.csq.block ++ s.roomChecks (glyphBytes s.csq.block))
        (commit := fun _ => State.completeAfter State.commitDefine) (fun _ => rfl) (by simp) (.cons rfl .nil)
        (.cons rfl (.cons rfl (.cons rfl .nil))) ⟨rfl, rfl, rfl, rfl⟩ (succeeds_ok _)
    · exact noEffect_plain (checks := fun s => s.deleteChecks s.csq.block)
        (commit := fun _ => State.completeAfter State.commitDelete)
        (fun _ => rfl) (by decide) (by simp) (.cons rfl .nil) rfl rfl succeeds_commitDelete
    · exact noEffect_plain (checks := fun _ => [])
        (commit := fun _ s => ({ s with csq := { s.csq with stage := .compacting } } : State).conclude)
        (fun _ => rfl) (by decide) (by simp) .nil rfl rfl succeeds_compact
    · exact noEffect_reads (bytes := fun s => s.entryBytes (glyphId s.csq.block)) (fun _ => rfl) (by decide) (by simp)
    · exact noEffect_plain (checks := State.openChecks) (commit := fun _ => State.completeAfter State.commitOpen)
        (fun _ => rfl) (by decide) (by simp) (.cons rfl (.cons rfl .nil)) rfl rfl succeeds_commitOpen
    · exact noEffect_plain (checks := fun s => s.placementChecks ++ s.definedCheck (glyphPlacement s.csq.block).uses ++
          s.placementResources (glyphPlacement s.csq.block))
        (commit := fun x => State.completeAfter fun s => s.commitPlacement (glyphPlacement x.csq.block)) (fun _ => rfl)
        (by decide) (by simp) ((placing.append (defined _)).append (room _)) rfl rfl (succeeds_commitPlacement _)
    · exact noEffect_withPayload (checks := State.placementChecks) (length := fun s => num8 s.csq.block 9 + 2)
        (again := fun s => idFields s.csq.body ++ s.placementChecks ++
          s.definedCheck (textPlacement s.csq.block s.csq.body).uses ++
          s.placementResources (textPlacement s.csq.block s.csq.body))
        (commit := fun x => State.completeAfter fun s => s.commitPlacement (textPlacement x.csq.block x.csq.body))
        (fun _ => rfl) (by simp) placing
        ((((errors_idFields _).append placing).append (defined _)).append (room _)) ⟨rfl, rfl, rfl, rfl⟩
        (succeeds_commitPlacement _)
    · exact noEffect_plain (checks := fun s => s.placementChecks ++ s.placementResources (rulePlacement s.csq.block))
        (commit := fun x => State.completeAfter fun s => s.commitPlacement (rulePlacement x.csq.block)) (fun _ => rfl)
        (by decide) (by simp) (placing.append (room _)) rfl rfl (succeeds_commitPlacement _)
    · exact noEffect_withPayload (checks := State.placementChecks)
        (length := fun s => bitmapBytes (num16 s.csq.block 6) (num16 s.csq.block 8) + 2)
        (again := fun s => s.placementChecks ++ s.placementResources (imagePlacement s.csq.block s.csq.body))
        (commit := fun x => State.completeAfter fun s => s.commitPlacement (imagePlacement x.csq.block x.csq.body))
        (fun _ => rfl) (by simp) placing (placing.append (room _)) ⟨rfl, rfl, rfl, rfl⟩ (succeeds_commitPlacement _)
    · exact noEffect_plain (checks := State.openNeeded) (commit := fun _ => State.completeAfter State.commitClose)
        (fun _ => rfl) (by decide) (by simp) (.cons rfl .nil) rfl rfl succeeds_commitClose
    · exact noEffect_plain (checks := State.openNeeded) (commit := fun _ => State.completeAfter State.commitDiscard)
        (fun _ => rfl) (by decide) (by simp) (.cons rfl .nil) rfl rfl succeeds_commitDiscard
    · exact noEffect_deciding (fun _ => rfl) (by decide) (by simp) (by decide) (fun code => by simp [State.ranges, code])
        harmless_cancelNow
    · exact noEffect_plain (checks := fun _ => []) (commit := fun _ => State.completeAfter fun s =>
          ({ s with lbq := { s.lbq with gate := num8 s.csq.block 2 == 1 } }, .ok))
        (fun _ => rfl) (by decide) (by simp) .nil rfl rfl (succeeds_ok _)
    · exact noEffect_motion (fun _ => rfl) (by decide) (by simp)
    · exact noEffect_motion (fun _ => rfl) (by decide) (by simp)
    · exact noEffect_motion (fun _ => rfl) (by decide) (by simp)
    · exact noEffect_motion (fun _ => rfl) (by decide) (by simp)
    · exact noEffect_motion (fun _ => rfl) (by decide) (by simp)
    · exact noEffect_motion (fun _ => rfl) (by decide) (by simp)
    · exact noEffect_plain (checks := State.ramTestChecks)
        (commit := fun _ s => { s with csq := { s.csq with stage := .ramTesting 0 } }) (fun _ => rfl) (by decide)
        (by simp) (.cons rfl (.cons rfl .nil)) rfl rfl succeeds_ramTest
  exact each (row, code, u) mem

end Sys2Proof.Machine

end

section
/-! The port reset (R19, R58, R164, Table 11-1). -/

namespace Sys2Proof.Machine

variable {s t u : State}

/-! ### The inputs and the events of a reset -/

/-- R126: the class of a reset's sample. -/
def resetClass (p : Profile) (level : Byte) : Class :=
  if level.toNat < p.marker then .media else if level.toNat < p.empty then .marker else .empty

/-- R108: the thermal state of a reset's sample. -/
def resetThermal (n : Nvs) (degrees : Int) : Thermal :=
  if (n.mech.critical : Int) ≤ degrees then .critical else if (n.profile.hot : Int) ≤ degrees then .hot else .normal

theorem nextThermal_normal (hot critical : Nat) (t : Int) : nextThermal hot critical t .normal =
    if (critical : Int) ≤ t then .critical else if (hot : Int) ≤ t then .hot else .normal := by
  simp only [nextThermal, ite_self]

/-- R126, R106, R140: what a reset reads, on the blocks that it has cleared. -/
theorem State.readInputs_is (hdu : t.hdu = State.reset.hdu) (msu : t.msu = State.reset.msu) (i : Inputs) :
    t.readInputs i = { t with
      hdu := { State.reset.hdu with
        temp := max (-40) (min 125 i.degrees), thermal := resetThermal t.nvs (max (-40) (min 125 i.degrees)) }
      msu := { State.reset.msu with
        raw := i.level, cls := resetClass t.nvs.profile i.level
        absent := decide (resetClass t.nvs.profile i.level = .empty) }
      eng := { t.eng with headOpen := i.headOpen } } := by
  have cls : t.classOf i.level = resetClass t.nvs.profile i.level := by
    rw [State.classOf, State.markerThreshold, msu]
    rfl
  have thermal : nextThermal t.nvs.profile.hot t.nvs.mech.critical (clampDegrees i.degrees) State.reset.hdu.thermal =
      resetThermal t.nvs (max (-40) (min 125 i.degrees)) := nextThermal_normal _ _ _
  have empty (c : Class) : (c == .empty) = decide (c = .empty) := by cases c <;> rfl
  simp only [State.readInputs, State.resetSample, State.sampleHead, cls, hdu, thermal, msu, empty]
  rfl

/-- R152: events that are posted one after another; those that find the queue full are dropped and counted. -/
theorem State.postAll_is (l : List Event) : ∀ {s : State}, s.eng.events.length ≤ 16 → s.eng.overflow ≤ 65535 →
    s.postAll l = { s with eng := { s.eng with
      events := (s.eng.events ++ l).take 16
      overflow := min 65535 (s.eng.overflow + (s.eng.events.length + l.length - 16)) } } := by
  induction l with
  | nil =>
    intro s bounded few
    have whole : (s.eng.events ++ []).take 16 = s.eng.events := by rw [List.append_nil, List.take_of_length_le bounded]
    have none : min 65535 (s.eng.overflow + (s.eng.events.length + 0 - 16)) = s.eng.overflow := by omega
    simp only [whole, List.length_nil, none]
    rfl
  | cons e l ih =>
    intro s bounded few
    change (s.post e).postAll l = _
    by_cases room : s.eng.events.length < 16
    · have post : s.post e = { s with eng := { s.eng with events := s.eng.events ++ [e] } } := if_pos room
      have count : s.eng.events.length + (([] : List Event).length + 1) + l.length = s.eng.events.length + (l.length + 1) := by
        rw [List.length_nil]
        omega
      refine (ih (s := s.post e) (by rw [post]; simpa using room) (by rw [post]; exact few)).trans ?_
      rw [post]
      simp only [List.append_assoc, List.singleton_append, List.length_append, List.length_cons, count]
    · have post : s.post e = { s with eng := { s.eng with overflow := min 65535 (s.eng.overflow + 1) } } := if_neg room
      have full : ∀ k : List Event, (s.eng.events ++ k).take 16 = s.eng.events := fun k => by
        rw [List.take_append_of_le_length (by omega), List.take_of_length_le bounded]
      have count : min 65535 (min 65535 (s.eng.overflow + 1) + (s.eng.events.length + l.length - 16)) =
          min 65535 (s.eng.overflow + (s.eng.events.length + (l.length + 1) - 16)) := by omega
      refine (ih (s := s.post e) (by rw [post]; exact bounded) (by rw [post]; exact Nat.min_le_left _ _)).trans ?_
      rw [post]
      simp only [full, List.length_cons, count]

/-- R164: the events that a reset posts. -/
def resetEvents (kind : Byte) (own : List Event) (headOpen : Bool) (thermal : Thermal) (degrees : Int) : List Event :=
  [⟨.reset, kind, 0xFFFF, 0⟩] ++ own ++ (if headOpen then [⟨.headOpened, 0, 0xFFFF, 0⟩] else []) ++
    (if thermal = .critical then [⟨.headCritical, 0, 0xFFFF, BitVec.ofInt 16 degrees⟩] else [])

theorem length_resetEvents (kind : Byte) (own : List Event) (headOpen : Bool) (thermal : Thermal) (degrees : Int) :
    (resetEvents kind own headOpen thermal degrees).length ≤ own.length + 3 := by
  rw [resetEvents]
  split <;> split <;> simp

theorem State.reportReset_is (kind : Byte) (own : List Event) (empty : s.eng.events = []) (none : s.eng.overflow = 0)
    (few : own.length ≤ 64) : s.reportReset kind own = { s with eng := { s.eng with
      events := (resetEvents kind own s.eng.headOpen s.hdu.thermal s.hdu.temp).take 16
      overflow := (resetEvents kind own s.eng.headOpen s.hdu.thermal s.hdu.temp).length - 16 } } := by
  have posted : s.reportReset kind own =
      s.postAll (resetEvents kind own s.eng.headOpen s.hdu.thermal s.hdu.temp) := by
    have critical : s.hdu.thermal.crit = true ↔ s.hdu.thermal = .critical := by cases s.hdu.thermal <;> simp [Thermal.crit]
    simp only [State.reportReset, resetEvents, critical]
    rfl
  have bound := length_resetEvents kind own s.eng.headOpen s.hdu.thermal s.hdu.temp
  rw [posted, State.postAll_is _ (by rw [empty]; exact Nat.zero_le _) (by rw [none]; exact Nat.zero_le _)]
  have count : min 65535 (0 + (0 + (resetEvents kind own s.eng.headOpen s.hdu.thermal s.hdu.temp).length - 16)) =
      (resetEvents kind own s.eng.headOpen s.hdu.thermal s.hdu.temp).length - 16 := by omega
  simp only [empty, none, List.nil_append, List.length_nil, count]

/-! ### What a reset deals with first -/

/-- R160: the copy of a write in hand is torn. -/
theorem State.tearWrite_none (s : State) (torn : List Byte) (h : ∀ w, s.csq.stage ≠ .writing w) :
    s.tearWrite torn = s := by
  rw [State.tearWrite]
  split
  · rename_i w stage
    exact absurd stage (h w)
  · rfl

theorem State.tearWrite_some (s : State) (torn : List Byte) {w : RecordWrite} (h : s.csq.stage = .writing w) :
    ∃ left : List Byte, left.length = (if w.record = 0 then 14 else 20) ∧
      (⟨left⟩ : StoredCopy).valid w.record = false ∧
      s.tearWrite torn = { s with nvs := s.nvs.writeCopy w left } := by
  refine ⟨tornBytes w.record torn, ?_, torn_invalid _ _, ?_⟩
  · rw [tornBytes_length, copyLength, recordLength]
    split <;> rfl
  · rw [State.tearWrite, h]

/-- The render looks at no record of the store. -/
theorem State.tearWrite_renderBand (s : State) (torn : List Byte) :
    (s.tearWrite torn).renderBand.ram = s.renderBand.ram ∧ (s.tearWrite torn).renderBand.ring = s.renderBand.ring := by
  have any (n : Nvs) : ({ s with nvs := n } : State).renderBand.ram = s.renderBand.ram ∧
      ({ s with nvs := n } : State).renderBand.ring = s.renderBand.ring := by
    simp only [State.renderBand]
    cases s.ring.composing with
    | none => exact ⟨rfl, rfl⟩
    | some i =>
      simp only
      cases s.lbq.label (s.ring.band i).slot with
      | none => exact ⟨rfl, rfl⟩
      | some l => exact ⟨rfl, rfl⟩
  rw [State.tearWrite]
  split
  · exact any _
  · exact ⟨rfl, rfl⟩

theorem State.tearWrite_inForce (s : State) (torn : List Byte) :
    (∀ level, resetClass (s.tearWrite torn).nvs.profile level = resetClass s.nvs.profile level) ∧
    (∀ d, resetThermal (s.tearWrite torn).nvs d = resetThermal s.nvs d) := by
  simp [resetThermal]

theorem State.renderBand_tail (s : State) : s.renderBand.ring.tail = s.ring.tail := by
  simp only [State.renderBand]
  (repeat' split) <;> rfl

/-- R32: no move in hand. -/
theorem State.finishMove_none (h : s.gst.moving = none ∨ s.gst.cursor = none) : s.finishMove = s := by
  rw [State.finishMove]
  split
  · rename_i cursor moving
    rcases h with h | h
    · exact absurd (moving.symm.trans h) nofun
    · exact absurd (cursor.symm.trans h) nofun
  · rfl

theorem State.finishMove_some {cursor id : Nat} (h : s.gst.cursor = some cursor) (m : s.gst.moving = some id) :
    s.finishMove = s.moveGlyph cursor id := by
  rw [State.finishMove, h, m]

/-- R32: the move in hand is finished on the memory that the render leaves. -/
theorem State.dealFirst_still (torn : List Byte) (h : s.gst.moving = none ∨ s.gst.cursor = none) :
    (s.dealFirst torn).gst = s.gst ∧ (s.dealFirst torn).ram = s.renderBand.ram := by
  have gst : (s.tearWrite torn).renderBand.gst = s.gst := by simp
  rw [State.dealFirst, State.finishMove_none (by rwa [gst])]
  exact ⟨gst, (s.tearWrite_renderBand torn).1⟩

theorem State.dealFirst_moves (torn : List Byte) {cursor id : Nat} (h : s.gst.cursor = some cursor)
    (m : s.gst.moving = some id) :
    (s.dealFirst torn).gst = ⟨s.gst.entries.set id { s.gst.entry id with base := cursor },
      freeCarve cursor (((s.gst.entry id).size + 7) / 8)
        (freeInsert (s.gst.entry id).base (((s.gst.entry id).size + 7) / 8) s.gst.free), none, none⟩ ∧
    (s.dealFirst torn).ram = s.renderBand.ram.writeBlock (26624 + 8 * cursor)
      (s.renderBand.ram.readBlock (26624 + 8 * (s.gst.entry id).base) (8 * (((s.gst.entry id).size + 7) / 8))) := by
  have gst : (s.tearWrite torn).renderBand.gst = s.gst := by simp
  rw [State.dealFirst, State.finishMove_some (by rw [gst]; exact h) (by rw [gst]; exact m), State.moveGlyph_eq]
  simp only [gst, (s.tearWrite_renderBand torn).1]
  exact ⟨trivial, trivial⟩

theorem State.dealFirst_tail (s : State) (torn : List Byte) : (s.dealFirst torn).ring.tail = s.ring.tail := by
  rw [State.dealFirst, (State.finishMove_keeps _).2.2.2.1, State.renderBand_tail]
  simp

/-! ### The glyphs that a port reset releases -/

/-- R58: entries released one after another. -/
theorem Gst.releases (l : List Nat) : ∀ {g : Gst}, (∀ id ∈ l, id < g.entries.length) → l.Nodup →
    (∀ id, (l.foldl Gst.release g).entry id = if id ∈ l then .blank else g.entry id) ∧
    (l.foldl Gst.release g).entries.length = g.entries.length ∧
    (l.foldl Gst.release g).free =
      l.foldl (fun free id => freeInsert (g.entry id).base (granules (g.entry id).size) free) g.free := by
  induction l with
  | nil => exact fun _ _ => ⟨fun _ => rfl, rfl, rfl⟩
  | cons a l ih =>
    intro g inside distinct
    obtain ⟨new, rest⟩ := List.nodup_cons.mp distinct
    have entry (i : Nat) : (g.release a).entry i = if i = a then .blank else g.entry i := by
      rw [Gst.release_eq]
      exact Gst.entry_set (inside a List.mem_cons_self)
    have length : (g.release a).entries.length = g.entries.length := by
      rw [Gst.release_eq]
      exact List.length_set
    obtain ⟨entries, size, free⟩ :=
      ih (g := g.release a) (fun id mem => length ▸ inside id (List.mem_cons_of_mem a mem)) rest
    refine ⟨fun id => ?_, size.trans length, free.trans ?_⟩
    · rw [List.foldl_cons, entries, entry]
      by_cases same : id = a
      · simp [same]
      · simp [same]
    · rw [List.foldl_cons, show (g.release a).free = freeInsert (g.entry a).base (granules (g.entry a).size) g.free by
        rw [Gst.release_eq]]
      refine List.foldl_ext _ _ _ fun free id mem => ?_
      rw [entry, if_neg]
      rintro rfl
      exact new mem

theorem Gst.mem_doomedIds {g : Gst} {id : Nat} (h : id < 64) : id ∈ g.doomedIds ↔ (g.entry id).state = .doomed := by
  simp [Gst.doomedIds, h]

/-- R58: what a port reset makes of the glyph store. -/
theorem Gst.portReset_is {g : Gst} (size : g.entries.length = 64) :
    (∀ id < 64, g.portReset.entry id = if (g.entry id).state = .doomed then ⟨.empty, 0, 0, 0, 0, 0⟩
      else { g.entry id with count := 0 }) ∧
    g.portReset.free =
      g.doomedIds.foldl (fun l id => freeInsert (g.entry id).base (((g.entry id).size + 7) / 8) l) g.free ∧
    g.portReset.moving = none ∧ g.portReset.cursor = none := by
  have inside : ∀ id ∈ g.doomedIds, id < g.entries.length := fun id mem => by
    rw [size]
    simpa using (List.mem_filter.mp mem).1
  obtain ⟨entries, length, free⟩ := Gst.releases g.doomedIds inside (List.nodup_range.filter _)
  refine ⟨fun id inRange => ?_, free, rfl, rfl⟩
  have cleared : g.portReset.entry id = { (g.doomedIds.foldl Gst.release g).entry id with count := 0 } := by
    simp only [Gst.portReset, Gst.entry, List.getD_eq_getElem?_getD, List.getElem?_map]
    rw [List.getElem?_eq_getElem (by rw [length, size]; exact inRange)]
    rfl
  rw [cleared, entries, if_congr (Gst.mem_doomedIds inRange) rfl rfl]
  split <;> rfl

/-- R32: a glyph keeps its state and its size in a move. -/
theorem Gst.doomedIds_moved {g : Gst} {id base : Nat} {free : List Extent} {c m : Option Nat} :
    (⟨g.entries.set id { g.entry id with base := base }, free, c, m⟩ : Gst).doomedIds = g.doomedIds := by
  refine List.filter_congr fun other _ => ?_
  by_cases h : id < g.entries.length
  · rw [Gst.entry_set h]
    split
    · rename_i same
      rw [same]
    · rfl
  · rw [List.set_eq_of_length_le (by omega)]
    rfl

/-! ### The machine after a reset -/

/-- Table 11-1: the machine with its blocks cleared and its inputs not yet read. -/
def State.wiped (s : State) (sense : Sense) (cond : Condition) : State :=
  { s with
    hpu := State.reset.hpu, csq := { State.reset.csq with sense := sense }, lbq := State.reset.lbq
    hdu := State.reset.hdu, fmu := State.reset.fmu, msu := State.reset.msu
    eng := { State.reset.eng with cond := cond, events := [] } }

/-- R164: the machine with its inputs read and its events posted. -/
def State.afterReset (s : State) (sense : Sense) (cond : Condition) (i : Inputs) (kind : Byte) (own : List Event) :
    State :=
  let d := max (-40) (min 125 i.degrees)
  let posted := resetEvents kind own i.headOpen (resetThermal s.nvs d) d
  { s with
    hpu := State.reset.hpu, csq := { State.reset.csq with sense := sense }, lbq := State.reset.lbq
    hdu := { State.reset.hdu with temp := d, thermal := resetThermal s.nvs d }
    fmu := State.reset.fmu
    msu := { State.reset.msu with
      raw := i.level, cls := resetClass s.nvs.profile i.level
      absent := decide (resetClass s.nvs.profile i.level = .empty) }
    eng := { State.reset.eng with
      cond := cond, headOpen := i.headOpen, events := posted.take 16, overflow := posted.length - 16 } }

theorem State.wiped_reports (s : State) (sense : Sense) (cond : Condition) (i : Inputs) (kind : Byte) {own : List Event}
    (few : own.length ≤ 64) :
    ((s.wiped sense cond).readInputs i).reportReset kind own = s.afterReset sense cond i kind own := by
  rw [State.readInputs_is (t := s.wiped sense cond) rfl rfl, State.reportReset_is kind own rfl rfl few]
  rfl

/-! ### The port reset -/

theorem State.portReset_is (s : State) (i : Inputs) : s.portReset i =
    ({ s with
      gst := (s.dealFirst i.torn).gst.portReset, nvs := (s.tearWrite i.torn).nvs, ram := (s.dealFirst i.torn).ram
      ring := ⟨List.replicate 16 .blank, s.ring.tail, s.ring.tail, none⟩ } : State).afterReset
      ⟨.resetOccurred, 0, none, .detail 3⟩ (if s.eng.cond = .faulted then .faulted else .idle) i 3
      ((s.dealFirst i.torn).gst.doomedIds.map releasedAtReset) := by
  have few : ((s.dealFirst i.torn).gst.doomedIds.map releasedAtReset).length ≤ 64 := by
    rw [List.length_map]
    exact (List.length_filter_le _ _).trans (by simp)
  have cond : (s.dealFirst i.torn).eng.cond.afterPortReset = if s.eng.cond = .faulted then .faulted else .idle := by
    rw [(State.dealFirst_keeps s i.torn).2.2.2.2.2.2.1]
    cases s.eng.cond <;> rfl
  obtain ⟨-, -, -, -, -, -, -, nvs, strap, pending⟩ := State.dealFirst_keeps s i.torn
  rw [← State.wiped_reports _ _ _ _ _ few, ← cond, ← s.dealFirst_tail i.torn, State.wiped, ← nvs, ← strap, ← pending]
  rfl

/-- Settles O53: what a port reset deals with first, what it clears and what stays. -/
theorem portResetClearsTheEngine : Obligations.PortResetClearsTheEngine := by
  refine ⟨?_, fun s value i out => ?_⟩
  · intro s value i inService size d p cls thermal doomed extent posted
    have runs : exec (.portReset value i) s = .next (s.portReset i) :=
      congrArg Host.Outcome.next (State.served_inService inService _)
    have whole := State.portReset_is s i
    have nvs : (s.portReset i).nvs = (s.tearWrite i.torn).nvs := by rw [whole]; rfl
    have gst : (s.portReset i).gst = (s.dealFirst i.torn).gst.portReset := by rw [whole]; rfl
    have ram : (s.portReset i).ram = (s.dealFirst i.torn).ram := by rw [whole]; rfl
    have doomedIds : (s.dealFirst i.torn).gst.doomedIds = doomed := by
      cases cursor : s.gst.cursor with
      | none => rw [(s.dealFirst_still i.torn (.inr cursor)).1]; rfl
      | some c =>
        cases moving : s.gst.moving with
        | none => rw [(s.dealFirst_still i.torn (.inl moving)).1]; rfl
        | some id =>
          rw [(s.dealFirst_moves i.torn cursor moving).1]
          exact Gst.doomedIds_moved
    refine ⟨s.portReset i, runs, ?_, ?_, ?_, ?_, ?_, ?_, ?_⟩
    · rw [gst, nvs, ram]
      refine whole.trans ?_
      obtain ⟨sameClass, sameThermal⟩ := s.tearWrite_inForce i.torn
      simp only [State.afterReset, doomedIds, sameClass, sameThermal]
      rfl
    · rw [gst]
      rfl
    · rw [gst]
      rfl
    · intro still
      obtain ⟨same, bytes⟩ := s.dealFirst_still i.torn still
      obtain ⟨entries, free, -⟩ := Gst.portReset_is size
      rw [gst, ram, same, bytes]
      refine ⟨entries, free, rfl, fun none => ?_⟩
      rw [State.renderBand, none]
    · intro cursor id at_ moving inside
      obtain ⟨same, bytes⟩ := s.dealFirst_moves i.torn at_ moving
      have inList : id < s.gst.entries.length := size ▸ inside
      have entry (other : Nat) : (s.dealFirst i.torn).gst.entry other =
          { s.gst.entry other with base := if other = id then cursor else (s.gst.entry other).base } := by
        rw [same, Gst.entry_set inList]
        split
        · rename_i is
          rw [is]
        · rfl
      obtain ⟨entries, free, -⟩ := Gst.portReset_is (g := (s.dealFirst i.torn).gst) (by rw [same]; simpa using size)
      rw [gst, ram]
      refine ⟨fun other h => ?_, bytes, ?_⟩
      · rw [entries other h, entry]
      · rw [free, doomedIds]
        simp only [entry]
        rw [same]
    · intro none
      rw [nvs, s.tearWrite_none _ none]
    · intro w writing
      obtain ⟨left, length, invalid, is⟩ := s.tearWrite_some i.torn writing
      exact ⟨left, length, invalid, by rw [nvs, is]⟩
  · rw [exec_outOfService (i := .portReset value i) out nofun nofun nofun]
    rfl

end Sys2Proof.Machine

end

section
/-! The power-on and pin resets, and the part out of service (R20, R32, R163 to R165). -/

namespace Sys2Proof.Machine

variable {s t u : State}

/-! ### The RAM test -/

theorem passFailsAt_iff (l : List Misread) (pass a : Nat) :
    passFailsAt l pass a = false ↔ passReadBack l pass a = passPattern pass a := by
  rw [passFailsAt, bne_eq_false_iff_eq]

theorem passFailure_none {l : List Misread} {pass : Nat}
    (sound : ∀ a < 51200, passReadBack l pass a = passPattern pass a) : passFailure l pass = none := by
  rw [passFailure_eq, List.find?_eq_none]
  intro a mem
  rw [(passFailsAt_iff l pass a).mpr (sound a (List.mem_range.mp mem))]
  nofun

theorem passFailure_first {l : List Misread} {pass offset : Nat} (inside : offset < 51200)
    (fails : passReadBack l pass offset ≠ passPattern pass offset)
    (before : ∀ a < offset, passReadBack l pass a = passPattern pass a) : passFailure l pass = some offset := by
  rw [passFailure_eq, List.find?_range_eq_some]
  refine ⟨?_, List.mem_range.mpr inside, fun a less => ?_⟩
  · rw [← Bool.not_eq_false, passFailsAt_iff]
    exact fails
  · rw [(passFailsAt_iff l pass a).mpr (before a less)]
    rfl

/-- R165 step 1: the test stops in the first pass that fails. -/
theorem testPasses_stops {l : List Misread} {pass offset : Nat} (fails : passFailure l pass = some offset) :
    ∀ {before : List Nat} {after : List Nat}, (∀ q ∈ before, passFailure l q = none) →
      testPasses l (before ++ pass :: after) = .failed pass offset
  | [], _, _ => by rw [List.nil_append, testPasses, fails]
  | q :: before, _, sound => by
    rw [List.cons_append, testPasses, sound q List.mem_cons_self]
    exact testPasses_stops fails fun r mem => sound r (List.mem_cons_of_mem q mem)

theorem ramOutcome_failed {l : List Misread} {pass offset : Nat} (inPasses : pass < 4) (inside : offset < 51200)
    (fails : passReadBack l pass offset ≠ passPattern pass offset)
    (before : ∀ a < offset, passReadBack l pass a = passPattern pass a)
    (earlier : ∀ q < pass, ∀ a < 51200, passReadBack l q a = passPattern q a) :
    ramOutcome l = .failed pass offset := by
  have stops := passFailure_first inside fails before
  have sound (q : Nat) (less : q < pass) : passFailure l q = none := passFailure_none (earlier q less)
  have split : [0, 1, 2, 3] = List.range pass ++ pass :: (List.range (3 - pass)).map (pass + 1 + ·) := by
    interval_cases pass <;> rfl
  rw [ramOutcome, split]
  exact testPasses_stops stops fun q mem => sound q (List.mem_range.mp mem)

/-- R165, log 9: what the memories hold after a failed test. -/
theorem memoryAfterTest_failed (l : List Misread) (pass offset : Nat) {a : Nat} (inside : a < 51200) :
    (memoryAfterTest l (.failed pass offset)).read a = passReadBack l pass a := by
  have length : ((List.range 51200).map (passReadBack l pass)).length = 51200 := by simp
  change Memory.read (Memory.writeBlock _ 0 ((List.range 51200).map (passReadBack l pass))) a = _
  rw [Memory.read_writeBlock, if_pos ⟨Nat.zero_le a, by omega⟩, Nat.sub_zero, List.getD_eq_getElem?_getD,
    List.getElem?_map, List.getElem?_range inside]
  rfl

/-- R165: a byte that no misread names reads back as written. -/
theorem passReadBack_sound {l : List Misread} {pass a : Nat} (none : ∀ m ∈ l, m.pass = pass → m.offset ≠ a) :
    passReadBack l pass a = passPattern pass a := by
  have found : (l.find? fun m => m.pass == pass && m.offset == a) = Option.none := by
    rw [List.find?_eq_none]
    intro m mem
    simpa using none m mem
  rw [passReadBack, found]
  exact BitVec.xor_zero

/-- R165: the first misread that names the byte decides. -/
theorem passReadBack_misread (before : List Misread) (m : Misread) (after : List Misread)
    (first : ∀ k ∈ before, k.pass = m.pass → k.offset ≠ m.offset) :
    passReadBack (before ++ m :: after) m.pass m.offset = passPattern m.pass m.offset ^^^ m.bits := by
  have skipped : (before.find? fun k => k.pass == m.pass && k.offset == m.offset) = none := by
    rw [List.find?_eq_none]
    intro k mem
    simpa using first k mem
  have found : ((before ++ m :: after).find? fun k => k.pass == m.pass && k.offset == m.offset) = some m := by
    rw [List.find?_append, skipped, Option.none_or, List.find?_cons_of_pos (by simp)]
  rw [passReadBack, found]
  rfl

/-! ### The records at power-up -/

/-- R163 step 1: the mechanism record at power-up, with the event of its default. -/
def Nvs.mechAtPowerUp (n : Nvs) : Mechanism × List Event :=
  match n.load 0 with
  | some b => (Mechanism.ofBytes (copyRecord 0 b), [])
  | none => (Mechanism.default, [defaulted 0])

/-- R163 step 3: the profile at power-up under this mechanism record, with the event of its default. -/
def Nvs.profileAtPowerUp (n : Nvs) (m : Mechanism) : Profile × List Event :=
  match n.load (m.powerSlot + 1) with
  | some b =>
    let p := Profile.ofBytes (copyRecord (m.powerSlot + 1) b)
    if passes (profileAgreement p m) then (p, []) else (adjustedDefault m, [defaulted (m.powerSlot + 1)])
  | none => (adjustedDefault m, [defaulted (m.powerSlot + 1)])

theorem Nvs.powerUp_eq (n : Nvs) : n.powerUp =
    ({ n with profile := (n.profileAtPowerUp n.mechAtPowerUp.1).1, mech := n.mechAtPowerUp.1 },
      n.mechAtPowerUp.2 ++ (n.profileAtPowerUp n.mechAtPowerUp.1).2) := rfl

theorem Nvs.profileAtPowerUp_loads {n : Nvs} {m : Mechanism} {b : List Byte} (load : n.load (m.powerSlot + 1) = some b)
    (agrees : Agrees (Profile.ofBytes (copyRecord (m.powerSlot + 1) b)) m) :
    n.profileAtPowerUp m = (Profile.ofBytes (copyRecord (m.powerSlot + 1) b), []) := by
  simp only [Nvs.profileAtPowerUp, load, (passes_profileAgreement _ _).mpr agrees, if_true]

theorem Nvs.profileAtPowerUp_default {n : Nvs} {m : Mechanism}
    (none : ∀ b, n.load (m.powerSlot + 1) = some b → ¬ Agrees (Profile.ofBytes (copyRecord (m.powerSlot + 1) b)) m) :
    n.profileAtPowerUp m = (adjustedDefault m, [defaulted (m.powerSlot + 1)]) := by
  rw [Nvs.profileAtPowerUp]
  cases load : n.load (m.powerSlot + 1) with
  | none => rfl
  | some b => exact if_neg fun pass => none b load ((passes_profileAgreement _ _).mp pass)

theorem adjustedDefault_eq (m : Mechanism) : adjustedDefault m =
    ⟨.gap, 128, 224, 800, 24, 800, 8, 15, if 65 ≤ m.critical then 60 else m.critical - 5,
      if 12 ≤ m.sensorOffset / 2 then 12 else m.sensorOffset / 2, false, false, false, 0⟩ := by
  have hot : min 60 (m.critical - 5) = if 65 ≤ m.critical then 60 else m.critical - 5 := by split <;> omega
  have tolerance : min 12 (m.sensorOffset / 2) = if 12 ≤ m.sensorOffset / 2 then 12 else m.sensorOffset / 2 := by
    split <;> omega
  rw [← hot, ← tolerance]
  rfl

/-- R163: each record at most posts its default. -/
theorem Nvs.length_powerUp (n : Nvs) : n.powerUp.2.length ≤ 2 := by
  have mech : n.mechAtPowerUp.2.length ≤ 1 := by
    rw [Nvs.mechAtPowerUp]
    split <;> simp
  have profile (m : Mechanism) : (n.profileAtPowerUp m).2.length ≤ 1 := by
    rw [Nvs.profileAtPowerUp]
    split
    · simp only
      split <;> simp
    · simp
  rw [Nvs.powerUp_eq, List.length_append]
  have := profile n.mechAtPowerUp.1
  omega

/-! ### The reset -/

/-- R163 to R165: the whole machine after a power-up sequence. -/
theorem State.powerUp_is (s : State) (kind : Nat) (p : PowerUp) {outcome : RamOutcome} {n : Nvs} {own : List Event}
    (test : ramOutcome p.misreads = outcome)
    (records : ((s.tearWrite p.inputs.torn).nvs.decayed p.decay).afterTest outcome = (n, own)) (few : own.length ≤ 2) :
    s.powerUp kind p =
      ({ s with
        gst := State.reset.gst, ring := State.reset.ring, nvs := n, ram := memoryAfterTest p.misreads outcome
        strap := p.strap } : State).afterReset
        (senseAfterTest kind outcome) (conditionAfterTest outcome) p.inputs (BitVec.ofNat 8 kind) own := by
  rw [← State.wiped_reports _ _ _ _ _ (by omega), State.powerUp, test, records]
  rfl

/-- R152: the records of a power-up all find room. -/
theorem State.afterReset_roomy (s : State) (sense : Sense) (cond : Condition) (i : Inputs) (kind : Byte)
    {own : List Event} (few : own.length ≤ 2) :
    let d := max (-40) (min 125 i.degrees)
    s.afterReset sense cond i kind own = { s with
      hpu := State.reset.hpu, csq := { State.reset.csq with sense := sense }, lbq := State.reset.lbq
      hdu := { State.reset.hdu with temp := d, thermal := resetThermal s.nvs d }
      fmu := State.reset.fmu
      msu := { State.reset.msu with
        raw := i.level, cls := resetClass s.nvs.profile i.level
        absent := decide (resetClass s.nvs.profile i.level = .empty) }
      eng := { State.reset.eng with
        cond := cond, headOpen := i.headOpen
        events := resetEvents kind own i.headOpen (resetThermal s.nvs d) d } } := by
  intro d
  have bound := length_resetEvents kind own i.headOpen (resetThermal s.nvs d) d
  have whole : (resetEvents kind own i.headOpen (resetThermal s.nvs d) d).take 16 =
      resetEvents kind own i.headOpen (resetThermal s.nvs d) d := List.take_of_length_le (by omega)
  have none : (resetEvents kind own i.headOpen (resetThermal s.nvs d) d).length - 16 = 0 := by omega
  simp only [State.afterReset, d, whole, none]
  rfl

/-! ### Out of service -/

/-- R20, R164: the part while the reset input is held or the power-up sequence is in progress. -/
theorem State.outOfService_is (s : State) (service : Service) : s.outOfService service = { s with
    hpu := { State.reset.hpu with service := service, phase := if s.csq.stage.stopped = .idle then .free else .execute }
    csq := { State.reset.csq with sense := s.csq.sense, stage := s.csq.stage.stopped }
    fmu := { s.fmu.atRest with motion := none }
    msu := { s.msu with find := none, calib := none }
    gst := { s.renderBand.finishMove.gst with cursor := none, moving := none }
    ring := s.renderBand.ring, ram := s.renderBand.finishMove.ram } := by
  obtain ⟨-, -, lbq, ring, hdu, fmu, msu, eng, nvs, strap, pending⟩ := s.renderBand.finishMove_keeps
  obtain ⟨-, -, -, lbq', hdu', fmu', msu', eng', nvs', strap', pending'⟩ := s.renderBand_keeps
  simp only [State.outOfService, State.toStopped, lbq, ring, hdu, fmu, msu, eng, nvs, strap, pending, lbq', hdu', fmu',
    msu', eng', nvs', strap', pending']
  rfl

/-- R32: what is left of the move in hand and of the band. -/
theorem State.finishMove_rendered (s : State) :
    (s.gst.moving = none ∨ s.gst.cursor = none →
      s.renderBand.finishMove.ram = s.renderBand.ram ∧
      { s.renderBand.finishMove.gst with moving := none, cursor := none } =
        { s.gst with moving := none, cursor := none }) ∧
    (∀ cursor id, s.gst.cursor = some cursor → s.gst.moving = some id →
      let e := s.gst.entry id
      let g := (e.size + 7) / 8
      s.renderBand.finishMove.gst = ⟨s.gst.entries.set id { e with base := cursor },
        freeCarve cursor g (freeInsert e.base g s.gst.free), none, none⟩ ∧
      s.renderBand.finishMove.ram = s.renderBand.ram.writeBlock (26624 + 8 * cursor)
        (s.renderBand.ram.readBlock (26624 + 8 * e.base) (8 * g))) := by
  obtain ⟨-, -, gst, -⟩ := s.renderBand_keeps
  refine ⟨fun still => ?_, fun cursor id at_ moving => ?_⟩
  · rw [State.finishMove_none (by rwa [gst]), gst]
    exact ⟨rfl, rfl⟩
  · rw [State.finishMove_some (by rwa [gst]) (by rwa [gst]), State.moveGlyph_eq]
    simp only [gst]
    exact ⟨trivial, trivial⟩

theorem Stage.stopped_idle (h : ∀ w, u.csq.stage ≠ .writing w) : u.csq.stage.stopped = .idle := by
  cases stage : u.csq.stage with
  | writing w => exact absurd stage (h w)
  | _ => rfl

/-- R163 to R165: a power-up sequence that has ended, for one of the two resets. -/
theorem State.powerUp_ready (s : State) (kind : Nat) (p : PowerUp) :
    let stored := (s.tearWrite p.inputs.torn).nvs.decayed p.decay
    let after (n : Nvs) (ram : Memory) (sense : Sense) (cond : Condition) (own : List Event) : State :=
      ({ s with
        gst := State.reset.gst, ring := State.reset.ring, nvs := n, ram := ram, strap := p.strap } : State).afterReset
        sense cond p.inputs (BitVec.ofNat 8 kind) own
    ((∀ pass < 4, ∀ a < 51200, passReadBack p.misreads pass a = passPattern pass a) →
      s.powerUp kind p = after stored.powerUp.1 ⟨[]⟩ (resetSense kind) .idle stored.powerUp.2) ∧
    (∀ pass offset, pass < 4 → offset < 51200 → passReadBack p.misreads pass offset ≠ passPattern pass offset →
      (∀ a < offset, passReadBack p.misreads pass a = passPattern pass a) →
      (∀ q < pass, ∀ a < 51200, passReadBack p.misreads q a = passPattern q a) →
      s.powerUp kind p = after { stored with profile := .default, mech := .default }
        (memoryAfterTest p.misreads (.failed pass offset)) ⟨.ramFault, 0, none, .detail (BitVec.ofNat 32 offset)⟩
        .faulted []) := by
  intro stored after
  refine ⟨fun sound => ?_, fun pass offset inPasses inside fails before earlier => ?_⟩
  · have passed : ramOutcome p.misreads = .passed := (ramOutcome_passed _).mpr fun pass inPasses a inside =>
      (passFailsAt_iff _ _ _).mpr (sound pass inPasses a inside)
    exact State.powerUp_is s kind p passed rfl (Nvs.length_powerUp _)
  · exact State.powerUp_is s kind p (ramOutcome_failed inPasses inside fails before earlier) rfl (by simp)

/-- Settles O54: the passes of the RAM test, the records at power-up, what the sequence sets, and the part out of
service. -/
theorem powerUpSetsEverything : Obligations.PowerUpSetsEverything := by
  refine ⟨?_, fun a => ⟨rfl, rfl, rfl, rfl⟩, fun l pass a none => passReadBack_sound none, passReadBack_misread,
    fun s torn => ⟨s.tearWrite_none torn, fun w writing => s.tearWrite_some torn writing⟩, ?_, ?_⟩
  · intro s p row kind mem ends sound stored d ready
    obtain ⟨k, runs, byte, wide⟩ : ∃ k, exec row s = .next (s.powerUp k p) ∧ BitVec.ofNat 8 k = kind ∧
        kind.setWidth 32 = BitVec.ofNat 32 k := by
      simp only [List.mem_cons, List.not_mem_nil, or_false, Prod.mk.injEq] at mem
      obtain ⟨rfl, rfl⟩ | ⟨rfl, rfl⟩ := mem
      · exact ⟨1, congrArg Host.Outcome.next (if_pos ends), rfl, rfl⟩
      · exact ⟨2, congrArg Host.Outcome.next (if_pos ends), rfl, rfl⟩
    obtain ⟨passes, fails⟩ := s.powerUp_ready k p
    rw [byte] at passes fails
    refine ⟨s.powerUp k p, runs, fun sound => ?_, fun pass offset inPasses inside bad before earlier => ?_⟩
    · have is := (passes sound).trans (State.afterReset_roomy _ _ _ _ _ (Nvs.length_powerUp _))
      rw [is, wide]
      exact ⟨rfl, rfl⟩
    · have is := (fails pass offset inPasses inside bad before earlier).trans
        (State.afterReset_roomy _ _ _ _ _ (by simp))
      rw [is]
      exact ⟨fun a inMemory => memoryAfterTest_failed _ _ offset inMemory, rfl⟩
  · intro n mech record defaulted own hot tolerance
    have mechIs : n.mechAtPowerUp = (mech, own) := by
      simp only [Nvs.mechAtPowerUp, mech, own]
      cases n.load 0 <;> rfl
    have is := n.powerUp_eq
    rw [mechIs] at is
    refine ⟨fun b load agrees => ?_, fun none => ?_⟩
    · rw [is, Nvs.profileAtPowerUp_loads load agrees, List.append_nil]
    · rw [is, Nvs.profileAtPowerUp_default none, adjustedDefault_eq]
      rfl
  · intro s p row service mem out stops
    have runs : exec row s = .next (s.outOfService service) := by
      simp only [List.mem_cons, List.not_mem_nil, or_false, Prod.mk.injEq] at mem
      obtain ⟨rfl, rfl⟩ | ⟨rfl, rfl⟩ | ⟨rfl, rfl⟩ := mem
      · rfl
      · exact congrArg Host.Outcome.next (if_neg (by rw [out.resolve_left nofun]; nofun))
      · exact congrArg Host.Outcome.next (if_neg (by rw [out.resolve_left nofun]; nofun))
    obtain ⟨still, moves⟩ := s.finishMove_rendered
    refine ⟨s.outOfService service, runs, ?_, ?_, ?_, rfl, rfl, ?_, ?_⟩
    · rw [s.outOfService_is]
    · rintro ⟨w, writing⟩
      rw [s.outOfService_is, writing]
      exact ⟨rfl, rfl⟩
    · intro none
      have stopped : s.csq.stage.stopped = .idle := Stage.stopped_idle fun w writing => none ⟨w, writing⟩
      rw [s.outOfService_is, stopped]
      exact ⟨rfl, rfl⟩
    · intro none
      rw [s.outOfService_is]
      exact still none
    · intro cursor id at_ moving e g
      obtain ⟨gst, ram⟩ := moves cursor id at_ moving
      rw [s.outOfService_is]
      exact ⟨by simp only [gst]; rfl, ram⟩

end Sys2Proof.Machine

end

section
/-! A halt, whatever brings it (R145), and what an opening head does (R142 to R144). -/

namespace Sys2Proof.Machine

variable {s t u v : State} {cs : List Cause} {causes : BitVec 4} {c : Cause}

/-! ### What a halt leaves -/

/-- R145: the engine as a halt leaves it. -/
theorem State.asHalted_eng (s : State) (causes : BitVec 4) (c : Cause) :
    (s.asHalted causes c).eng.cond = .halted ∧ (s.asHalted causes c).eng.causes = causes ∧
    (s.asHalted causes c).eng.primary = some c ∧ (s.asHalted causes c).eng.haltPos = s.fmu.pos ∧
    (s.asHalted causes c).eng.interrupted = (s.lbq.printing.map fun p => ⟨p.slot, p.copy⟩) ∧
    (s.asHalted causes c).lbq.printing = none ∧ (s.asHalted causes c).msu.reg = ⟨.unknown, none, false, 0⟩ := by
  simp only [State.asHalted]
  cases s.lbq.printing <;> simp

/-- R116, R145: an open head stops the motor dead. -/
theorem State.asHalted_dead (s : State) (c : Cause) (dead : causes.getLsbD 0 = true) :
    (s.asHalted causes c).fmu.mode = .stopped ∧ (s.asHalted causes c).fmu.speed = 0 := by
  simp only [State.asHalted, dead, true_or, if_true]
  cases s.lbq.printing <;> simp [Fmu.atRest]

theorem State.OnlyRests.eng_halted (h : u.OnlyRests t) (halted : u.eng.cond = .halted) : t.eng = u.eng := by
  obtain ⟨⟨-, -, -, -, -, -, -, -, ⟨same, -⟩, -⟩, -, cond⟩ := h
  rw [State.CondRests, if_neg (by rw [halted]; nofun)] at cond
  rw [same, cond]

theorem State.OnlyRests.motor (h : u.OnlyRests t) : t.fmu.mode = u.fmu.mode ∧ t.fmu.speed = u.fmu.speed ∧
    t.msu.reg = u.msu.reg := by
  obtain ⟨-, ⟨⟨fmu, -⟩ | ⟨-, fmu⟩, msu⟩, -⟩ := h <;> rw [fmu, msu] <;> exact ⟨rfl, rfl, rfl⟩

/-- R145: what the step of a halt leaves. -/
structure State.HaltsIn (s t : State) (causes : BitVec 4) (c : Cause) : Prop where
  cond : t.eng.cond = .halted
  joined : t.eng.causes = causes
  primary : t.eng.primary = some c
  pos : t.eng.haltPos = s.fmu.pos
  interrupted : t.eng.interrupted = (s.lbq.printing.map fun p => ⟨p.slot, p.copy⟩)
  printing : t.lbq.printing = none
  reg : t.msu.reg.state = .unknown
  stopped : causes.getLsbD 0 = true → t.fmu.mode = .stopped ∧ t.fmu.speed = 0

theorem State.endMotion_haltsIn (is : s.asHalted causes c = u) (e : Ending) :
    s.HaltsIn (u.endMotion e) causes c := by
  obtain ⟨cond, hcauses, primary, pos, interrupted, printing, reg⟩ := s.asHalted_eng causes c
  have dead := s.asHalted_dead (causes := causes) c
  rw [is] at cond hcauses primary pos interrupted printing reg dead
  constructor <;> simp only [State.endMotion_keeps, State.endMotion_fmu]
  case cond => exact cond
  case joined => exact hcauses
  case primary => exact primary
  case pos => exact pos
  case interrupted => exact interrupted
  case printing => exact printing
  case reg => rw [reg]
  case stopped => exact dead

theorem State.HaltsIn.rests (h : s.HaltsIn u causes c) (rests : u.OnlyRests t) : s.HaltsIn t causes c := by
  have eng := rests.eng_halted h.cond
  obtain ⟨mode, speed, reg⟩ := rests.motor
  have lbq := rests.1.2.1
  exact ⟨eng ▸ h.cond, eng ▸ h.joined, eng ▸ h.primary, eng ▸ h.pos, eng ▸ h.interrupted, lbq ▸ h.printing,
    reg ▸ h.reg, fun dead => ⟨mode ▸ (h.stopped dead).1, speed ▸ (h.stopped dead).2⟩⟩

/-- Nothing of a run follows in a halt. -/
theorem State.conclude_halted (waits : s.csq.stage ≠ .waiting) (compacts : s.csq.stage ≠ .compacting)
    (halted : s.eng.cond = .halted) : s.OnlyRests s.conclude :=
  State.conclude_rests waits compacts (by rw [State.inRun, halted]; rfl) (by rw [State.mayRun, halted]; rfl)

/-- R145: a halt ends the free motion in hand, and nothing of a run follows. -/
theorem State.halt_ends (waits : s.csq.stage ≠ .waiting) (compacts : s.csq.stage ≠ .compacting)
    (set : causeSet cs = causes) (first : primaryOf cs = c) (dead : causes.getLsbD 0 = true ↔ Cause.headOpen ∈ cs) :
    (s.asHalted causes c).MotionEnds (s.halt cs).conclude
      (.error c.sense none (if c = .headCritical then .detail (BitVec.ofInt 32 s.hdu.temp) else .position s.fmu.pos)) ∧
    s.HaltsIn (s.halt cs).conclude causes c := by
  rw [s.halt_is set first dead]
  obtain ⟨u, is⟩ : ∃ u, s.asHalted causes c = u := ⟨_, rfl⟩
  have csq : u.csq = s.csq := is ▸ (State.asHalted_csq s causes c).1
  generalize Ending.error c.sense none _ = e
  have halts := State.endMotion_haltsIn is e
  have waits' := State.endMotion_stage u e (stage := .waiting) (by rw [csq]; exact waits) nofun
  have compacts' := State.endMotion_stage u e (stage := .compacting) (by rw [csq]; exact compacts) nofun
  rw [is]
  exact ⟨(u.endMotion_over e).ends waits' compacts', halts.rests (State.conclude_halted waits' compacts' halts.cond)⟩

/-- R131: a free move fails where it stands. -/
theorem State.failFreeMove_eq (s : State) (code : SenseCode) :
    s.failFreeMove code = s.freeMoveFailed.endMotion (.error code none (.position s.fmu.pos)) := by
  have same : ({ s.cutShort.unregister.toStopped with
      fmu := { s.cutShort.unregister.toStopped.fmu with present := .atPrintLine } } : State) = s.freeMoveFailed := by
    simp only [State.cutShort, State.freeMoveFailed]
    cases s.fmu.present <;> simp [State.toStopped, State.unregister, Registration.lost, Fmu.atRest]
  rw [← same]
  simp [State.failFreeMove]

theorem State.failFreeMove_ends (waits : s.csq.stage ≠ .waiting) (compacts : s.csq.stage ≠ .compacting)
    (code : SenseCode) :
    s.freeMoveFailed.MotionEnds (s.failFreeMove code).conclude (.error code none (.position s.fmu.pos)) := by
  have waits' : s.freeMoveFailed.csq.stage ≠ .waiting := waits
  have compacts' : s.freeMoveFailed.csq.stage ≠ .compacting := compacts
  rw [s.failFreeMove_eq code]
  exact (State.endMotion_over _ _).ends (State.endMotion_stage _ _ waits' nofun) (State.endMotion_stage _ _ compacts' nofun)

/-! ### The head state changes -/

/-- R144: a cause joins those of a halt; an open head makes its stop dead. -/
theorem State.addCause_headOpen (s : State) : s.addCause .headOpen = { s with
    fmu := s.fmu.atRest, eng := { s.eng with causes := s.eng.causes ||| 1, settle := none } } := rfl

/-- R143: the settle time starts. -/
theorem State.startSettle_eq (s : State) : s.startSettle = { s with eng := { s.eng with
    settle := if s.eng.cond = .halted ∧ s.nvs.profile.autoRecover = true ∧
      (s.eng.primary = some .headOpen ∨ s.eng.primary = some .mediaOut) ∧ s.haltClear = true
      then some 1000 else s.eng.settle } } := by
  rw [State.startSettle]
  split <;> rfl

/-- Settles O50: what an opening and a closing head do in each condition of the engine. -/
theorem headStateChangeIsReported : Obligations.HeadStateChangeIsReported := by
  intro s h waits compacts
  have flips : s.headChanges.eng.headOpen = !s.eng.headOpen := by
    simp only [State.headChanges]
    split <;> simp
  refine ⟨_, exec_headStateChange h, by simpa using flips, by simp, by simp, by simp, by simp, ?_⟩
  intro u report opened fails
  have csq : opened.csq = s.csq := by simp [opened, u]
  have hpu : opened.hpu = s.hpu := by simp [opened, u]
  have cond : opened.eng.cond = s.eng.cond := by simp [opened, u]
  have motion : opened.fmu = s.fmu := by simp [opened, u]
  have printing : opened.lbq = s.lbq := by simp [opened, u]
  have causes : opened.eng.causes = s.eng.causes ∧ opened.eng.primary = s.eng.primary := by simp [opened, u]
  have opens (closed : s.eng.headOpen = false) : s.headChanges = opened.headOpens := by
    simp only [State.headChanges, closed, opened, u]
    rfl
  clear_value opened
  refine ⟨fun closed rests halted still => ?_, fun closed rests halted moving => ?_, fun closed live => ?_,
    fun closed halted => ?_, fun open_ => ?_⟩
  · have same : opened.headOpens = opened := by
      simp only [State.headOpens, cond, rests, halted, motion, still, Bool.false_eq_true, if_false, Option.isSome_none]
    rw [opens closed, same, ← hpu, ← csq]
    exact State.conclude_follows (by rwa [csq]) (by rwa [csq])
  · have failing : opened.headOpens = opened.failFreeMove .headOpen := by
      simp only [State.headOpens, cond, rests, halted, motion, Option.isSome_iff_ne_none.mpr moving, Bool.false_eq_true,
        if_false, if_true]
    have ends := State.failFreeMove_ends (s := opened) (by rwa [csq]) (by rwa [csq]) .headOpen
    rw [motion] at ends
    rw [opens closed, failing]
    exact ends
  · have halts : opened.headOpens = opened.halt [.headOpen] := by simp only [State.headOpens, cond, live, if_true]
    obtain ⟨ends, halt⟩ := State.halt_ends (s := opened) (cs := [.headOpen]) (causes := 1) (c := .headOpen)
      (by rwa [csq]) (by rwa [csq]) rfl rfl (by decide)
    rw [opens closed, halts]
    have interrupted := halt.interrupted
    have pos := halt.pos
    rw [if_neg nofun, motion] at ends
    rw [motion] at pos
    rw [printing] at interrupted
    exact ⟨halt.cond, halt.joined, halt.primary, pos, (halt.stopped rfl).1, (halt.stopped rfl).2, halt.printing,
      halt.reg, interrupted, ends⟩
  · have joins : opened.headOpens = { opened with
        fmu := s.fmu.atRest, eng := { opened.eng with causes := s.eng.causes ||| 1, settle := none } } := by
      rw [← motion, ← causes.1, ← State.addCause_headOpen]
      simp only [State.headOpens, cond, halted, if_true]
      rfl
    rw [opens closed, joins, ← hpu, ← csq, ← causes.2]
    obtain ⟨w, is⟩ : ∃ w, ({ opened with
        fmu := s.fmu.atRest, eng := { opened.eng with causes := s.eng.causes ||| 1, settle := none } } : State) = w :=
      ⟨_, rfl⟩
    have stage : w.csq = opened.csq := is ▸ rfl
    have port : w.hpu = opened.hpu := is ▸ rfl
    have eng : w.eng = { opened.eng with causes := s.eng.causes ||| 1, settle := none } := is ▸ rfl
    have fmu : w.fmu = s.fmu.atRest := is ▸ rfl
    have waits' : w.csq.stage ≠ .waiting := by rwa [stage, csq]
    have compacts' : w.csq.stage ≠ .compacting := by rwa [stage, csq]
    have wHalted : w.eng.cond = .halted := by rw [eng]; exact cond.trans halted
    have rests := State.conclude_halted waits' compacts' wHalted
    obtain ⟨hpu', csq', -⟩ := State.conclude_follows waits' compacts'
    rw [is, rests.eng_halted wHalted, rests.motor.1, hpu', csq', port, stage, eng, fmu]
    exact ⟨cond.trans halted, rfl, rfl, rfl, rfl, rfl, rfl, rests⟩
  · intro settles v
    have closing : s.headChanges = v.startSettle := by
      simp only [State.headChanges, open_, v, u]
      rfl
    have whole : v.hpu = s.hpu ∧ v.csq = s.csq ∧ v.eng.settle = s.eng.settle ∧ v.nvs = s.nvs ∧
        v.eng.cond = s.eng.cond ∧ v.eng.primary = s.eng.primary ∧ v.haltClear = u.haltClear := by
      have clear : v.haltClear = u.haltClear := by
        have sees (c : Cause) : (v.eng.hasCause c && v.persists c) = (u.eng.hasCause c && u.persists c) := by
          cases c <;> simp [v, Eng.hasCause, State.persists]
        simp only [State.haltClear, State.firstPersisting, sees]
      exact ⟨by simp [v, u], by simp [v, u], by simp [v, u], by simp [v, u], by simp [v, u], by simp [v, u], clear⟩
    obtain ⟨hpu', csq', settle, nvs, same, primary, clear⟩ := whole
    rw [closing, State.startSettle_eq, settle, nvs, same, primary, clear, ← hpu', ← csq']
    have waits' : v.csq.stage ≠ .waiting := by rwa [csq']
    have compacts' : v.csq.stage ≠ .compacting := by rwa [csq']
    exact State.conclude_follows waits' compacts'

end Sys2Proof.Machine

end

section
/-! A temperature sample (R106 to R108, R141 to R143). -/

namespace Sys2Proof.Machine

variable {s t u v : State}

theorem exec_temperatureSample (h : s.InService) (degrees : Int) : exec (.temperatureSample degrees) s =
    .next ((s.sampleHead degrees).readRequests s.hdu.thermal.crit).conclude :=
  congrArg Host.Outcome.next (State.served_inService h _)

theorem Thermal.hold_iff (x : Thermal) : x.hold = false ↔ x = .normal := by cases x <;> simp [Thermal.hold]

/-- R141: only HOT holds without the critical request. -/
theorem Thermal.hot_iff (x : Thermal) : (x.hold = true ∧ x.crit = false) ↔ x = .hot := by
  cases x <;> simp [Thermal.hold, Thermal.crit]

/-- R108: the first row that matches. -/
theorem nextThermal_eq (hot critical : Nat) (t : Int) (old : Thermal) : nextThermal hot critical t old =
    if (critical : Int) ≤ t then .critical
    else if (hot : Int) ≤ t then (if old = .critical then .critical else .hot)
    else if (hot : Int) - 7 ≤ t then old else .normal := by
  have near : ((hot : Int) - 8 < t) = ((hot : Int) - 7 ≤ t) := by rw [eq_iff_iff]; omega
  cases old <;> simp only [nextThermal, near, reduceCtorEq, if_true, if_false]

/-- R106: the head's block after a sample. -/
theorem State.sampleHead_eq (s : State) (degrees : Int) : s.sampleHead degrees = { s with hdu := { s.hdu with
    temp := max (-40) (min 125 degrees), strobed := 0, sampleTimer := some 100
    thermal := if (s.nvs.mech.critical : Int) ≤ max (-40) (min 125 degrees) then .critical
      else if (s.nvs.profile.hot : Int) ≤ max (-40) (min 125 degrees) then
        (if s.hdu.thermal = .critical then .critical else .hot)
      else if (s.nvs.profile.hot : Int) - 7 ≤ max (-40) (min 125 degrees) then s.hdu.thermal else .normal } } := by
  simp only [State.sampleHead, clampDegrees, nextThermal_eq]

/-! ### The requests of a sample -/

section

variable {before : Bool}

/-- R142: a new critical request is reported first. -/
theorem State.readRequests_critical (now : s.hdu.thermal = .critical) (new : before = false) :
    s.readRequests before =
      let r := s.post (s.tempEvent .headCritical)
      if s.eng.cond.live then r.halt [.headCritical]
      else if s.eng.cond = .halted then r.addCause .headCritical
      else r := by
  subst new
  simp only [State.readRequests, now, Thermal.crit, Bool.not_false, Bool.and_self, if_true, State.post_keeps]

theorem State.readRequests_old (old : ¬ (s.hdu.thermal = .critical ∧ before = false)) : s.readRequests before =
    if s.eng.cond = .running ∧ s.hdu.thermal = .hot then s.enterHold
    else if s.eng.cond = .holding ∧ s.hdu.thermal = .normal then s.releaseHold
    else s := by
  have none : (s.hdu.thermal.crit && !before) = false := by
    rw [Bool.and_eq_false_iff, ← Bool.not_eq_true, Thermal.crit_iff, Bool.not_eq_false']
    by_cases now : s.hdu.thermal = .critical
    · exact .inr (by simpa [now] using old)
    · exact .inl now
  simp only [State.readRequests, none, Bool.false_eq_true, if_false, Thermal.hot_iff, Thermal.hold_iff]

end

/-- R116: a stop that is not dead comes at once at S or below, going backward, or at rest. -/
theorem State.stopsAtOnce_eq (s : State) {kind : StopKind} (alive : kind ≠ .dead) : s.stopsAtOnce kind =
    decide (s.fmu.backward = true ∨ s.fmu.speed ≤ s.nvs.mech.startSpeed ∨ s.fmu.mode = .stopped) := by
  have lives : (kind == .dead) = false := beq_eq_false_iff_ne.mpr alive
  have slow : decide (s.fmu.speed ≤ s.startSpeed) = decide (s.fmu.speed ≤ s.nvs.mech.startSpeed) := rfl
  have rests : (s.fmu.mode == .stopped) = decide (s.fmu.mode = .stopped) := by cases s.fmu.mode <;> rfl
  simp only [State.stopsAtOnce, lives, slow, rests, Bool.false_or, Bool.decide_or, Bool.decide_eq_true, Bool.or_assoc]

/-- R142: a hold: a soft stop, unless a stop is in progress or the motor is at S or below. -/
theorem State.enterHold_eq (s : State) :
    let slowed : State :=
      if s.fmu.stop ≠ none then s
      else if s.fmu.backward = true ∨ s.fmu.speed ≤ s.nvs.mech.startSpeed ∨ s.fmu.mode = .stopped then s.movementCut
      else { s with
        fmu := { s.fmu with mode := .stopping, stop := some .soft, why := some .hold }
        msu := { s.msu with find := none } }
    s.enterHold = ({ slowed with eng := { slowed.eng with cond := .holding } } : State).post (s.tempEvent .hold) := by
  intro slowed
  have ignored : s.stopIgnored .soft = decide (s.fmu.stop ≠ none) := by
    rw [State.stopIgnored]
    cases s.fmu.stop with
    | none => rfl
    | some k => cases k <;> rfl
  have atOnce : s.stopsAtOnce .soft =
      decide (s.fmu.backward = true ∨ s.fmu.speed ≤ s.nvs.mech.startSpeed ∨ s.fmu.mode = .stopped) :=
    s.stopsAtOnce_eq nofun
  have is : (if s.stopIgnored .soft then s else if s.stopsAtOnce .soft then s.cutShort.toStopped
      else ({ s with msu := { s.msu with find := none } } : State).beginStop .soft .hold) = slowed := by
    simp only [ignored, atOnce, decide_eq_true_eq, slowed, State.cutShort_toStopped]
    rfl
  have temp : slowed.tempEvent .hold = s.tempEvent .hold := by
    have hdu : slowed.hdu = s.hdu := by
      simp only [slowed]
      split
      · rfl
      · split <;> rfl
    rw [State.tempEvent, hdu]
    rfl
  rw [State.enterHold, is, temp]

theorem State.enterHold_cond (s : State) : s.enterHold.eng.cond = .holding := by
  simp [State.enterHold]

/-- R142: nothing of a run follows while the engine holds. -/
theorem State.conclude_holding (waits : s.csq.stage ≠ .waiting) (compacts : s.csq.stage ≠ .compacting)
    (holds : s.eng.cond = .holding) : s.OnlyRests s.conclude :=
  State.conclude_rests waits compacts (by rw [State.inRun, holds]; rfl) (by rw [State.mayRun, holds]; rfl)

theorem State.OnlyRests.holding (h : u.OnlyRests t) (holds : u.eng.cond = .holding) : t.eng.cond = .holding := by
  have cond := h.2.2
  rwa [State.CondRests, if_neg (by rw [holds]; nofun), holds] at cond

/-- R144: a critical head joins the causes of a halt. -/
theorem State.addCause_critical (s : State) : s.addCause .headCritical =
    { s with eng := { s.eng with causes := s.eng.causes ||| 4, settle := none } } := rfl

/-- R143: a hold that is released. -/
theorem State.releaseHold_eq (s : State) : s.releaseHold =
    let runs := ({ s with eng := { s.eng with cond := .running } } : State).post (s.tempEvent .holdReleased)
    if s.fmu.mode = .stopping then runs else runs.beginRun := by
  simp only [State.releaseHold, State.post_keeps]

/-- Settles O49: the thermal state, and what its requests do in each condition of the engine. -/
theorem temperatureSampleSetsTheThermalState : Obligations.TemperatureSampleSetsTheThermalState := by
  intro s degrees h waits compacts d p thermal u report newly critical slowed held runs
  have sampled : s.sampleHead degrees = u := s.sampleHead_eq degrees
  refine ⟨_, exec_temperatureSample h degrees, ?_, by simp, by simp, by simp, ?_⟩
  · rw [sampled]
    simp
  rw [sampled]
  have isNew : newly ↔ u.hdu.thermal = .critical ∧ s.hdu.thermal.crit = false := by
    rw [← Bool.not_eq_true, Thermal.crit_iff]
  have old (n : ¬ newly) := State.readRequests_old (s := u) (before := s.hdu.thermal.crit) (mt isNew.mpr n)
  have new (n : newly) :=
    State.readRequests_critical (s := u) (before := s.hdu.thermal.crit) (isNew.mp n).1 (isNew.mp n).2
  have notNew (x : Thermal) (is : thermal = x) (other : x ≠ .critical) : ¬ newly := fun n => other (is.symm.trans n.1)
  have follows (x : State) (hpu : x.hpu = s.hpu) (csq : x.csq = s.csq) :
      x.conclude.hpu = s.hpu ∧ x.conclude.csq = s.csq ∧ x.OnlyFollows x.conclude := by
    rw [← hpu, ← csq]
    exact State.conclude_follows (by rwa [csq]) (by rwa [csq])
  have stage : critical.csq = s.csq ∧ critical.hpu = s.hpu ∧ critical.eng.causes = s.eng.causes ∧
      critical.fmu = s.fmu ∧ critical.eng.cond = s.eng.cond ∧ critical.hdu.temp = d := by simp [critical, u]
  obtain ⟨csq, hpu, causes, fmu, cond, temp⟩ := stage
  have uHpu : u.hpu = s.hpu := rfl
  have uCsq : u.csq = s.csq := rfl
  have runOrHold (run : s.eng.cond = .running) (hold : s.eng.cond = .holding) : False := nomatch run.symm.trans hold
  refine ⟨?_, fun n rests halted => ?_, fun n live => ?_, fun n halted => ?_, fun running hot => ?_,
    fun n running cool => ?_, fun holding normal => ?_, fun n holding warm => ?_, fun n running holding => ?_⟩
  · intro unlessHalts
    have keeps : (u.readRequests s.hdu.thermal.crit).hpu = s.hpu ∧ (u.readRequests s.hdu.thermal.crit).csq = s.csq := by
      by_cases n : newly
      · have rests : u.eng.cond.live = false := unlessHalts.resolve_left (not_not.mpr n)
        rw [new n]
        simp only [rests, Bool.false_eq_true, if_false]
        split <;> simp [u]
      · rw [old n]
        split
        · simp [u]
        · split <;> simp [u]
    obtain ⟨port, sequencer, -⟩ := follows _ keeps.1 keeps.2
    exact ⟨port, sequencer⟩
  · have is : u.readRequests s.hdu.thermal.crit = critical := by
      have uRests : u.eng.cond.live = false := rests
      have uHalted : u.eng.cond ≠ .halted := halted
      rw [new n]
      simp only [uRests, uHalted, Bool.false_eq_true, if_false]
      rfl
    rw [is]
    exact (follows critical hpu csq).2.2
  · have is : u.readRequests s.hdu.thermal.crit = critical.halt [.headCritical] := by
      have uLive : u.eng.cond.live = true := live
      rw [new n]
      simp only [uLive, if_true]
      rfl
    obtain ⟨ends, halts⟩ := State.halt_ends (s := critical) (cs := [.headCritical]) (causes := 4) (c := .headCritical)
      (by rwa [csq]) (by rwa [csq]) rfl rfl (by decide)
    rw [if_pos rfl, temp] at ends
    have pos := halts.pos
    rw [fmu] at pos
    rw [is]
    exact ⟨halts.cond, halts.joined, halts.primary, pos, ends⟩
  · have is : u.readRequests s.hdu.thermal.crit =
        { critical with eng := { critical.eng with causes := s.eng.causes ||| 4, settle := none } } := by
      have uHalted : u.eng.cond = .halted := halted
      rw [new n, ← causes, ← State.addCause_critical]
      simp only [uHalted, Condition.live, Bool.false_eq_true, if_false, if_true]
      rfl
    rw [is]
    exact State.conclude_halted (by rwa [csq]) (by rwa [csq]) (cond.trans halted)
  · have is : u.readRequests s.hdu.thermal.crit = held := by
      rw [old (notNew .hot hot nofun), if_pos ⟨running, hot⟩]
      exact State.enterHold_eq u
    have stage : held.csq = s.csq ∧ held.eng.cond = .holding := by
      rw [← is, old (notNew .hot hot nofun), if_pos ⟨running, hot⟩]
      exact ⟨(State.enterHold_keeps u).2.1, State.enterHold_cond u⟩
    rw [is]
    have rests := State.conclude_holding (s := held) (by rwa [stage.1]) (by rwa [stage.1]) stage.2
    exact ⟨rests.holding stage.2, rests⟩
  · have is : u.readRequests s.hdu.thermal.crit = u := by
      rw [old n, if_neg fun hold => cool hold.2, if_neg fun hold => runOrHold running hold.1]
    rw [is]
    exact (follows u uHpu uCsq).2.2
  · have is : u.readRequests s.hdu.thermal.crit = u.releaseHold := by
      rw [old (notNew .normal normal nofun), if_neg fun run => runOrHold run.1 holding,
        if_pos ⟨holding, normal⟩]
    have same : u.releaseHold = if s.fmu.mode = .stopping then runs else runs.beginRun := u.releaseHold_eq
    rw [is, ← same]
    exact (follows u.releaseHold (by simp [u]) (by simp [u])).2.2
  · have is : u.readRequests s.hdu.thermal.crit = u := by
      rw [old n, if_neg fun run => runOrHold run.1 holding, if_neg fun hold => warm hold.2]
    rw [is]
    exact State.conclude_holding waits compacts holding
  · have is : u.readRequests s.hdu.thermal.crit = u := by
      rw [old n, if_neg fun hold => running hold.1, if_neg fun hold => holding hold.1]
    rw [is]
    exact (follows u uHpu uCsq).2.2

end Sys2Proof.Machine

end

section
/-! What the sensor has read (R126 to R128): only a sample changes it. -/

namespace Sys2Proof.Machine

variable {s t u v : State}

/-- R126 to R128: the level, the debounced and the candidate class, and the media-absent condition. -/
def Msu.reading (m : Msu) : Byte × Class × Option Class × Nat × Pos × SampleKind × Bool × Nat :=
  (m.raw, m.cls, m.cand, m.agree, m.candPos, m.lastKind, m.absent, m.emptyRun)

/-- Edges, registration, searches and the timer are no part of it. -/
@[simp] theorem Msu.reading_mk (m : Msu) (edges : List Pos) (lastEdge : Option Pos) (reg : Registration)
    (lastLen : Option Nat) (find : Option Find) (calib : Option Calib) (idleTimer : Timer) :
    Msu.reading ⟨m.raw, m.cls, m.cand, m.agree, m.candPos, m.lastKind, m.absent, m.emptyRun, edges, lastEdge, reg,
      lastLen, find, calib, idleTimer⟩ = m.reading := rfl

@[simp] theorem State.vacate_reading (s : State) (slot : Nat) (l : Label) :
    (s.vacate slot l).msu.reading = s.msu.reading := by
  simp [State.vacate]

@[simp] theorem State.removeLabel_reading (s : State) (slot : Nat) (report : Option Event) :
    (s.removeLabel slot report).msu.reading = s.msu.reading := by
  simp only [State.removeLabel]
  (repeat' split) <;> simp

@[simp] theorem State.reportIdleQueue_reading (s : State) (before : Lbq) :
    (s.reportIdleQueue before).msu.reading = s.msu.reading := by
  simp only [State.reportIdleQueue]
  (repeat' split) <;> simp

@[simp] theorem State.copyDone_reading (s : State) (slot : Nat) :
    (s.copyDone slot).msu.reading = s.msu.reading := by
  simp only [State.copyDone]
  (repeat' split) <;> simp

@[simp] theorem State.beginCopy_reading (s : State) (c : Copy) :
    (s.beginCopy c).msu.reading = s.msu.reading := rfl

@[simp] theorem State.countLine_reading (s : State) :
    s.countLine.msu.reading = s.msu.reading := rfl

@[simp] theorem State.strobeLine_reading (s : State) (i : Nat) (l : Line) (d : Nat) :
    (s.strobeLine i l d).msu.reading = s.msu.reading := rfl

@[simp] theorem State.prepareTop_reading (s : State) (top : Pos) (length : Nat) :
    (s.prepareTop top length).msu.reading = s.msu.reading := by
  simp only [State.prepareTop]
  (repeat' split) <;> simp

@[simp] theorem State.passLine_reading (s : State) (l : LabelLine) :
    (s.passLine l).msu.reading = s.msu.reading := by
  simp only [State.passLine]
  (repeat' split) <;> simp

@[simp] theorem State.discardInterrupted_reading (s : State) (slot : Nat) :
    (s.discardInterrupted slot).msu.reading = s.msu.reading := by
  simp only [State.discardInterrupted]
  (repeat' split) <;> simp

@[simp] theorem State.cutShort_reading (s : State) :
    s.cutShort.msu.reading = s.msu.reading := by
  simp only [State.cutShort]
  split <;> rfl

@[simp] theorem State.unregister_reading (s : State) :
    s.unregister.msu.reading = s.msu.reading := by
  simp [State.unregister]

@[simp] theorem State.emptyEdges_reading (s : State) :
    s.emptyEdges.msu.reading = s.msu.reading := by
  simp [State.emptyEdges]

@[simp] theorem State.registerAt_reading (s : State) (top : Pos) :
    (s.registerAt top).msu.reading = s.msu.reading := by
  simp [State.registerAt]

@[simp] theorem State.spoil_reading (s : State) :
    s.spoil.msu.reading = s.msu.reading := by
  simp only [State.spoil]
  (repeat' split) <;> simp

@[simp] theorem State.stopForHalt_reading (s : State) (cs : List Cause) :
    (s.stopForHalt cs).msu.reading = s.msu.reading := by
  simp only [State.stopForHalt]
  (repeat' split) <;> simp

@[simp] theorem State.recordHalt_reading (s : State) (cs : List Cause) (p : Cause) :
    (s.recordHalt cs p).msu.reading = s.msu.reading := rfl

@[simp] theorem State.endMotion_reading (s : State) (e : Ending) :
    (s.endMotion e).msu.reading = s.msu.reading := by
  simp only [State.endMotion]
  (repeat' split) <;> simp

@[simp] theorem State.halt_reading (s : State) (cs : List Cause) :
    (s.halt cs).msu.reading = s.msu.reading := by
  simp [State.halt]

@[simp] theorem State.addCause_reading (s : State) (c : Cause) :
    (s.addCause c).msu.reading = s.msu.reading := by
  simp only [State.addCause]
  (repeat' split) <;> simp

@[simp] theorem State.reseat_reading (s : State) :
    s.reseat.msu.reading = s.msu.reading := rfl

@[simp] theorem State.countEdges_reading (s : State) :
    s.countEdges.msu.reading = s.msu.reading := by
  simp only [State.countEdges]
  (repeat' split) <;> simp

@[simp] theorem State.beginFind_reading (s : State) (n : Nat) :
    (s.beginFind n).msu.reading = s.msu.reading := by
  simp [State.beginFind]

@[simp] theorem State.takeFind_reading (s : State) :
    s.takeFind.msu.reading = s.msu.reading := by
  simp [State.takeFind]

@[simp] theorem State.runOn_reading (s : State) :
    s.runOn.msu.reading = s.msu.reading := by
  simp only [State.runOn]
  (repeat' split) <;> simp

@[simp] theorem State.beginRun_reading (s : State) :
    s.beginRun.msu.reading = s.msu.reading := by
  simp only [State.beginRun]
  (repeat' split) <;> simp

@[simp] theorem State.autoPresent_reading (s : State) :
    s.autoPresent.msu.reading = s.msu.reading := by
  simp only [State.autoPresent]
  (repeat' split) <;> simp

@[simp] theorem State.endRun_reading (s : State) :
    s.endRun.msu.reading = s.msu.reading := by
  simp [State.endRun]

@[simp] theorem State.actOnRest_reading (s : State) :
    s.actOnRest.msu.reading = s.msu.reading := by
  simp only [State.actOnRest]
  (repeat' split) <;> simp

@[simp] theorem State.restReason_reading (s : State) :
    s.restReason.msu.reading = s.msu.reading := by
  simp only [State.restReason]
  (repeat' split) <;> simp

@[simp] theorem State.weighRest_reading (s : State) :
    s.weighRest.msu.reading = s.msu.reading := by
  simp only [State.weighRest]
  (repeat' split) <;> simp

@[simp] theorem State.reviewRun_reading (s : State) :
    s.reviewRun.msu.reading = s.msu.reading := by
  simp [State.reviewRun]

@[simp] theorem State.leavePause_reading (s : State) :
    s.leavePause.msu.reading = s.msu.reading := by
  simp only [State.leavePause]
  (repeat' split) <;> simp

@[simp] theorem State.startRun_reading (s : State) :
    s.startRun.msu.reading = s.msu.reading := by
  simp only [State.startRun]
  (repeat' split) <;> simp

@[simp] theorem State.enterHold_reading (s : State) :
    s.enterHold.msu.reading = s.msu.reading := by
  simp only [State.enterHold]
  (repeat' split) <;> simp

@[simp] theorem State.enterRecovery_reading (s : State) (d : Bool) :
    (s.enterRecovery d).msu.reading = s.msu.reading := by
  simp only [State.enterRecovery]
  (repeat' split) <;> simp

@[simp] theorem State.recovered_reading (s : State) :
    s.recovered.msu.reading = s.msu.reading := by
  simp only [State.recovered]
  (repeat' split) <;> simp

@[simp] theorem State.recoveryFind_reading (s : State) :
    s.recoveryFind.msu.reading = s.msu.reading := by
  simp only [State.recoveryFind]
  (repeat' split) <;> simp

@[simp] theorem State.beginRecoveryFind_reading (s : State) :
    s.beginRecoveryFind.msu.reading = s.msu.reading := by
  simp only [State.beginRecoveryFind]
  (repeat' split) <;> simp

@[simp] theorem State.endFreeMove_reading (s : State) :
    s.endFreeMove.msu.reading = s.msu.reading := by
  simp [State.endFreeMove]

@[simp] theorem State.failFreeMove_reading (s : State) (c : SenseCode) :
    (s.failFreeMove c).msu.reading = s.msu.reading := by
  simp [State.failFreeMove]

@[simp] theorem State.stopForMediaOut_reading (s : State) :
    s.stopForMediaOut.msu.reading = s.msu.reading := by
  simp only [State.stopForMediaOut]
  (repeat' split) <;> simp

@[simp] theorem State.mediaGone_reading (s : State) :
    s.mediaGone.msu.reading = s.msu.reading := by
  simp only [State.mediaGone]
  (repeat' split) <;> simp

@[simp] theorem State.stopForFault_reading (s : State) (a l : Bool) :
    (s.stopForFault a l).msu.reading = s.msu.reading := by
  simp only [State.stopForFault]
  (repeat' split) <;> simp

@[simp] theorem State.failSearch_reading (s : State) :
    s.failSearch.msu.reading = s.msu.reading := by
  simp [State.failSearch]

@[simp] theorem State.abortFreeMove_reading (s : State) :
    s.abortFreeMove.msu.reading = s.msu.reading := by
  simp [State.abortFreeMove]

@[simp] theorem State.breakRecovery_reading (s : State) :
    s.breakRecovery.msu.reading = s.msu.reading := by
  simp [State.breakRecovery]

@[simp] theorem State.stopEnded_reading (s : State) :
    s.stopEnded.msu.reading = s.msu.reading := by
  simp only [State.stopEnded]
  (repeat' split) <;> simp

@[simp] theorem State.takeCalibration_reading (s : State) :
    s.takeCalibration.msu.reading = s.msu.reading := by
  simp only [State.takeCalibration]
  (repeat' split) <;> simp

@[simp] theorem State.searchFails_reading (s : State) :
    s.searchFails.msu.reading = s.msu.reading := by
  simp only [State.searchFails]
  (repeat' split) <;> simp

@[simp] theorem State.calibrationEnds_reading (s : State) (e : Ending) :
    (s.calibrationEnds e).msu.reading = s.msu.reading := by
  simp [State.calibrationEnds]

@[simp] theorem State.targetReached_reading (s : State) :
    s.targetReached.msu.reading = s.msu.reading := by
  simp only [State.targetReached]
  (repeat' split) <;> simp

@[simp] theorem State.reportUnderrun_reading (s : State) :
    s.reportUnderrun.msu.reading = s.msu.reading := by
  simp only [State.reportUnderrun]
  (repeat' split) <;> simp

@[simp] theorem State.endOfFreeStep_reading (s : State) (m : MoveEnd) :
    (s.endOfFreeStep m).msu.reading = s.msu.reading := by
  simp only [State.endOfFreeStep]
  (repeat' split) <;> simp

@[simp] theorem State.endOfRunStep_reading (s : State) (m : MoveEnd) :
    (s.endOfRunStep m).msu.reading = s.msu.reading := by
  simp only [State.endOfRunStep]
  (repeat' split) <;> simp

@[simp] theorem State.endOfStep_reading (s : State) (m : MoveEnd) :
    (s.endOfStep m).msu.reading = s.msu.reading := by
  simp only [State.endOfStep]
  (repeat' split) <;> simp

@[simp] theorem State.atPrintLine_reading (s : State) :
    s.atPrintLine.msu.reading = s.msu.reading := rfl

@[simp] theorem State.accept_reading (s : State) (code : Byte) :
    (s.accept code).msu.reading = s.msu.reading := by
  simp only [State.accept]
  (repeat' split) <;> simp

@[simp] theorem State.commitFeed_reading (s : State) :
    s.commitFeed.msu.reading = s.msu.reading := by
  simp only [State.commitFeed]
  (repeat' split) <;> simp

@[simp] theorem State.commitAdvance_reading (s : State) :
    s.commitAdvance.msu.reading = s.msu.reading := by
  simp only [State.commitAdvance]
  (repeat' split) <;> simp

@[simp] theorem State.commitCalibrate_reading (s : State) :
    s.commitCalibrate.msu.reading = s.msu.reading := by
  simp [State.commitCalibrate]

@[simp] theorem State.commitPresent_reading (s : State) :
    s.commitPresent.msu.reading = s.msu.reading := by
  simp only [State.commitPresent]
  (repeat' split) <;> simp

@[simp] theorem State.commitRetract_reading (s : State) :
    s.commitRetract.msu.reading = s.msu.reading := by
  simp only [State.commitRetract]
  (repeat' split) <;> simp

@[simp] theorem State.commitResume_reading (s : State) :
    s.commitResume.msu.reading = s.msu.reading := by
  simp only [State.commitResume]
  (repeat' split) <;> simp

@[simp] theorem State.commitMotion_reading (s : State) :
    s.commitMotion.msu.reading = s.msu.reading := by
  simp only [State.commitMotion]
  (repeat' split) <;> simp

@[simp] theorem State.motionStep5_reading (s : State) :
    s.motionStep5.msu.reading = s.msu.reading := by
  simp only [State.motionStep5, State.act]
  (repeat' split) <;> simp [State.abort]

@[simp] theorem State.endWait_reading (s : State) :
    s.endWait.msu.reading = s.msu.reading := by
  simp only [State.endWait]
  (repeat' split) <;> simp

@[simp] theorem State.compactOn_reading (s : State) :
    s.compactOn.msu.reading = s.msu.reading := by
  simp only [State.compactOn]
  (repeat' split) <;> simp

@[simp] theorem State.claim_reading (s : State) :
    s.claim.msu.reading = s.msu.reading := by
  simp only [State.claim]
  (repeat' split) <;> simp

@[simp] theorem State.idleSampling_reading (s : State) :
    s.idleSampling.msu.reading = s.msu.reading := by
  simp only [State.idleSampling]
  (repeat' split) <;> simp

@[simp] theorem State.energise_reading (s : State) :
    s.energise.msu.reading = s.msu.reading := by
  simp only [State.energise]
  (repeat' split) <;> simp

@[simp] theorem State.conclude_reading (s : State) :
    s.conclude.msu.reading = s.msu.reading := by
  simp [State.conclude]

end Sys2Proof.Machine

end

section
/-! Idle samples and media out (R126 to R128, R131, R142, R144). -/

namespace Sys2Proof.Machine

variable {s t u v : State}

theorem exec_idleSample (h : s.InService) (running : s.msu.idleTimer ≠ none) (level : Byte) :
    exec (.idleSample level) s = .next (s.idleStep level).conclude :=
  (congrArg Host.Outcome.next (State.served_inService h _)).trans
    (congrArg _ (if_pos (Option.isSome_iff_ne_none.mpr running)))

/-! ### The debounce -/

/-- R126: the class of a level, by the marker threshold in use. -/
theorem State.classOf_eq (s : State) (level : Byte) : s.classOf level =
    if level.toNat < (match s.msu.calib with
      | some c => if c.phase = .survey then s.nvs.profile.marker else c.threshold
      | none => s.nvs.profile.marker) then .media
    else if level.toNat < s.nvs.profile.empty then .marker else .empty := rfl

/-- R127: the sensor's record after an idle sample of this class. -/
def Msu.idled (m : Msu) (level : Byte) (cls : Class) (pos : Pos) : Msu :=
  let agrees := m.lastKind = .idle ∧ m.cand ≠ none
  let n := if agrees then m.agree + 1 else 1
  let r : Msu := { m with raw := level, lastKind := .idle, idleTimer := some 50 }
  if cls = .empty ↔ m.cls = .empty then { r with cand := none, agree := 0 }
  else if n = 3 then { r with cls := cls, cand := none, agree := 0 }
  else { r with cand := some cls, agree := n, candPos := if agrees then m.candPos else pos }

theorem Msu.idled_eq (m : Msu) (level : Byte) (cls : Class) (pos : Pos) :
    { ((({ m with raw := level } : Msu).restarted .idle).debounceIdle cls pos) with idleTimer := some 50 } =
      m.idled level cls pos := by
  have same : ((cls == .empty) == (m.cls == .empty)) = decide (cls = .empty ↔ m.cls = .empty) := by
    cases cls <;> cases m.cls <;> rfl
  by_cases idle : m.lastKind = .idle
  · have restarted : ({ m with raw := level } : Msu).restarted .idle = { m with raw := level } := if_pos idle
    rw [restarted, Msu.debounceIdle, Msu.idled]
    simp only [same, decide_eq_true_eq, idle, true_and]
    split
    · rfl
    · cases cand : m.cand with
      | none => simp only [Option.isSome_none, Bool.false_eq_true, if_false, ne_eq, not_true, Nat.reduceEqDiff]
      | some c =>
        simp only [Option.isSome_some, if_true, ne_eq, reduceCtorEq, not_false_eq_true]
        split <;> rfl
  · have restarted : ({ m with raw := level } : Msu).restarted .idle =
        { m with raw := level, cand := none, agree := 0, lastKind := .idle } := if_neg idle
    rw [restarted, Msu.debounceIdle, Msu.idled]
    simp only [same, decide_eq_true_eq, idle, false_and, if_false, Nat.reduceEqDiff, Option.isSome_none, Bool.false_eq_true]
    split <;> rfl

theorem Msu.idled_absent (m : Msu) (level : Byte) (cls : Class) (pos : Pos) :
    (m.idled level cls pos).absent = m.absent ∧ (m.idled level cls pos).raw = level := by
  simp only [Msu.idled]
  (repeat' split) <;> exact ⟨rfl, rfl⟩

/-- R128: an idle sample sets or clears the media-absent condition, or only moves the debounce on. -/
theorem State.idleSample_eq {level : Byte} {after : Msu} (idled : s.msu.idled level (s.classOf level) s.fmu.pos = after) :
    s.idleSample level =
    if after.cls = .empty ∧ s.msu.cls ≠ .empty ∧ s.msu.absent = false then
      (({ s with msu := { after with absent := true } } : State).post ⟨.mediaOut, 1, 0xFFFF, s.fmu.pos.setWidth 16⟩, true)
    else if after.cls ≠ .empty ∧ s.msu.absent = true then
      (({ s with msu := { after with absent := false, emptyRun := 0 } } : State).post ⟨.mediaLoaded, 0, 0xFFFF, 0⟩, false)
    else ({ s with msu := after }, false) := by
  obtain ⟨d, debounced⟩ : ∃ d, (({ s.msu with raw := level } : Msu).restarted .idle).debounceIdle (s.classOf level)
    s.fmu.pos = d := ⟨_, rfl⟩
  have is : { d with idleTimer := some 50 } = after :=
    debounced ▸ (s.msu.idled_eq level (s.classOf level) s.fmu.pos).trans idled
  have absent : d.absent = s.msu.absent :=
    (congrArg Msu.absent is).trans (idled ▸ (s.msu.idled_absent level (s.classOf level) s.fmu.pos).1)
  subst is
  simp only [State.idleSample, debounced, absent, Bool.not_eq_true']
  rfl

/-! ### What media out does -/

theorem State.addCause_mediaOut (s : State) : s.addCause .mediaOut =
    { s with eng := { s.eng with causes := s.eng.causes ||| 2, settle := none } } := rfl

theorem State.mediaGone_live (live : s.eng.cond.live = true) : s.mediaGone = s.halt [.mediaOut] := if_pos live

theorem State.mediaGone_halted (halted : s.eng.cond = .halted) :
    s.mediaGone = { s with eng := { s.eng with causes := s.eng.causes ||| 2, settle := none } } := by
  rw [State.mediaGone, if_neg (by rw [halted]; nofun), if_pos halted, State.addCause_mediaOut]

theorem State.mediaGone_still (rests : s.eng.cond.live = false) (halted : s.eng.cond ≠ .halted)
    (still : s.fmu.motion = none) : s.mediaGone = s := by
  simp only [State.mediaGone, rests, halted, still, Bool.false_eq_true, if_false, Option.isSome_none]

/-- R131: the registration of a free move is lost. -/
theorem State.mediaGone_moving (rests : s.eng.cond.live = false) (halted : s.eng.cond ≠ .halted)
    (moving : s.fmu.motion ≠ none) :
    s.mediaGone = if s.fmu.goesBack then s.unregister else s.unregister.stopForMediaOut := by
  simp only [State.mediaGone, rests, halted, Option.isSome_iff_ne_none.mpr moving, Bool.false_eq_true, if_false, if_true]

theorem State.stopIgnored_fault (s : State) :
    s.stopIgnored .fault = decide (s.fmu.stop = some .fault ∨ s.fmu.stop = some .dead) := by
  rw [State.stopIgnored]
  cases s.fmu.stop with
  | none => rfl
  | some k => cases k <;> rfl

/-- R131: a forward free move fails at once, or stops for the fault, or goes on in the stop that it is in. -/
theorem State.stopForMediaOut_eq (s : State) : s.stopForMediaOut =
    if s.fmu.stop = some .fault ∨ s.fmu.stop = some .dead then s
    else if s.fmu.backward = true ∨ s.fmu.speed ≤ s.nvs.mech.startSpeed ∨ s.fmu.mode = .stopped then
      s.failFreeMove .mediaOut
    else { s with
      fmu := { s.fmu with mode := .stopping, stop := some .fault, why := some .mediaOut }
      msu := { s.msu with find := none, calib := none } } := by
  simp only [State.stopForMediaOut, State.stopIgnored_fault, s.stopsAtOnce_eq (kind := .fault) nofun, decide_eq_true_eq]
  rfl

/-- R145: the causes that a step sample or a missed top bring. -/
theorem State.stopForFault_live (live : s.eng.cond.live = true) {absent lost : Bool} (some_ : absent = true ∨ lost = true) :
    s.stopForFault absent lost = s.halt (stepCauses absent lost) := by
  have any : (stepCauses absent lost).isEmpty = false := by
    cases absent <;> cases lost <;> simp_all [stepCauses]
  simp only [State.stopForFault, live, any, Bool.not_false, Bool.and_self, if_true]

theorem State.stopForFault_none (s : State) : s.stopForFault false false = s := by
  simp [State.stopForFault, stepCauses]

theorem State.stopForFault_rests (rests : s.eng.cond.live = false) (absent lost : Bool) :
    s.stopForFault absent lost = if absent then s.mediaGone else s := by
  simp only [State.stopForFault, rests, Bool.false_and, Bool.false_eq_true, if_false]

theorem Msu.of_reading {m k : Msu} (h : m.reading = k.reading) : m.raw = k.raw ∧ m.cls = k.cls ∧ m.cand = k.cand ∧
    m.agree = k.agree ∧ m.candPos = k.candPos ∧ m.lastKind = k.lastKind ∧ m.absent = k.absent ∧ m.emptyRun = k.emptyRun := by
  simpa only [Msu.reading, Prod.mk.injEq] using h

/-- R145: a fault stop's causes halt a live engine and end the free motion in hand. -/
theorem State.stopForFault_halts (live : s.eng.cond.live = true) {absent lost : Bool} (any : absent = true ∨ lost = true) :
    let primary : Cause := if absent then .mediaOut else .registrationLost
    (s.asHalted ((if absent then 2 else 0) ||| if lost then 8 else 0) primary).MotionOver (s.stopForFault absent lost)
      (.error primary.sense none (.position s.fmu.pos)) := by
  rw [State.stopForFault_live live any]
  obtain ⟨set, first, dead⟩ : causeSet (stepCauses absent lost) = ((if absent then 2 else 0) ||| if lost then 8 else 0) ∧
      primaryOf (stepCauses absent lost) = (if absent then .mediaOut else .registrationLost) ∧
      (((if absent then (2 : BitVec 4) else 0) ||| if lost then 8 else 0).getLsbD 0 = true ↔
        Cause.headOpen ∈ stepCauses absent lost) := by
    cases absent <;> cases lost
    · simp at any
    all_goals exact ⟨rfl, rfl, by decide⟩
  have critical : (if absent then Cause.mediaOut else .registrationLost) ≠ .headCritical := by split <;> nofun
  have is := s.halt_is set first dead
  rw [if_neg critical] at is
  rw [is]
  exact State.endMotion_over _ _

/-- R131: a forward free move whose media has gone fails where it stands. -/
theorem State.stopForFault_fails (rests : s.eng.cond.live = false) (halted : s.eng.cond ≠ .halted)
    (moving : s.fmu.motion ≠ none) (forward : s.fmu.goesBack = false)
    (weaker : ¬ (s.fmu.stop = some .fault ∨ s.fmu.stop = some .dead))
    (now : s.fmu.backward = true ∨ s.fmu.speed ≤ s.nvs.mech.startSpeed ∨ s.fmu.mode = .stopped) (lost : Bool) :
    s.freeMoveFailed.MotionOver (s.stopForFault true lost) (.error .mediaOut none (.position s.fmu.pos)) := by
  rw [State.stopForFault_rests rests, if_pos rfl, State.mediaGone_moving rests halted moving,
    if_neg (by rw [forward]; nofun), State.stopForMediaOut_eq]
  have fails := s.unregister.failFreeMove_over .mediaOut
  exact ((if_neg weaker).trans (if_pos now)).symm ▸ fails

/-! ### An idle sample -/

/-- R128: what an idle sample leaves in each of its three cases. -/
theorem State.idleStep_cases {level : Byte} {after : Msu} (idled : s.msu.idled level (s.classOf level) s.fmu.pos = after) :
    (after.cls = .empty ∧ s.msu.cls ≠ .empty ∧ s.msu.absent = false → s.idleStep level =
      (({ s with msu := { after with absent := true } } : State).post ⟨.mediaOut, 1, 0xFFFF, s.fmu.pos.setWidth 16⟩).mediaGone) ∧
    (after.cls ≠ .empty ∧ s.msu.absent = true → s.idleStep level =
      ({ s with msu := { after with absent := false, emptyRun := 0 } } : State).post ⟨.mediaLoaded, 0, 0xFFFF, 0⟩) ∧
    (¬ (after.cls = .empty ∧ s.msu.cls ≠ .empty ∧ s.msu.absent = false) → ¬ (after.cls ≠ .empty ∧ s.msu.absent = true) →
      s.idleStep level = { s with msu := after }) := by
  refine ⟨fun gone => ?_, fun loaded => ?_, fun here still => ?_⟩
  · simp only [State.idleStep, State.idleSample_eq idled, gone, ne_eq, not_false_eq_true, and_self, if_true]
  · simp only [State.idleStep, State.idleSample_eq idled, loaded, false_and, if_false, ne_eq, not_false_eq_true,
      and_self, if_true, Bool.false_eq_true]
  · simp only [State.idleStep, State.idleSample_eq idled, if_neg here, if_neg still, Bool.false_eq_true, if_false]

/-- Settles O51: the debounce of idle samples, and what media out does in each condition of the engine. -/
theorem idleSamplesAreDebounced : Obligations.IdleSamplesAreDebounced := by
  refine ⟨?_, fun s level none => ?_, ?_⟩
  · intro s level h running waits compacts p marker cls agrees n same m after gone loaded out
    have idled : s.msu.idled level (s.classOf level) s.fmu.pos = after := rfl
    obtain ⟨goneIs, loadedIs, restIs⟩ := State.idleStep_cases idled
    have raw : after.raw = level := idled ▸ (s.msu.idled_absent level (s.classOf level) s.fmu.pos).2
    clear_value after
    have follows (x : State) (hpu : x.hpu = s.hpu) (csq : x.csq = s.csq) :
        x.conclude.hpu = s.hpu ∧ x.conclude.csq = s.csq ∧ x.OnlyFollows x.conclude := by
      rw [← hpu, ← csq]
      exact State.conclude_follows (by rwa [csq]) (by rwa [csq])
    have sensed : ∃ absent emptyRun, (s.idleStep level).msu.reading =
        ({ after with absent := absent, emptyRun := emptyRun } : Msu).reading := by
      by_cases g : gone
      · rw [goneIs g]
        exact ⟨true, after.emptyRun, by simp⟩
      · by_cases l : loaded
        · rw [loadedIs l]
          exact ⟨false, 0, by simp⟩
        · rw [restIs g l]
          exact ⟨after.absent, after.emptyRun, rfl⟩
    obtain ⟨absent, emptyRun, reading⟩ := sensed
    obtain ⟨raw', cls', cand, agree, -⟩ := Msu.of_reading ((State.conclude_reading _).trans reading)
    refine ⟨_, exec_idleSample h running level, raw'.trans raw, by simp, by simp, by simp, by simp, cls', cand, agree,
      fun here => ?_, fun here still => ?_, fun l => ?_, fun g => ?_⟩
    · have keeps : (s.idleStep level).hpu = s.hpu ∧ (s.idleStep level).csq = s.csq := by
        by_cases l : loaded
        · rw [loadedIs l]
          simp
        · rw [restIs here l]
          exact ⟨rfl, rfl⟩
      obtain ⟨port, sequencer, -⟩ := follows _ keeps.1 keeps.2
      exact ⟨port, sequencer⟩
    · rw [restIs here still]
      exact (follows { s with msu := after } rfl rfl).2.2
    · rw [loadedIs l]
      obtain ⟨x, is⟩ : ∃ x, ({ s with msu := { after with absent := false, emptyRun := 0 } } : State).post
        ⟨.mediaLoaded, 0, 0xFFFF, 0⟩ = x := ⟨_, rfl⟩
      have whole : x.hpu = s.hpu ∧ x.csq = s.csq ∧ x.msu.absent = false ∧ x.msu.emptyRun = 0 := by simp [← is]
      obtain ⟨hpu, csq, cleared, zero⟩ := whole
      obtain ⟨-, -, -, -, -, -, clear, none⟩ := Msu.of_reading (State.conclude_reading x)
      rw [is]
      exact ⟨clear.trans cleared, none.trans zero, (follows x hpu csq).2.2⟩
    · have step : s.idleStep level = out.mediaGone := goneIs g
      rw [step]
      have hpu : out.hpu = s.hpu := by simp [out]
      have csq : out.csq = s.csq := by simp [out]
      have cond : out.eng.cond = s.eng.cond ∧ out.eng.causes = s.eng.causes := by simp [out]
      have fmu : out.fmu = s.fmu := by simp [out]
      have nvs : out.nvs = s.nvs := by simp [out]
      have set : out.msu.absent = true := by simp [out]
      obtain ⟨cond, causes⟩ := cond
      clear_value out
      obtain ⟨-, -, -, -, -, -, absent', -⟩ := Msu.of_reading
        ((State.conclude_reading out.mediaGone).trans (State.mediaGone_reading out))
      refine ⟨absent'.trans set, fun live => ?_, fun halted => ?_, fun rests halted still => ?_,
        fun rests halted moving back => ?_, fun rests halted moving forward free slow => ?_⟩
      · have ends := (State.halt_ends (s := out) (cs := [.mediaOut]) (causes := 2) (c := .mediaOut) (by rwa [csq])
          (by rwa [csq]) rfl rfl (by decide)).1
        rw [if_neg nofun, fmu] at ends
        rw [State.mediaGone_live (by rwa [cond])]
        exact ends
      · have is := State.mediaGone_halted (s := out) (cond.trans halted)
        rw [causes] at is
        rw [is]
        obtain ⟨port, sequencer, -⟩ := follows
          { out with eng := { out.eng with causes := s.eng.causes ||| 2, settle := none } } hpu csq
        exact ⟨port, sequencer, State.conclude_halted (by rwa [csq]) (by rwa [csq]) (cond.trans halted)⟩
      · rw [State.mediaGone_still (by rwa [cond]) (by rwa [cond]) (by rwa [fmu])]
        exact follows out hpu csq
      · have back' : out.fmu.goesBack = true := by rwa [fmu]
        rw [State.mediaGone_moving (by rwa [cond]) (by rwa [cond]) (by rwa [fmu]), if_pos back']
        exact follows out.unregister hpu csq
      · have stop : ¬ (out.fmu.stop = some .fault ∨ out.fmu.stop = some .dead) := by rw [fmu, free]; simp
        have slow' : out.fmu.speed ≤ out.nvs.mech.startSpeed := by rwa [fmu, nvs]
        have is : out.mediaGone = out.unregister.failFreeMove .mediaOut := by
          rw [State.mediaGone_moving (by rwa [cond]) (by rwa [cond]) (by rwa [fmu]), if_neg (by rw [fmu, forward]; nofun),
            State.stopForMediaOut_eq]
          exact (if_neg stop).trans (if_pos (.inr (.inl slow')))
        have ends := State.failFreeMove_ends (s := out.unregister) (by rwa [State.unregister, csq])
          (by rwa [State.unregister, csq]) .mediaOut
        rw [is]
        rw [show out.unregister.fmu = s.fmu from fmu] at ends
        exact ends
  · refine congrArg Host.Outcome.next (?_ : s.served _ = s)
    rw [State.served]
    split
    · exact if_neg (by rw [none]; nofun)
    · rfl
  · intro w absent lost r causes primary free reg atOnce stronger
    refine ⟨fun live any => ?_, fun live here known => ?_, fun rests here => ?_, fun rests halted still => ?_,
      fun halted gone => ?_, fun ⟨rests, halted, moving, gone⟩ goes => ?_,
      fun ⟨rests, halted, moving, gone⟩ forward free now => ?_, fun ⟨rests, halted, moving, gone⟩ forward free later => ?_⟩
    · exact State.stopForFault_halts live any
    · simp only [r, here, known, State.stopForFault_none]
    · simp only [r, here, State.stopForFault_rests rests, Bool.false_eq_true, if_false]
    · simp only [r, State.stopForFault_rests rests, State.mediaGone_still rests halted still, ite_self]
    · simp only [r, gone, State.stopForFault_rests (by rw [halted]; rfl), State.mediaGone_halted halted, if_true]
    · simp only [r, gone, State.stopForFault_rests rests, if_true, State.mediaGone_moving rests halted moving]
      split
      · rfl
      · rename_i forward
        rw [State.stopForMediaOut_eq]
        exact if_pos (goes.resolve_left forward)
    · simp only [r, gone]
      exact State.stopForFault_fails rests halted moving forward free now lost
    · simp only [r, gone, State.stopForFault_rests rests, if_true, State.mediaGone_moving rests halted moving, forward,
        Bool.false_eq_true, if_false]
      rw [State.stopForMediaOut_eq]
      exact (if_neg free).trans (if_neg later)

end Sys2Proof.Machine

end

section
/-! CANCEL LABELS: its targets, the truncation of the ring and the composer's seat (R76 to R79, R86, R98). -/

namespace Sys2Proof.Machine

variable {s t u : State} {r : Ring} {q : Lbq} {slot : Nat} {l : Label} {immediate : Bool}

/-! ### One target -/

/-- R77 to R79: how a target is dealt with. -/
theorem Lbq.treatment_eq (q : Lbq) (immediate : Bool) (slot : Nat) (l : Label) : q.treatment immediate slot l =
    if q.printing.any fun p => p.slot == slot then
      if immediate then .abandon else if l.finishing then .leave else .allow
    else .remove := rfl

theorem State.cancelOne_removes (label : s.lbq.label slot = some l)
    (idle : (s.lbq.printing.any fun p => p.slot == slot) = false) :
    State.cancelOne immediate s slot = (s.post (cancelled l 0)).vacate slot l := by
  simp only [State.cancelOne, label, Lbq.treatment_eq, idle, Bool.false_eq_true, if_false, State.removeLabel]

theorem State.cancelOne_abandons (label : s.lbq.label slot = some l)
    (prints : (s.lbq.printing.any fun p => p.slot == slot) = true) :
    State.cancelOne true s slot = (s.post (cancelled l 2)).vacate slot l := by
  simp only [State.cancelOne, label, Lbq.treatment_eq, prints, if_true, State.removeLabel]

theorem State.cancelOne_leaves (label : s.lbq.label slot = some l)
    (prints : (s.lbq.printing.any fun p => p.slot == slot) = true) (finishing : l.finishing = true) :
    State.cancelOne false s slot = s := by
  simp only [State.cancelOne, label, Lbq.treatment_eq, prints, finishing, if_true, Bool.false_eq_true, if_false]

theorem State.cancelOne_allows (label : s.lbq.label slot = some l)
    (prints : (s.lbq.printing.any fun p => p.slot == slot) = true) (going : l.finishing = false) :
    State.cancelOne false s slot =
      ({ s with lbq := s.lbq.setLabel slot (some { l with finishing := true }) } : State).post (cancelled l 1) := by
  simp only [State.cancelOne, label, Lbq.treatment_eq, prints, going, if_true, Bool.false_eq_true, if_false]

/-! ### The truncation of the ring -/

theorem Ring.length_run (r : Ring) : r.run.length ≤ 16 := by
  have length : r.inOrder.length = 16 := by simp [Ring.inOrder, Config.ringBands]
  exact length ▸ (List.takeWhile_sublist _).length_le

theorem Ring.truncate_whole {cut : Band → Bool} (whole : (r.run.takeWhile fun b => !cut b).length = r.run.length) :
    r.truncate cut = r := if_pos whole

theorem Ring.truncate_cuts {cut : Band → Bool} (cuts : (r.run.takeWhile fun b => !cut b).length < r.run.length) :
    r.truncate cut = { r with
      bands := (List.range 16).map fun i =>
        if (i + 16 - r.head) % 16 < (r.run.takeWhile fun b => !cut b).length then r.band i else .blank
      tail := (r.head + (r.run.takeWhile fun b => !cut b).length) % 16 } := if_neg (Nat.ne_of_lt cuts)

theorem Ring.band_mod (r : Ring) (i : Nat) : r.band (i % 16) = r.band i := by
  simp only [Ring.band, Config.ringBands, Nat.mod_mod]

/-- R98: the bands before the cut stay, the cut one and those behind it are free. -/
theorem Ring.truncate_band {cut : Band → Bool} (cuts : (r.run.takeWhile fun b => !cut b).length < r.run.length)
    (head : r.head < 16) {j : Nat} (inRing : j < 16) : (r.truncate cut).band (r.head + j) =
      if j < (r.run.takeWhile fun b => !cut b).length then r.band (r.head + j) else .blank := by
  have place : ((r.head + j) % 16 + 16 - r.head) % 16 = j := by omega
  rw [Ring.truncate_cuts cuts, Ring.band]
  simp only [Config.ringBands]
  rw [List.getD_eq_getElem?_getD, List.getElem?_map, List.getElem?_range (Nat.mod_lt _ (by decide)), Option.map_some,
    Option.getD_some, place, Ring.band_mod]

/-! ### The seat of the cursor -/

/-- R86: where the cursor goes: behind the last band held, or to the start of the remaining print order. -/
theorem State.reseat_behind {b : Band}
    (last : (s.ring.run.filter fun b => b.state == .ready || b.state == .printing).getLast? = some b) :
    s.reseat = { s with ring := { s.ring with seat := s.lbq.seatAfter b } } := by
  have held : (s.ring.run.filter Band.held).getLast? = some b := last
  simp only [State.reseat, held]

theorem State.reseat_first
    (none : (s.ring.run.filter fun b => b.state == .ready || b.state == .printing).getLast? = none) :
    s.reseat = { s with ring := { s.ring with seat := s.lbq.firstSeat } } := by
  have held : (s.ring.run.filter Band.held).getLast? = Option.none := none
  simp only [State.reseat, held]

/-- R97: the start of the remaining print order. -/
theorem Lbq.firstSeat_next (idle : q.printing = none) : q.firstSeat =
    q.queue.head?.bind fun i => (q.label i).map fun l => ⟨i, l.done + 1, 0⟩ := by
  simp only [Lbq.firstSeat, idle, Lbq.nextCopy]
  cases q.queue.head? with
  | none => rfl
  | some i =>
    simp only [Option.bind_some, Lbq.firstCopy]
    cases q.label i <;> rfl

/-- R97, R86: behind the last line of a copy. -/
theorem Lbq.seatAfter_last {b : Band} (label : q.label b.slot = some l) (last : l.length ≤ b.first + 16) :
    (b.copy < l.copies → l.finishing = false → q.seatAfter b = some ⟨b.slot, b.copy + 1, 0⟩) ∧
    (∀ before behind, l.copies ≤ b.copy ∨ l.finishing = true → q.queue = before ++ b.slot :: behind →
      b.slot ∉ before → q.seatAfter b = behind.head?.bind fun i => (q.label i).map fun l => ⟨i, l.done + 1, 0⟩) := by
  rw [Lbq.seatAfter_eq label, if_neg (Nat.not_lt.mpr last)]
  refine ⟨fun more going => if_pos ⟨more, going⟩, fun before behind over_ queue new => ?_⟩
  have none : ¬ (b.copy < l.copies ∧ l.finishing = false) := by
    rintro ⟨more, going⟩
    rcases over_ with done | done
    · exact absurd more (Nat.not_lt.mpr done)
    · exact absurd (going.symm.trans done) nofun
  rw [if_neg none, queue, slotAfter_split new]

/-! ### The command -/

/-- R76: the targets of the block in hand. -/
theorem State.blockTargets_eq (s : State) : s.blockTargets = s.lbq.queue.filter fun slot =>
    match s.lbq.label slot with
    | some l => (byteAt s.csq.block 1).getLsbD 0 || l.number == half s.csq.block 2
    | none => false := by
  refine List.filter_congr fun slot _ => ?_
  cases s.lbq.label slot <;> rfl

/-- R77 to R79, R98: the bands that a cancel cuts. -/
theorem State.cancelCut_eq (s : State) (immediate : Bool) {targets : List Nat}
    (labels : ∀ slot ∈ targets, ∃ l, s.lbq.label slot = some l) (b : Band) : s.cancelCut immediate targets b =
      (targets.contains b.slot && (immediate || !(s.lbq.printing.any fun p => p.slot == b.slot) ||
        s.lbq.printing.any fun p => decide (p.copy < b.copy))) := by
  rw [State.cancelCut]
  cases target : targets.contains b.slot with
  | false => rfl
  | true =>
    obtain ⟨l, label⟩ := labels b.slot (by simpa using target)
    simp only [label, Lbq.treatment_eq]
    cases prints : (s.lbq.printing.any fun p => p.slot == b.slot) with
    | false => cases immediate <;> rfl
    | true =>
      cases immediate with
      | true => rfl
      | false => cases l.finishing <;> rfl

theorem exec_cancelLabels (r : s.Ready 0x48) (c : s.Clear) : exec .cancelLabels s = .next s.cancelNow := by
  refine (congrArg Host.Outcome.next (State.served_inService r.1 _)).trans (congrArg _ ?_)
  have noRanges : s.ranges s.csq.block = [] := by simp [State.ranges, r.code]
  exact State.plain_acts r (.inl c.1) c.2 (by rw [noRanges]; rfl)

theorem State.vacate_queue (s : State) (slot : Nat) (l : Label) :
    (s.vacate slot l).lbq.queue = s.lbq.queue.erase slot ∧ (s.vacate slot l).lbq.gate = s.lbq.gate := by
  simp [State.vacate, Lbq.activateHead_keeps, Lbq.setLabel]

theorem State.removeLabel_queue (s : State) (slot : Nat) (report : Option Event) :
    (s.lbq.queue = [] → (s.removeLabel slot report).lbq.queue = []) ∧
    (s.removeLabel slot report).lbq.gate = s.lbq.gate := by
  cases label : s.lbq.label slot with
  | none =>
    simp only [State.removeLabel, label]
    exact ⟨id, trivial⟩
  | some l =>
    simp only [State.removeLabel, label]
    have post (u : State) (lbq : u.lbq = s.lbq) : (s.lbq.queue = [] → (u.vacate slot l).lbq.queue = []) ∧
        (u.vacate slot l).lbq.gate = s.lbq.gate := by
      rw [(u.vacate_queue slot l).1, (u.vacate_queue slot l).2, lbq]
      exact ⟨fun empty => by rw [empty]; rfl, rfl⟩
    cases report with
    | none => exact post s rfl
    | some e => exact post (s.post e) (by simp)

/-- R76: a cancel opens no gate and brings no label. -/
theorem State.cancelOne_queue (immediate : Bool) (s : State) (slot : Nat) :
    (s.lbq.queue = [] → (State.cancelOne immediate s slot).lbq.queue = []) ∧
    (State.cancelOne immediate s slot).lbq.gate = s.lbq.gate := by
  rw [State.cancelOne]
  split
  · exact ⟨id, rfl⟩
  · split
    · exact s.removeLabel_queue slot _
    · simp [Lbq.setLabel]
    · exact ⟨id, rfl⟩
    · exact s.removeLabel_queue slot _

theorem State.cancelled_queue (immediate : Bool) (targets : List Nat) : ∀ s : State,
    (s.lbq.queue = [] → (targets.foldl (State.cancelOne immediate) s).lbq.queue = []) ∧
    (targets.foldl (State.cancelOne immediate) s).lbq.gate = s.lbq.gate := by
  induction targets with
  | nil => exact fun s => ⟨id, rfl⟩
  | cons slot targets ih =>
    intro s
    obtain ⟨queue, gate⟩ := s.cancelOne_queue immediate slot
    obtain ⟨queue', gate'⟩ := ih (State.cancelOne immediate s slot)
    exact ⟨fun empty => queue' (queue empty), gate'.trans gate⟩

/-- R76: where no run is on and none may start, none starts behind a cancel. -/
theorem State.cancelTargets_rests (immediate : Bool) (targets : List Nat) (off : s.inRun = false) (none : s.mayRun = false) :
    (s.cancelTargets immediate targets).inRun = false ∧ (s.cancelTargets immediate targets).mayRun = false := by
  obtain ⟨-, -, hdu, msu, -, -, -, -, cond, headOpen, -⟩ := s.cancelTargets_keeps immediate targets
  obtain ⟨motion, move, mode, -⟩ := s.cancelTargets_movement immediate targets
  obtain ⟨queue, gate⟩ := State.cancelled_queue immediate targets s
  have lbq : (s.cancelTargets immediate targets).lbq = (targets.foldl (State.cancelOne immediate) s).lbq := by
    simp [State.cancelTargets]
  refine ⟨?_, ?_⟩
  · rw [State.inRun, cond, mode, move]
    exact off
  · rw [State.mayRun, cond, lbq, gate, headOpen, hdu, msu, motion]
    by_cases left : (targets.foldl (State.cancelOne immediate) s).lbq.queue = []
    · simp [left]
    · have busy : s.lbq.queue.isEmpty = (targets.foldl (State.cancelOne immediate) s).lbq.queue.isEmpty := by
        rw [List.isEmpty_eq_false_iff.mpr left, List.isEmpty_eq_false_iff.mpr (mt queue left)]
      rw [← busy]
      exact none

/-- R76: a target stands in the print queue. -/
theorem State.reportIdleQueue_eq (s : State) {before : Lbq} (busy : before.queue ≠ []) :
    s.reportIdleQueue before = if s.lbq.queue = [] then s.post ⟨.queueIdle, 0, 0xFFFF, 0⟩ else s := by
  simp only [State.reportIdleQueue, Bool.and_eq_true, Bool.not_eq_true', List.isEmpty_eq_false_iff.mpr busy, true_and,
    List.isEmpty_iff]

/-- Settles O37: the targets one by one, the truncation, the seat, and what the command reports. -/
theorem cancelLabelsDealsWithItsTargets : Obligations.CancelLabelsDealsWithItsTargets := by
  refine ⟨?_, fun s immediate slot l label => ?_, fun r cut head => ?_, fun s => ?_⟩
  · intro s r c all immediate number targets prints cut dealt seated
    have targetsIs : s.blockTargets = targets := s.blockTargets_eq
    have notSense : s.csq.block.head? ≠ some 0x12 := by rw [r.2.2.2]; nofun
    have waits : s.csq.stage ≠ .waiting := by rw [r.2.2.1]; nofun
    have compacts : s.csq.stage ≠ .compacting := by rw [r.2.2.1]; nofun
    refine ⟨_, exec_cancelLabels r c, fun empty everything => ?_, fun empty one => ?_, fun some_ => ?_⟩
    · have is : s.cancelNow = s.completeAfter State.commitCancel := if_neg (by
        rw [show modifierBit s.csq.block 0 = true from everything]
        simp)
      have effect : s.commitCancel = (s, .ok) := by simp only [State.commitCancel, targetsIs, empty, List.isEmpty_nil, if_true]
      obtain ⟨ends, follows⟩ := State.completeAfter_ends (effect := State.commitCancel) (by rw [effect]) (by rw [effect])
        waits compacts notSense
      rw [is]
      rw [effect] at ends follows
      exact ⟨follows, ends⟩
    · have is : s.cancelNow = s.finish (.error .labelNotFound (some number) .nothing) := if_pos (by
        rw [show modifierBit s.csq.block 0 = false from one, targetsIs, empty]
        rfl)
      rw [is]
      exact ⟨State.finish_sameEngine s _, State.finish_endsWith notSense _⟩
    · have labels : ∀ slot ∈ targets, ∃ l, s.lbq.label slot = some l := by
        intro slot mem
        have holds := (List.mem_filter.mp mem).2
        cases label : s.lbq.label slot with
        | none => simp [label] at holds
        | some l => exact ⟨l, rfl⟩
      have cutIs : s.cancelCut immediate targets = cut := funext fun b => s.cancelCut_eq immediate labels b
      have busy : s.lbq.queue ≠ [] := fun empty => some_ (by simp [targets, empty])
      have effect : s.commitCancel = (s.cancelTargets immediate targets, .ok) := by
        simp only [State.commitCancel, targetsIs, List.isEmpty_eq_false_iff.mpr some_, Bool.false_eq_true, if_false]
        rfl
      have dealtWith : s.cancelTargets immediate targets =
          if seated.lbq.queue = [] then seated.post ⟨.queueIdle, 0, 0xFFFF, 0⟩ else seated := by
        rw [State.cancelTargets, cutIs]
        exact State.reportIdleQueue_eq seated busy
      have is : s.cancelNow = s.completeAfter State.commitCancel := if_neg (by
        rw [targetsIs, List.isEmpty_eq_false_iff.mpr some_]
        nofun)
      obtain ⟨ends, follows⟩ := State.completeAfter_ends (effect := State.commitCancel) (by rw [effect]; simp)
        (by rw [effect]; simp) waits compacts notSense
      rw [is]
      rw [effect] at ends follows
      refine ⟨ends, dealtWith ▸ follows, fun off none => ?_⟩
      obtain ⟨inRun, mayRun⟩ := State.cancelTargets_rests immediate targets off none
      have rests := (State.completeAfter_rests (effect := State.commitCancel) (by rw [effect]; simp) waits compacts
        (by rw [effect]; exact inRun) (by rw [effect]; exact mayRun)).2.2
      have queue : (s.cancelTargets immediate targets).lbq.queue = seated.lbq.queue := by
        rw [dealtWith]
        split
        · simp
        · rfl
      rw [effect, State.CondRests, queue, (s.cancelTargets_keeps immediate targets).2.2.2.2.2.2.2.2.1] at rests
      exact rests
  · intro printing report t
    refine ⟨State.cancelOne_removes label, fun prints now => ?_, fun prints later finishing => ?_,
      fun prints later going => ?_⟩
    · simp only [t, now]
      exact State.cancelOne_abandons label prints
    · simp only [t, later]
      exact State.cancelOne_leaves label prints finishing
    · simp only [t, later]
      exact State.cancelOne_allows label prints going
  · intro kept
    refine ⟨Ring.truncate_whole, fun cuts => ⟨?_, ?_, ?_, fun j inRing => Ring.truncate_band cuts head inRing⟩⟩ <;>
      rw [Ring.truncate_cuts cuts]
  · intro last seat first
    refine ⟨fun none => ⟨fun p printing => ?_, fun idle => ?_⟩, fun b l held label =>
      ⟨fun more => ?_, fun whole more going => ?_, fun before behind whole over_ queue new => ?_⟩⟩
    · refine (State.reseat_first none).trans ?_
      simp only [Lbq.firstSeat, printing]
    · refine (State.reseat_first none).trans ?_
      rw [Lbq.firstSeat_next idle]
    · refine (State.reseat_behind held).trans ?_
      rw [Lbq.seatAfter_eq label, if_pos more]
    · refine (State.reseat_behind held).trans ?_
      rw [(Lbq.seatAfter_last label whole).1 more going]
    · refine (State.reseat_behind held).trans ?_
      rw [(Lbq.seatAfter_last label whole).2 before behind over_ queue new]

end Sys2Proof.Machine

end

section
/-! RESUME and auto-recover (R147 to R149): the disposition, the edge find of a recovery, and the engine that has
recovered. -/

namespace Sys2Proof.Machine

variable {s t u v a : State}

/-! ### The disposition -/

/-- R147: with no interrupted copy there is nothing to dispose of. -/
theorem State.enterRecovery_whole (none : s.eng.interrupted = none) (discard : Bool) :
    s.enterRecovery discard = { s with eng := { s.eng with
      cond := .recovering, causes := 0, primary := Option.none, settle := Option.none, applied := 0
      recLabel := 0xFFFF } } := by
  simp only [State.enterRecovery, State.interruptedLabel, none, noLabel]

/-- R147: the interrupted copy is kept, to be printed again. -/
theorem State.enterRecovery_reprints {c : Copy} {l : Label} (interrupted : s.eng.interrupted = some c)
    (label : s.lbq.label c.slot = some l) : s.enterRecovery false = { s with eng := { s.eng with
      cond := .recovering, causes := 0, primary := none, interrupted := none, settle := none
      applied := 1, recLabel := l.number } } := by
  simp only [State.enterRecovery, State.interruptedLabel, interrupted, label]
  rfl

/-- R147: the label of the interrupted copy is removed, its bands are cut off and the cursor is seated again. -/
theorem State.enterRecovery_discards {c : Copy} {l : Label} (interrupted : s.eng.interrupted = some c)
    (label : s.lbq.label c.slot = some l) :
    let removed := (s.post (cancelled l 3)).vacate c.slot l
    let seated := ({ removed with ring := s.ring.truncate fun b => b.slot == c.slot } : State).reseat
    let reported := if s.lbq.queue ≠ [] ∧ seated.lbq.queue = [] then seated.post ⟨.queueIdle, 0, 0xFFFF, 0⟩ else seated
    s.enterRecovery true = { reported with eng := { reported.eng with
      cond := .recovering, causes := 0, primary := none, interrupted := none, settle := none
      applied := 2, recLabel := l.number } } := by
  intro removed seated reported
  have gone : s.removeLabel c.slot (some (cancelled l 3)) = removed := by
    simp only [State.removeLabel, label]
    rfl
  have discarded : s.discardInterrupted c.slot = reported := by
    have seats : s.discardInterrupted c.slot = seated.reportIdleQueue s.lbq := by
      simp only [State.discardInterrupted, label, gone]
      rfl
    have emptied : (!s.lbq.queue.isEmpty && seated.lbq.queue.isEmpty) =
        decide (s.lbq.queue ≠ [] ∧ seated.lbq.queue = []) := by
      cases s.lbq.queue <;> cases seated.lbq.queue <;> simp
    rw [seats, State.reportIdleQueue, emptied]
    simp only [decide_eq_true_eq, reported, noLabel]
  simp only [State.enterRecovery, State.interruptedLabel, interrupted, label, discarded]
  rfl

theorem State.enterRecovery_cond (s : State) (discard : Bool) : (s.enterRecovery discard).eng.cond = .recovering := rfl

theorem State.enterRecovery_mode (s : State) (discard : Bool) : (s.enterRecovery discard).fmu.mode = s.fmu.mode := by
  have discarded (slot : Nat) : (s.discardInterrupted slot).fmu.mode = s.fmu.mode := by
    simp only [State.discardInterrupted]
    split <;> simp [State.reseat, State.reportIdleQueue]
    split <;> simp
  simp only [State.enterRecovery]
  split
  · split
    · exact discarded _
    · rfl
  · rfl

/-! ### The edge find of a recovery -/

theorem State.beginFind_motor (s : State) (n : Nat) :
    (s.beginFind n).fmu.stop = s.fmu.stop ∧ (s.beginFind n).fmu.speed = s.fmu.speed ∧
      (s.beginFind n).fmu.motion = s.fmu.motion := by
  rw [State.beginFind_eq, State.countEdges_eq (s := s.findBegun n) rfl]
  cases List.getLast? _ <;> exact ⟨rfl, rfl, rfl⟩

/-- R151: an edge find does not depend on the motion that it belongs to. -/
theorem State.beginFind_beside {m : Option FreeMotion} (nvs : a.nvs = u.nvs) (msu : a.msu = u.msu)
    (fmu : a.fmu = { u.fmu with motion := m }) (n : Nat) :
    a.beginFind n =
      { a with msu := (u.beginFind n).msu, fmu := { (u.beginFind n).fmu with motion := m } } := by
  have reach : (a.findBegun n).reachable = (u.findBegun n).reachable := by
    funext e
    simp only [State.reachable, State.stoppingDistance, State.startSpeed, State.accel, nvs, fmu]
    rfl
  rw [State.beginFind_eq, State.beginFind_eq, State.countEdges_eq (s := a.findBegun n) rfl,
    State.countEdges_eq (s := u.findBegun n) rfl]
  have counts : (a.findBegun n).counting ⟨n, none, 0⟩ = (u.findBegun n).counting ⟨n, none, 0⟩ := by
    simp only [State.counting, State.countedBefore, reach, msu, fmu]
  rw [counts]
  cases List.getLast? _ <;> simp only [Option.elim, State.countedBefore, msu, fmu]

theorem State.recoveryFind_continuous (mode : u.nvs.profile.mode = .continuous) :
    u.recoveryFind = (u.registerAt (u.fmu.pos + 1)).recovered := if_pos mode

theorem State.recoveryFind_searches (mode : u.nvs.profile.mode ≠ .continuous)
    (toCome : (u.beginFind 1).findReached = false) :
    u.recoveryFind = { u.beginFind 1 with fmu := { (u.beginFind 1).fmu with mode := .freeMove } } :=
  (if_neg mode).trans (if_neg (by rw [toCome]; nofun))

theorem State.recoveryFind_found (mode : u.nvs.profile.mode ≠ .continuous)
    (reached : (u.beginFind 1).findReached = true) : u.recoveryFind = (u.beginFind 1).takeFind.recovered :=
  (if_neg mode).trans (if_pos reached)

/-- The motion in hand. -/
abbrev State.withMotion (s : State) (m : Option FreeMotion) : State := { s with fmu := { s.fmu with motion := m } }

/-- R149: a recovery whose edge find waits for a stop, or goes on for its edge. -/
abbrev State.recoverySearch (u : State) (m : Option FreeMotion) : State :=
  let v := if u.fmu.mode = .stopping then u else u.beginFind 1
  { v with fmu := { v.fmu with mode := if u.fmu.mode = .stopping then .stopping else .freeMove, motion := m } }

/-- Whether the edge find of a recovery has no edge at once. -/
abbrev State.EdgeToCome (u : State) : Prop :=
  u.fmu.mode = .stopping ∨ (u.nvs.profile.mode ≠ .continuous ∧
    (if u.fmu.mode = .stopping then u else u.beginFind 1).findReached = false)

theorem State.recoverySearch_eng (u : State) (m : Option FreeMotion) : (u.recoverySearch m).eng = u.eng := by
  by_cases stopping : u.fmu.mode = .stopping <;> simp [stopping]

theorem State.beginRecoveryFind_searches {m : Option FreeMotion} (toCome : u.EdgeToCome) (nvs : a.nvs = u.nvs)
    (msu : a.msu = u.msu) (fmu : a.fmu = { u.fmu with motion := m }) :
    a.beginRecoveryFind =
      { a with msu := (u.recoverySearch m).msu, fmu := (u.recoverySearch m).fmu } := by
  have mode : a.fmu.mode = u.fmu.mode := by rw [fmu]
  by_cases stopping : u.fmu.mode = .stopping
  · rw [State.beginRecoveryFind, if_pos (mode.trans stopping)]
    simp only [stopping, if_true]
    rw [← stopping, ← fmu, ← msu]
  · obtain ⟨edges, notYet⟩ := toCome.resolve_left stopping
    rw [if_neg stopping] at notYet
    have is := State.beginFind_beside nvs msu fmu 1
    have reached : (a.beginFind 1).findReached = false := by
      rw [is]
      exact notYet
    rw [State.beginRecoveryFind, if_neg (by rwa [mode]), State.recoveryFind_searches (by rwa [nvs]) reached, is]
    simp only [stopping, if_false]

/-- R149: beside the search of a recovery nothing starts. -/
theorem State.recoverySearch_rests {m : Option FreeMotion} (toCome : u.EdgeToCome)
    (recovering : u.eng.cond = .recovering) (same : (u.withMotion m).SameEngine a) (waits : a.csq.stage ≠ .waiting)
    (compacts : a.csq.stage ≠ .compacting) :
    (u.recoverySearch m).OnlyRests a.beginRecoveryFind.conclude ∧
      a.beginRecoveryFind.conclude.hpu = a.hpu ∧ a.beginRecoveryFind.conclude.csq = a.csq := by
  obtain ⟨gst, lbq, ring, hdu, fmu, msu, eng, nvs, ram, strap, pending⟩ := same
  rw [State.beginRecoveryFind_searches toCome nvs msu fmu]
  obtain ⟨z, is⟩ : ∃ z : State, { a with msu := (u.recoverySearch m).msu, fmu := (u.recoverySearch m).fmu } = z := ⟨_, rfl⟩
  have cond : z.eng.cond = .recovering := by rw [← is, ← recovering, eng]
  have rests := State.conclude_rests (s := z) (by rwa [← is]) (by rwa [← is]) (by simp [State.inRun, cond])
    (by simp [State.mayRun, cond])
  obtain ⟨hpu, csq, -⟩ := State.conclude_follows (s := z) (by rwa [← is]) (by rwa [← is])
  rw [is]
  refine ⟨rests.congr ?_ (State.SameEngine.refl _), by rw [hpu, ← is], by rw [csq, ← is]⟩
  rw [← is]
  have kept : (u.recoverySearch m).gst = u.gst ∧ (u.recoverySearch m).lbq = u.lbq ∧ (u.recoverySearch m).ring = u.ring ∧
      (u.recoverySearch m).hdu = u.hdu ∧ (u.recoverySearch m).eng = u.eng ∧ (u.recoverySearch m).nvs = u.nvs ∧
      (u.recoverySearch m).ram = u.ram ∧ (u.recoverySearch m).strap = u.strap ∧
      (u.recoverySearch m).pending = u.pending := by
    by_cases stopping : u.fmu.mode = .stopping <;> simp [stopping]
  obtain ⟨gst', lbq', ring', hdu', eng', nvs', ram', strap', pending'⟩ := kept
  exact ⟨gst'.trans gst.symm, lbq'.trans lbq.symm, ring'.trans ring.symm, hdu'.trans hdu.symm, rfl, rfl,
    eng'.trans eng.symm, nvs'.trans nvs.symm, ram'.trans ram.symm, strap'.trans strap.symm,
    pending'.trans pending.symm⟩

/-- R149: a recovery whose edge is reached at once, or that needs none, is through in its own step. -/
theorem State.recoveryFind_follows (waits : a.csq.stage ≠ .waiting) (compacts : a.csq.stage ≠ .compacting) :
    a.recoveryFind.conclude.hpu = a.recoveryFind.hpu ∧ a.recoveryFind.conclude.csq = a.recoveryFind.csq ∧
      a.recoveryFind.OnlyFollows a.recoveryFind.conclude := by
  have stage {x : Stage} (not : a.csq.stage ≠ x) (busy : x ≠ .idle) : a.recoveryFind.csq.stage ≠ x := by
    have ended (v : State) (csq : v.csq = a.csq) : v.recovered.csq.stage ≠ x := by
      rw [State.recovered_eq]
      exact State.endMotion_stage _ _ (by simpa [csq] using not) busy
    by_cases mode : a.nvs.profile.mode = .continuous
    · rw [State.recoveryFind_continuous mode]
      exact ended _ rfl
    · cases reached : (a.beginFind 1).findReached with
      | true =>
        rw [State.recoveryFind_found mode reached]
        exact ended (a.beginFind 1).takeFind (by simp)
      | false =>
        rw [State.recoveryFind_searches mode reached]
        simpa using not
  exact State.conclude_follows (stage waits nofun) (stage compacts nofun)

/-! ### The rows -/

theorem exec_resume (r : s.Ready 0x56) (c : s.Clear) (still : s.fmu.motion = none) (calm : s.eng.cond.live = false)
    (clear : s.eng.cond = .halted → s.haltClear = true) : exec .resume s = .next s.commitResume.conclude := by
  have passes := State.noRanges (s := s) (by rw [r.code]; decide)
  have met : firstOf s.motionChecksFor = none := by
    rw [State.motionChecksFor_resume r.code, State.resumeChecks, calm]
    by_cases halted : s.eng.cond = .halted
    · simp [firstOf, clear halted]
    · simp [firstOf, halted]
  rw [exec_motion (row := .resume) (code := 0x56) r.1 (by decide), State.motion_acts r c.1 passes still,
    State.act_commits met c.2, State.commitMotion_resume r.code]

/-- R147: the recovery that a RESUME begins. -/
theorem exec_resume_halted (r : s.Ready 0x56) (c : s.Clear) (still : s.fmu.motion = none) (halted : s.eng.cond = .halted)
    (clear : s.haltClear = true) {discard : Bool} (disposed : s.disposition = discard) :
    exec .resume s = .next ((s.enterRecovery discard).accept 0x56).beginRecoveryFind.conclude := by
  rw [exec_resume r c still (by rw [halted]; rfl) fun _ => clear, State.commitResume, if_pos halted, disposed]

theorem exec_autoRecover (h : s.InService) (settles : s.eng.settle ≠ none) (halted : s.eng.cond = .halted) :
    exec .autoRecover s = .next (s.enterRecovery s.nvs.profile.discard).beginRecoveryFind.conclude :=
  (congrArg Host.Outcome.next (State.served_inService h _)).trans (congrArg _ (if_pos (by
    simp [halted, Option.isSome_iff_ne_none.mpr settles])))

theorem exec_autoRecover_still (h : s.InService) (stopped : s.eng.settle = none) : exec .autoRecover s = .next s :=
  (congrArg Host.Outcome.next (State.served_inService h _)).trans (congrArg _ (if_neg (by simp [stopped])))

/-- The completion of a command that goes on beside its motion. -/
theorem State.EndsWith.beside {e : Ending} (h : s.EndsWith u e) (hpu : t.hpu = u.hpu) (csq : t.csq = u.csq)
    (rests : v.OnlyRests t) (eng : v.eng = u.eng) (motion : v.fmu.motion = u.fmu.motion) : s.EndsWith t e := by
  obtain ⟨ends, sequencer⟩ := h
  have halted := rests.halted
  obtain ⟨⟨-, -, -, -, -, -, -, -, ⟨only, -⟩, -⟩, ⟨motor, -⟩, -⟩ := rests
  have events : t.eng.events = u.eng.events := by rw [only, ← eng]
  have hand : t.fmu.motion = u.fmu.motion := by rcases motor with ⟨same, -⟩ | ⟨-, same⟩ <;> rw [same, ← motion]
  rw [eng] at halted
  exact ⟨by rw [hpu, ends, halted, events, hand], by rw [csq, sequencer]⟩

/-- R147, R149: RESUME on a clear halt whose edge is still to come. -/
theorem resume_searches (r : s.Ready 0x56) (c : s.Clear) (still : s.fmu.motion = none) (halted : s.eng.cond = .halted)
    (clear : s.haltClear = true) {discard : Bool} (disposed : s.disposition = discard)
    (toCome : (s.enterRecovery discard).EdgeToCome) :
    ∃ t, exec .resume s = .next t ∧
      ((s.enterRecovery discard).recoverySearch (some ⟨0x56, ownerOf s.csq.block⟩)).OnlyRests t ∧
      if (byteAt s.csq.block 1).getLsbD 7 then (s.enterRecovery discard).EndsWith t .ok
      else t.hpu = s.hpu ∧ t.csq = { s.csq with stage := .moving } := by
  refine ⟨_, exec_resume_halted r c still halted clear disposed, ?_⟩
  have hpu : (s.enterRecovery discard).hpu = s.hpu := by simp
  have csq : (s.enterRecovery discard).csq = s.csq := by simp
  have cond := s.enterRecovery_cond discard
  have notSense : s.csq.block.head? ≠ some 0x12 := by
    obtain ⟨-, -, -, block⟩ := r
    rw [block]
    decide
  generalize s.enterRecovery discard = u at *
  by_cases detached : (byteAt s.csq.block 1).getLsbD 7 = true
  · rw [ownerOf, if_pos detached, if_pos detached, State.accept_detached (by rwa [csq])]
    have same := State.finish_sameEngine (u.moved ⟨0x56, .detached⟩) .ok
    have ends := State.finish_endsWith (s := u.moved ⟨0x56, .detached⟩) (by rwa [csq]) .ok
    have idle : ((u.moved ⟨0x56, .detached⟩).finish .ok).csq.stage = .idle := rfl
    obtain ⟨rests, port, sequencer⟩ := State.recoverySearch_rests (m := some ⟨0x56, .detached⟩) toCome cond same
      (by rw [idle]; nofun) (by rw [idle]; nofun)
    refine ⟨rests, State.EndsWith.beside (u := (u.moved ⟨0x56, .detached⟩).finish .ok) ends port sequencer rests ?_ ?_⟩
    · rw [u.recoverySearch_eng, same.2.2.2.2.2.2.1]
    · simp
  · have attached : (byteAt s.csq.block 1).getLsbD 7 = false := by simpa using detached
    rw [ownerOf, if_neg detached, if_neg detached, State.accept_attached (by rwa [csq])]
    obtain ⟨rests, port, sequencer⟩ := State.recoverySearch_rests (m := some ⟨0x56, .attached⟩) toCome cond
      (a := { u.moved ⟨0x56, .attached⟩ with csq := { u.csq with stage := .moving } })
      (State.SameEngine.refl (u.moved ⟨0x56, .attached⟩)) nofun nofun
    exact ⟨rests, port.trans hpu, sequencer.trans (by rw [csq])⟩

/-- R147, R149: RESUME on a clear halt whose edge is reached at once, or that needs none. -/
theorem resume_recovers (r : s.Ready 0x56) (c : s.Clear) (still : s.fmu.motion = none) (halted : s.eng.cond = .halted)
    (clear : s.haltClear = true) {discard : Bool} (disposed : s.disposition = discard) (mode : s.fmu.mode ≠ .stopping) :
    let u := s.enterRecovery discard
    let going := u.moved ⟨0x56, ownerOf s.csq.block⟩
    ∃ a t, exec .resume s = .next t ∧ t.hpu = a.recoveryFind.hpu ∧ t.csq = a.recoveryFind.csq ∧
      a.recoveryFind.OnlyFollows t ∧
      if (byteAt s.csq.block 1).getLsbD 7 then going.SameEngine a ∧ going.EndsWith a .ok
      else a = { going with csq := { s.csq with stage := .moving } } := by
  intro u going
  have runs : exec .resume s = .next (u.accept 0x56).beginRecoveryFind.conclude :=
    exec_resume_halted r c still halted clear disposed
  have moving : (u.accept 0x56).fmu.mode ≠ .stopping := by
    have same : (u.accept 0x56).fmu.mode = u.fmu.mode := by
      simp only [State.accept]
      split <;> simp
    rwa [same, State.enterRecovery_mode]
  have csq : u.csq = s.csq := by simp [u]
  have notSense : u.csq.block.head? ≠ some 0x12 := by
    obtain ⟨-, -, -, block⟩ := r
    rw [csq, block]
    decide
  clear_value u
  rw [State.beginRecoveryFind, if_neg moving] at runs
  by_cases detached : (byteAt s.csq.block 1).getLsbD 7 = true
  · have is : u.accept 0x56 = going.finish .ok := by
      simp only [going, ownerOf, detached, if_true]
      exact State.accept_detached (by rwa [csq])
    rw [is] at runs
    have idle : (going.finish .ok).csq.stage = .idle := rfl
    obtain ⟨hpu, sequencer, follows⟩ := State.recoveryFind_follows (a := going.finish .ok) (by rw [idle]; nofun)
      (by rw [idle]; nofun)
    refine ⟨going.finish .ok, _, runs, hpu, sequencer, follows, ?_⟩
    rw [if_pos detached]
    exact ⟨State.finish_sameEngine going .ok, State.finish_endsWith (s := going) notSense .ok⟩
  · have is : u.accept 0x56 = { going with csq := { s.csq with stage := .moving } } := by
      rw [State.accept_attached (by rw [csq]; simpa using detached), csq]
      simp only [going, ownerOf, if_neg detached]
    rw [is] at runs
    obtain ⟨hpu, sequencer, follows⟩ :=
      State.recoveryFind_follows (a := { going with csq := { s.csq with stage := .moving } }) nofun nofun
    refine ⟨_, _, runs, hpu, sequencer, follows, ?_⟩
    rw [if_neg detached]

/-! ### The engine that has recovered -/

/-- R148: the report of a recovery, and the end of its motion. -/
theorem State.recovered_over (is : s.recoveredEngine = u)
    (eng : u.eng.applied = s.eng.applied ∧ u.eng.recLabel = s.eng.recLabel) :
    (u.post ⟨.recovered, BitVec.ofNat 8 s.eng.applied, s.eng.recLabel, s.fmu.pos.setWidth 16⟩).MotionOver
      s.recovered .ok := by
  have pos : u.fmu.pos = s.fmu.pos := by simp [← is]
  rw [State.recovered_eq, is, eng.1, eng.2, pos]
  exact State.endMotion_over _ .ok

/-- R148: a run from the motor's rest. -/
abbrev State.recoveredRun (s : State) : State :=
  ({ s with fmu := s.fmu.atRest, eng := { s.eng with cond := .running } } : State).beginRun

theorem State.recoveredEngine_idle (empty : s.lbq.queue = []) :
    s.recoveredEngine = { s with fmu := s.fmu.atRest, eng := { s.eng with cond := .idle } } :=
  if_pos (by simp [empty])

theorem State.recoveredEngine_holds (busy : s.lbq.queue ≠ []) (hot : s.hdu.thermal = .hot) :
    s.recoveredEngine = s.recoveredRun.enterHold := by
  have hold : (s.recoveredRun.hdu.thermal.hold && !s.recoveredRun.hdu.thermal.crit) = true := by
    simp [hot, Thermal.hold, Thermal.crit]
  exact (if_neg (by simpa using busy)).trans (if_pos hold)

theorem State.recoveredEngine_runs (busy : s.lbq.queue ≠ []) (cool : s.hdu.thermal ≠ .hot) :
    s.recoveredEngine = s.recoveredRun.reviewRun := by
  have hold : ¬ (s.recoveredRun.hdu.thermal.hold && !s.recoveredRun.hdu.thermal.crit) = true := by
    rw [Bool.and_eq_true, Bool.not_eq_true', Thermal.hot_iff]
    simpa using cool
  exact (if_neg (by simpa using busy)).trans (if_neg hold)

/-- R141: a run begins with the motor as it was. -/
theorem State.beginRun_motor (s : State) (still : s.fmu.speed = 0) :
    s.beginRun.fmu.stop = s.fmu.stop ∧ s.beginRun.fmu.speed = 0 ∧ s.beginRun.fmu.mode = .printRun := by
  have ran (v : State) (slow : v.fmu.speed = 0) :
      v.runOn.fmu.stop = v.fmu.stop ∧ v.runOn.fmu.speed = 0 ∧ v.runOn.fmu.mode = .printRun := by
    obtain ⟨stop, speed, -⟩ := v.beginFind_motor 1
    simp only [State.runOn]
    split
    · split
      · exact ⟨rfl, slow, rfl⟩
      · split
        · exact ⟨stop, rfl, rfl⟩
        · exact ⟨stop, speed.trans slow, rfl⟩
    · exact ⟨rfl, slow, rfl⟩
  rw [State.beginRun]
  split
  · split
    · exact ran { s with fmu := { s.fmu with present := .atPrintLine } } still
    · exact ⟨rfl, still, rfl⟩
  · exact ran s still

theorem State.weighRest_again {r : State} (first : s.weighRest = r) (again : r.weighRest = r) : s.reviewRun = r := by
  rw [State.reviewRun, first, again]

/-- R116: a run that may step is weighed once. -/
theorem State.reviewRun_steps (run : s.inRun = true) (more : 0 < s.horizon.count) :
    s.reviewRun = { s with fmu := { s.fmu with rest := .none } } := by
  have horizon : ({ s with fmu := { s.fmu with rest := .none } } : State).horizon = s.horizon :=
    State.horizon_congr rfl rfl rfl rfl rfl
  exact State.weighRest_again (State.weighRest_steps run more)
    (State.weighRest_steps (s := { s with fmu := { s.fmu with rest := .none } }) run (by rwa [horizon]))

/-- R116: a starved run rests. -/
theorem State.reviewRun_starves (run : s.inRun = true) (none : s.horizon.count = 0)
    (slow : s.fmu.speed ≤ s.nvs.mech.startSpeed) {c : Copy} {line : Nat} (starved : s.horizon.beyond = .notHeld c line) :
    s.reviewRun = s.restingFor .starved := by
  have rests {v : State} (run : v.inRun = true) (none : v.horizon.count = 0) (slow : v.fmu.speed ≤ v.nvs.mech.startSpeed)
      (starved : v.horizon.beyond = .notHeld c line) : v.weighRest = v.restingFor .starved := by
    rw [State.weighRest_rests run none slow, starved]
    rfl
  refine State.weighRest_again (rests run none slow starved) ?_
  have horizon := s.restingFor_horizon .starved
  exact rests (v := s.restingFor .starved) run (by rw [horizon, none]) (Nat.zero_le _) (by rw [horizon, starved])

/-- R142: a run that rests at a closed gate is PAUSED. -/
theorem State.reviewRun_pauses (run : s.inRun = true) (none : s.horizon.count = 0)
    (slow : s.fmu.speed ≤ s.nvs.mech.startSpeed) (closed : s.horizon.beyond = .gateClosed) :
    s.reviewRun = { s with fmu := s.fmu.atRest, eng := { s.eng with cond := .paused } } := by
  refine State.weighRest_again ?_ (State.weighRest_still rfl)
  rw [State.weighRest_rests run none slow, closed]
  rfl

/-- R148: the recovered engine, by its queue, its head and its road. -/
theorem recovered_ends (s : State) :
    let ends (u : State) : Prop := (u.post ⟨.recovered, BitVec.ofNat 8 s.eng.applied, s.eng.recLabel,
      s.fmu.pos.setWidth 16⟩).MotionOver s.recovered .ok
    let run := s.recoveredRun
    let h := run.horizon
    (s.lbq.queue = [] → ends { s with fmu := s.fmu.atRest, eng := { s.eng with cond := .idle } }) ∧
    (s.lbq.queue ≠ [] → s.hdu.thermal = .hot →
      ends (({ run.movementCut with eng := { run.eng with cond := .holding } } : State).post
        ⟨.hold, 0, 0xFFFF, BitVec.ofInt 16 s.hdu.temp⟩)) ∧
    (s.lbq.queue ≠ [] → s.hdu.thermal ≠ .hot → run.fmu.move ≠ .run → ends run) ∧
    (s.lbq.queue ≠ [] → s.hdu.thermal ≠ .hot → run.fmu.move = .run →
      (0 < h.count → ends { run with fmu := { run.fmu with rest := .none } }) ∧
      (∀ c line, h.count = 0 → h.beyond = .notHeld c line →
        ends { run with fmu := { run.fmu with speed := 0, rest := .starved, settling := false } }) ∧
      (h.count = 0 → h.beyond = .gateClosed →
        ends { run with fmu := run.fmu.atRest, eng := { run.eng with cond := .paused } })) := by
  intro ends run h
  have eng : run.eng = { s.eng with cond := .running } := by simp [run]
  obtain ⟨stop, speed, mode⟩ : run.fmu.stop = none ∧ run.fmu.speed = 0 ∧ run.fmu.mode = .printRun :=
    State.beginRun_motor { s with fmu := s.fmu.atRest, eng := { s.eng with cond := .running } } rfl
  have running (move : run.fmu.move = .run) : run.inRun = true :=
    State.inRun_iff.mpr ⟨by rw [eng], mode, move⟩
  have slow : run.fmu.speed ≤ run.nvs.mech.startSpeed := by omega
  refine ⟨fun empty => ?_, fun busy hot => ?_, fun busy cool other => ?_, fun busy cool move => ⟨fun more => ?_,
    fun c line none starved => ?_, fun none closed => ?_⟩⟩
  · exact State.recovered_over (State.recoveredEngine_idle empty) ⟨rfl, rfl⟩
  · have temp : run.hdu.temp = s.hdu.temp := by simp [run]
    refine State.recovered_over ((State.recoveredEngine_holds busy hot).trans ?_) (by simp [eng])
    rw [State.enterHold_eq, if_neg (by simpa using stop), if_pos (.inr (.inl slow)), State.tempEvent, temp]
    rfl
  · exact State.recovered_over ((State.recoveredEngine_runs busy cool).trans
      (State.reviewRun_still (Bool.eq_false_iff.mpr fun runs => other (State.inRun_iff.mp runs).2.2))) (by simp [eng])
  · exact State.recovered_over ((State.recoveredEngine_runs busy cool).trans (State.reviewRun_steps (running move) more))
      (by simp [eng])
  · exact State.recovered_over ((State.recoveredEngine_runs busy cool).trans
      (State.reviewRun_starves (running move) none slow starved)) (by simp [eng])
  · exact State.recovered_over ((State.recoveredEngine_runs busy cool).trans
      (State.reviewRun_pauses (running move) none slow closed)) (by simp [eng])

/-- Settles O41: RESUME and auto-recover, clause by clause. -/
theorem resumeRecoversTheEngine : Obligations.ResumeRecoversTheEngine := by
  unfold Obligations.ResumeRecoversTheEngine
  refine ⟨fun s r c still rests => ?_, fun s r c still halted clear => ?_, fun s h settles halted waits compacts => ?_,
    fun s r c still halted clear => ?_, fun s h settles halted waits compacts => ?_,
    fun s h stopped => exec_autoRecover_still h stopped, fun s discard => ?_, fun u => ?_, recovered_ends⟩
  · have other : s.eng.cond ≠ .halted ∧ s.eng.cond.live = false := by rcases rests with h | h <;> simp [h, Condition.live]
    have runs := exec_resume r c still other.2 fun h => absurd h other.1
    obtain ⟨-, -, -, block⟩ := id r
    rw [State.commitResume, if_neg other.1] at runs
    exact ⟨_, runs, State.finish_follows (by rw [block]; decide) .ok⟩
  · intro detached discard u
    have mode : u.fmu.mode = s.fmu.mode := s.enterRecovery_mode discard
    have profile : u.nvs.profile.mode = s.nvs.profile.mode := by simp [u]
    rw [← mode, ← profile]
    intro v toCome
    have is : u.recoverySearch (some ⟨0x56, ownerOf s.csq.block⟩) = { v with fmu := { v.fmu with
        mode := if u.fmu.mode = .stopping then .stopping else .freeMove
        motion := some ⟨0x56, if detached then .detached else .attached⟩ } } := rfl
    rw [← is]
    exact resume_searches (discard := discard) r c still halted clear rfl toCome
  · intro u
    have mode : u.fmu.mode = s.fmu.mode := s.enterRecovery_mode _
    have profile : u.nvs.profile.mode = s.nvs.profile.mode := by simp [u]
    rw [← mode, ← profile]
    intro v toCome
    have stage : u.csq = s.csq := by simp [u]
    have port : u.hpu = s.hpu := by simp [u]
    have hand : v.fmu.motion = u.fmu.motion := by
      by_cases stopping : u.fmu.mode = .stopping <;> simp [v, stopping, State.beginFind_motor]
    have is : u.recoverySearch u.fmu.motion = { v with fmu := { v.fmu with
        mode := if u.fmu.mode = .stopping then .stopping else .freeMove } } := by
      rw [← hand]
    obtain ⟨rests, hpu, csq⟩ := State.recoverySearch_rests (a := u) toCome (s.enterRecovery_cond _)
      (State.SameEngine.refl u) (by rwa [stage]) (by rwa [stage])
    rw [← is]
    exact ⟨_, exec_autoRecover h settles halted, hpu.trans port, csq.trans stage, rests⟩
  · intro detached discard u going mode _
    exact resume_recovers (discard := discard) r c still halted clear rfl mode
  · intro u mode _
    have runs := exec_autoRecover h settles halted
    rw [State.beginRecoveryFind, if_neg (by rwa [State.enterRecovery_mode])] at runs
    exact ⟨_, runs, State.recoveryFind_follows (a := u) (by simpa [u] using waits) (by simpa [u] using compacts)⟩
  · refine ⟨fun none => State.enterRecovery_whole none discard,
      fun c l interrupted label => ⟨fun keep => ?_, fun gone => ?_⟩⟩
    · rw [keep]
      exact State.enterRecovery_reprints interrupted label
    · rw [gone]
      exact State.enterRecovery_discards interrupted label
  · refine ⟨State.recoveryFind_continuous, fun mode => ⟨State.recoveryFind_searches mode, fun reached => ?_⟩⟩
    have pos : (u.beginFind 1).fmu.pos = u.fmu.pos := by simp
    rw [State.recoveryFind_found mode reached]
    simp only [State.takeFind, State.registerAt, pos]
    rfl

end Sys2Proof.Machine

end

section
/-! The extents of glyphs and the free extents, granule by granule (R43 to R46, R54): what every operation on the glyph store
does to what they cover, and that a move changes no dot that a glyph gives. -/

namespace Sys2Proof.Machine

variable {s t : State} {g h : Gst} {id other x : Nat}

/-! ### Granule by granule -/

/-- R43: the glyph's extent holds this granule. -/
def Gst.Holds (g : Gst) (id x : Nat) : Prop :=
  id < 64 ∧ (g.entry id).state ≠ .empty ∧ (g.entry id).base ≤ x ∧ x < (g.entry id).base + (g.entry id).granules

/-- R43 to R46, R54: each granule is free or held by one glyph, and a move in hand leads down through free granules. -/
structure Gst.Sound (g : Gst) : Prop where
  length : g.entries.length = 64
  ordered : FreeListWf g.free
  sizes : ∀ id < 64, (g.entry id).state ≠ .empty → 0 < (g.entry id).size
  freeWithin : ∀ {x}, Covered g.free x → x < 2048
  heldWithin : ∀ {id x}, g.Holds id x → x < 2048
  heldNotFree : ∀ {id x}, g.Holds id x → ¬ Covered g.free x
  heldOnce : ∀ {id other x}, g.Holds id x → g.Holds other x → id = other
  move : g.MoveWf

theorem Glyph.granules_eq (e : Glyph) : e.granules = (e.size + 7) / 8 := rfl

theorem Gst.granules_pos (size : 0 < (g.entry id).size) : 0 < (g.entry id).granules := by
  rw [Glyph.granules_eq]
  omega

/-- Extents lie apart from an interval exactly where they cover none of its granules. -/
theorem freeApart_iff {l : List Extent} (ordered : FreeListWf l) {base n : Nat} (pos : 0 < n) :
    (∀ e ∈ l, e.first + e.length ≤ base ∨ base + n ≤ e.first) ↔ ∀ x, base ≤ x → x < base + n → ¬ Covered l x := by
  constructor
  · rintro apart x low high ⟨e, mem, from_, to_⟩
    have := apart e mem
    omega
  · intro none e mem
    by_contra meets
    have long := ordered.1 e mem
    exact none (max base e.first) (by omega) (by omega) ⟨e, mem, by omega, by omega⟩

theorem freeWithin_iff {l : List Extent} (ordered : FreeListWf l) {bound : Nat} :
    (∀ e ∈ l, e.first + e.length ≤ bound) ↔ ∀ x, Covered l x → x < bound := by
  constructor
  · rintro within x ⟨e, mem, -, to_⟩
    have := within e mem
    omega
  · intro within e mem
    have long := ordered.1 e mem
    have := within (e.first + e.length - 1) ⟨e, mem, by omega, by omega⟩
    omega

theorem Gst.wf_iff : g.Wf ↔ g.Sound := by
  constructor
  · rintro ⟨length, ordered, ⟨apart, within⟩, sizes, move⟩
    refine ⟨length, ordered, sizes, fun {x} => (freeWithin_iff ordered).mp within x, ?_, ?_, ?_, move⟩
    · rintro id x ⟨less, used, -, high⟩
      obtain ⟨inside, -, -⟩ := apart id less used
      omega
    · rintro id x ⟨less, used, low, high⟩
      obtain ⟨-, free, -⟩ := apart id less used
      exact (freeApart_iff ordered (by omega)).mp free x low high
    · rintro id other x ⟨less, used, low, high⟩ ⟨less', used', low', high'⟩
      by_contra differ
      obtain ⟨-, -, others⟩ := apart id less used
      have := others other less' (Ne.symm differ) used'
      omega
  · rintro ⟨length, ordered, sizes, freeWithin, heldWithin, heldNotFree, heldOnce, move⟩
    refine ⟨length, ordered, ⟨fun id less used => ?_, (freeWithin_iff ordered).mpr fun x => freeWithin⟩, sizes, move⟩
    have pos := Gst.granules_pos (sizes id less used)
    refine ⟨?_, (freeApart_iff ordered pos).mpr fun x low high => heldNotFree ⟨less, used, low, high⟩,
      fun other less' differ used' => ?_⟩
    · have := heldWithin ⟨less, used, Nat.le_sub_of_add_le (Nat.add_le_add_left pos _), Nat.sub_lt (by omega) Nat.one_pos⟩
      omega
    · by_contra meets
      have pos' := Gst.granules_pos (sizes other less' used')
      refine differ (heldOnce (x := max (g.entry id).base (g.entry other).base) ⟨less', used', ?_, ?_⟩ ⟨less, used, ?_, ?_⟩)
      all_goals omega

/-- R54: no move is in hand, or one that leads down through free granules. -/
theorem Gst.moveWf_iff : g.MoveWf ↔ (g.cursor = none ∧ g.moving = none) ∨ ∃ cursor id, g.cursor = some cursor ∧
    g.moving = some id ∧ id < 64 ∧ (g.entry id).state ≠ .empty ∧ cursor < (g.entry id).base ∧
      ∀ x, cursor ≤ x → x < (g.entry id).base → Covered g.free x := by
  rw [Gst.MoveWf]
  cases cursor : g.cursor <;> cases moving : g.moving <;> simp

/-! ### What keeps the granules -/

/-- An entry keeps its extent, and stays in use or out of use. -/
abbrev Gst.SameExtents (g h : Gst) : Prop :=
  ∀ id < 64, (h.entry id).base = (g.entry id).base ∧ (h.entry id).size = (g.entry id).size ∧
    ((h.entry id).state = .empty ↔ (g.entry id).state = .empty)

theorem Gst.SameExtents.holds (same : g.SameExtents h) : h.Holds id x ↔ g.Holds id x := by
  refine and_congr_right fun less => ?_
  obtain ⟨base, size, state⟩ := same id less
  rw [Glyph.granules_eq, Glyph.granules_eq, base, size, Ne, Ne, not_congr state]

/-- A change of counts, or to DOOMED, keeps the store in order. -/
theorem Gst.Sound.congr (sound : g.Sound) (length : h.entries.length = g.entries.length) (same : g.SameExtents h)
    (free : h.free = g.free) (cursor : h.cursor = g.cursor) (moving : h.moving = g.moving) : h.Sound where
  length := length.trans sound.length
  ordered := free ▸ sound.ordered
  sizes id less used := by
    obtain ⟨-, size, state⟩ := same id less
    rw [size]
    exact sound.sizes id less fun empty => used (state.mpr empty)
  freeWithin covered := sound.freeWithin (free ▸ covered)
  heldWithin held := sound.heldWithin (same.holds.mp held)
  heldNotFree held := free ▸ sound.heldNotFree (same.holds.mp held)
  heldOnce held again := sound.heldOnce (same.holds.mp held) (same.holds.mp again)
  move := by
    rw [Gst.moveWf_iff, cursor, moving, free]
    refine (Gst.moveWf_iff.mp sound.move).imp_right ?_
    rintro ⟨c, id, at_, who, less, used, below, road⟩
    obtain ⟨base, -, state⟩ := same id less
    exact ⟨c, id, at_, who, less, fun empty => used (state.mp empty), by rwa [base], by rwa [base]⟩

/-- A move that is given up keeps the store in order. -/
theorem Gst.Sound.still (sound : g.Sound) : ({ g with cursor := none, moving := none } : Gst).Sound :=
  { sound with
    freeWithin := sound.freeWithin, heldWithin := sound.heldWithin, heldNotFree := sound.heldNotFree
    heldOnce := sound.heldOnce, move := trivial }

theorem Gst.Sound.used_bound (sound : g.Sound) (less : id < 64) : id < g.entries.length := by
  rwa [sound.length]

/-- R53: the extent of a glyph that is in use may be given back. -/
theorem Gst.Sound.freed (sound : g.Sound) (less : id < 64) (used : (g.entry id).state ≠ .empty) :
    FreeListWf (freeInsert (g.entry id).base (granules (g.entry id).size) g.free) ∧
    ∀ x, Covered (freeInsert (g.entry id).base (granules (g.entry id).size) g.free) x ↔
      Covered g.free x ∨ g.Holds id x := by
  have pos := Gst.granules_pos (sound.sizes id less used)
  have apart := (freeApart_iff sound.ordered pos).mpr fun x low high => sound.heldNotFree ⟨less, used, low, high⟩
  obtain ⟨ordered, -, covers⟩ := freeInsert_spec sound.ordered pos fun e mem => (apart e mem).symm
  refine ⟨ordered, fun x => (covers x).trans (or_congr_right ?_)⟩
  exact ⟨fun inside => ⟨less, used, inside⟩, fun held => held.2.2⟩

/-- R53: a glyph that is released gives its extent back, and a move of it is given up. -/
theorem Gst.Sound.release (sound : g.Sound) (less : id < 64) (used : (g.entry id).state ≠ .empty) :
    (g.release id).Sound := by
  obtain ⟨ordered, covers⟩ := sound.freed less used
  have entry (i : Nat) : (g.release id).entry i = if i = id then .blank else g.entry i := by
    rw [Gst.release_eq]
    exact Gst.entry_set (sound.used_bound less)
  have holds (i x : Nat) : (g.release id).Holds i x ↔ i ≠ id ∧ g.Holds i x := by
    rw [Gst.Holds, entry]
    split
    · next same => simp [same, Glyph.blank]
    · next differ => exact (and_iff_right differ).symm
  have free : ∀ x, Covered (g.release id).free x ↔ Covered g.free x ∨ g.Holds id x := covers
  refine ⟨by rw [Gst.release_eq]; simp [sound.length], ordered, fun i inRange filled => ?_, fun covered => ?_,
    fun held => ?_, fun held covered => ?_, fun held again => ?_, ?_⟩
  · rw [entry] at filled ⊢
    split at filled
    · exact absurd rfl filled
    · next differ =>
      rw [if_neg differ]
      exact sound.sizes i inRange filled
  · exact ((free _).mp covered).elim sound.freeWithin sound.heldWithin
  · exact sound.heldWithin ((holds _ _).mp held).2
  · obtain ⟨differ, was⟩ := (holds _ _).mp held
    exact ((free _).mp covered).elim (sound.heldNotFree was) fun gone => differ (sound.heldOnce was gone)
  · exact sound.heldOnce ((holds _ _).mp held).2 ((holds _ _).mp again).2
  · by_cases whose : g.moving = some id
    · exact Gst.moveWf_iff.mpr (.inl (by simp [Gst.release, whose]))
    · have stays : (g.moving == some id) = false := by simpa using whose
      have cursor : (g.release id).cursor = g.cursor := by simp [Gst.release, stays]
      have moving : (g.release id).moving = g.moving := by simp [Gst.release, stays]
      rw [Gst.moveWf_iff, cursor, moving]
      refine (Gst.moveWf_iff.mp sound.move).imp_right ?_
      rintro ⟨c, i, at_, who, inRange, filled, below, road⟩
      have differ : i ≠ id := fun same => whose (same ▸ who)
      rw [← if_neg (c := i = id) (t := Glyph.blank) (e := g.entry i) differ, ← entry] at filled below road
      exact ⟨c, i, at_, who, inRange, filled, below, fun x low high => (free x).mpr (.inl (road x low high))⟩

/-- R50: a glyph of this size, defined in the extent that first fit gives; an old extent is free again. -/
theorem Gst.Sound.defined (sound : g.Sound) (less : id < 64) (still : g.moving = none) {e : Glyph}
    {rest : List Extent} (used : e.state ≠ .empty) (size : 0 < e.size) (fits : firstFit e.granules g.free = some (e.base, rest)) :
    ({ g.setEntry id e with
      free := if (g.entry id).state = .empty then rest
        else freeInsert (g.entry id).base (granules (g.entry id).size) rest } : Gst).Sound := by
  have pos : 0 < e.granules := by rw [Glyph.granules_eq]; omega
  obtain ⟨⟨f, mem, start, long, -⟩, restWf, -, restCovers, -⟩ := firstFit_spec pos sound.ordered fits
  have taken (x : Nat) (low : e.base ≤ x) (high : x < e.base + e.granules) : Covered g.free x :=
    ⟨f, mem, by omega, by omega⟩
  have free : FreeListWf (if (g.entry id).state = .empty then rest
      else freeInsert (g.entry id).base (granules (g.entry id).size) rest) ∧
      ∀ x, Covered (if (g.entry id).state = .empty then rest
        else freeInsert (g.entry id).base (granules (g.entry id).size) rest) x ↔
        (Covered g.free x ∧ ¬ (e.base ≤ x ∧ x < e.base + e.granules)) ∨ g.Holds id x := by
    split
    · next empty =>
      refine ⟨restWf, fun x => (restCovers x).trans (or_iff_left ?_).symm⟩
      exact fun held => held.2.1 empty
    · next old =>
      have posOld := Gst.granules_pos (sound.sizes id less old)
      have apart := (freeApart_iff restWf posOld).mpr fun x low high covered =>
        sound.heldNotFree ⟨less, old, low, high⟩ ((restCovers x).mp covered).1
      obtain ⟨ordered, -, covers⟩ := freeInsert_spec restWf posOld fun e mem => (apart e mem).symm
      refine ⟨ordered, fun x => (covers x).trans (or_congr (restCovers x) ?_)⟩
      exact ⟨fun inside => ⟨less, old, inside⟩, fun held => held.2.2⟩
  generalize (if (g.entry id).state = .empty then rest
    else freeInsert (g.entry id).base (granules (g.entry id).size) rest) = list at free ⊢
  obtain ⟨ordered, covers⟩ := free
  have entry (i : Nat) : ({ g.setEntry id e with free := list } : Gst).entry i = if i = id then e else g.entry i :=
    Gst.entry_set (sound.used_bound less)
  have holds (i x : Nat) : ({ g.setEntry id e with free := list } : Gst).Holds i x ↔
      (i = id ∧ e.base ≤ x ∧ x < e.base + e.granules) ∨ (i ≠ id ∧ g.Holds i x) := by
    rw [Gst.Holds, entry]
    split
    · next same => simp [same, less, used]
    · next differ => simp [differ, Gst.Holds]
  refine ⟨by simp [Gst.setEntry, sound.length], ordered, fun i inRange filled => ?_, fun covered => ?_, fun held => ?_,
    fun held covered => ?_, fun held again => ?_, ?_⟩
  · rw [entry] at filled ⊢
    split
    · exact size
    · next differ =>
      rw [if_neg differ] at filled
      exact sound.sizes i inRange filled
  · exact ((covers _).mp covered).elim (fun was => sound.freeWithin was.1) sound.heldWithin
  · exact ((holds _ _).mp held).elim (fun new => sound.freeWithin (taken _ new.2.1 new.2.2))
      fun old => sound.heldWithin old.2
  · rcases (holds _ _).mp held with ⟨-, new⟩ | ⟨differ, old⟩ <;> rcases (covers _).mp covered with ⟨was, out⟩ | mine
    · exact out new
    · exact sound.heldNotFree mine (taken _ new.1 new.2)
    · exact sound.heldNotFree old was
    · exact differ (sound.heldOnce old mine)
  · rcases (holds _ _).mp held with ⟨same, new⟩ | ⟨-, old⟩ <;>
      rcases (holds _ _).mp again with ⟨same', new'⟩ | ⟨-, old'⟩
    · rw [same, same']
    · exact absurd (taken _ new.1 new.2) (sound.heldNotFree old')
    · exact absurd (taken _ new'.1 new'.2) (sound.heldNotFree old)
    · exact sound.heldOnce old old'
  · refine Gst.moveWf_iff.mpr ((Gst.moveWf_iff.mp sound.move).imp_right ?_)
    rintro ⟨_, _, _, who, _⟩
    exact absurd (still.symm.trans who) nofun

/-- R54: the move in hand, or the next one. -/
abbrev Gst.Moves (g : Gst) (cursor id : Nat) : Prop :=
  (g.cursor = some cursor ∧ g.moving = some id) ∨ g.nextMove = some (cursor, id)

/-- R54: a move leads down through free granules. -/
theorem Gst.Sound.road (sound : g.Sound) {cursor : Nat} (moves : g.Moves cursor id) :
    id < 64 ∧ (g.entry id).state ≠ .empty ∧ cursor < (g.entry id).base ∧
      ∀ x, cursor ≤ x → x < (g.entry id).base → Covered g.free x := by
  rcases moves with ⟨at_, who⟩ | next
  · rcases Gst.moveWf_iff.mp sound.move with ⟨none, -⟩ | ⟨c, i, at', who', road⟩
    · exact absurd (at_.symm.trans none) nofun
    · rw [at_, Option.some.injEq] at at'
      rw [who, Option.some.injEq] at who'
      rwa [at', who']
  · obtain ⟨e, rest, free, first, less, used, base⟩ := Gst.nextMove_spec next
    have mem : e ∈ g.free := by simp [free]
    have long := sound.ordered.1 e mem
    exact ⟨less, used, by omega, fun x low high => ⟨e, mem, by omega, by omega⟩⟩

/-- R54: the next move may be put in hand. -/
theorem Gst.Sound.taken (sound : g.Sound) {cursor : Nat} (next : g.nextMove = some (cursor, id)) :
    ({ g with cursor := some cursor, moving := some id } : Gst).Sound :=
  { sound with
    freeWithin := sound.freeWithin, heldWithin := sound.heldWithin, heldNotFree := sound.heldNotFree
    heldOnce := sound.heldOnce
    move := Gst.moveWf_iff.mpr (.inr ⟨cursor, id, rfl, rfl, sound.road (.inr next)⟩) }

/-- R54: the glyph store after a move. -/
theorem Gst.Sound.moved (sound : g.Sound) {cursor : Nat} (moves : g.Moves cursor id) :
    (⟨g.entries.set id { g.entry id with base := cursor }, freeCarve cursor (g.entry id).granules
      (freeInsert (g.entry id).base (g.entry id).granules g.free), none, none⟩ : Gst).Sound := by
  obtain ⟨less, used, below, road⟩ := sound.road moves
  obtain ⟨ordered, covers⟩ := (Gst.wf_iff.mpr sound).free_moved moves
  generalize freeCarve cursor (g.entry id).granules (freeInsert (g.entry id).base (g.entry id).granules g.free) = list at *
  have entry (i : Nat) : (⟨g.entries.set id { g.entry id with base := cursor }, list, none, none⟩ : Gst).entry i =
      if i = id then { g.entry id with base := cursor } else g.entry i := Gst.entry_set (sound.used_bound less)
  have holds (i x : Nat) : (⟨g.entries.set id { g.entry id with base := cursor }, list, none, none⟩ : Gst).Holds i x ↔
      (i = id ∧ cursor ≤ x ∧ x < cursor + (g.entry id).granules) ∨ (i ≠ id ∧ g.Holds i x) := by
    rw [Gst.Holds, entry]
    split
    · next same => simp [same, less, used]
    · next differ => simp [differ, Gst.Holds]
  have was (x : Nat) (low : cursor ≤ x) (high : x < cursor + (g.entry id).granules) :
      Covered g.free x ∨ g.Holds id x := by
    by_cases old : x < (g.entry id).base
    · exact .inl (road x low old)
    · exact .inr ⟨less, used, by omega, by omega⟩
  refine ⟨by simp [sound.length], ordered, fun i inRange filled => ?_, fun covered => ?_, fun held => ?_,
    fun held covered => ?_, fun held again => ?_, trivial⟩
  · rw [entry] at filled ⊢
    split
    · exact sound.sizes id less used
    · next differ =>
      rw [if_neg differ] at filled
      exact sound.sizes i inRange filled
  · obtain ⟨free | ⟨low, high⟩, -⟩ := (covers _).mp covered
    · exact sound.freeWithin free
    · exact sound.heldWithin ⟨less, used, low, high⟩
  · rcases (holds _ _).mp held with ⟨-, low, high⟩ | ⟨-, old⟩
    · exact (was _ low high).elim sound.freeWithin sound.heldWithin
    · exact sound.heldWithin old
  · obtain ⟨free, out⟩ := (covers _).mp covered
    rcases (holds _ _).mp held with ⟨-, new⟩ | ⟨differ, old⟩
    · exact out new
    · rcases free with free | ⟨low, high⟩
      · exact sound.heldNotFree old free
      · exact differ (sound.heldOnce old ⟨less, used, low, high⟩)
  · have apart {i : Nat} {x : Nat} (differ : i ≠ id) (old : g.Holds i x) :
        ¬ (cursor ≤ x ∧ x < cursor + (g.entry id).granules) := fun ⟨low, high⟩ =>
      (was x low high).elim (sound.heldNotFree old) fun mine => differ (sound.heldOnce old mine)
    rcases (holds _ _).mp held with ⟨same, new⟩ | ⟨differ, old⟩ <;>
      rcases (holds _ _).mp again with ⟨same', new'⟩ | ⟨differ', old'⟩
    · rw [same, same']
    · exact absurd new (apart differ' old')
    · exact absurd new' (apart differ old)
    · exact sound.heldOnce old old'

/-! ### References, resets and removals -/

theorem Gst.Sound.recounted (sound : g.Sound) (less : id < 64) (n : Nat) :
    (g.setEntry id { g.entry id with count := n }).Sound := by
  refine sound.congr (by simp [Gst.setEntry]) (fun i _ => ?_) rfl rfl rfl
  have entry : (g.setEntry id { g.entry id with count := n }).entry i =
      if i = id then { g.entry id with count := n } else g.entry i := Gst.entry_set (sound.used_bound less)
  rw [entry]
  split
  · next same => simp [same]
  · simp

theorem Gst.Sound.doomed (sound : g.Sound) (less : id < 64) (used : (g.entry id).state ≠ .empty) :
    (g.setEntry id { g.entry id with state := .doomed }).Sound := by
  refine sound.congr (by simp [Gst.setEntry]) (fun i _ => ?_) rfl rfl rfl
  have entry : (g.setEntry id { g.entry id with state := .doomed }).entry i =
      if i = id then { g.entry id with state := .doomed } else g.entry i := Gst.entry_set (sound.used_bound less)
  rw [entry]
  split
  · next same => simp [same, used]
  · simp

theorem Gst.Sound.addReferences (sound : g.Sound) (ids : List Nat) : (g.addReferences ids).Sound := by
  refine sound.congr (by simp [Gst.addReferences]) (fun i less => ?_) rfl rfl rfl
  have inside := sound.used_bound less
  have entry : (g.addReferences ids).entry i = { g.entry i with count := (g.entry i).count + ids.count i } := by
    simp [Gst.addReferences, Gst.entry, inside]
  simp [entry]

theorem State.dropReference_sound (number : Half) (uses : List Nat) (sound : s.gst.Sound) (less : id < 64) :
    (State.dropReference number uses s id).gst.Sound := by
  by_cases released : s.gst.Released uses id
  · rw [State.dropReference_releases released, (State.post_keeps _ _).2.2.1]
    obtain ⟨-, doomed, -⟩ := released
    exact sound.release less (by rw [doomed]; nofun)
  · by_cases unused : uses.count id = 0
    · rwa [State.dropReference_unused unused]
    · rw [State.dropReference_falls (Nat.pos_of_ne_zero unused) released]
      exact sound.recounted less _

theorem State.dropReferences_sound (sound : s.gst.Sound) (number : Half) (uses : List Nat) :
    (s.dropReferences number uses).gst.Sound := by
  have each : ∀ (l : List Nat) (s : State), (∀ id ∈ l, id < 64) → s.gst.Sound →
      (l.foldl (State.dropReference number uses) s).gst.Sound := by
    intro l
    induction l with
    | nil => exact fun _ _ sound => sound
    | cons a l ih =>
      intro s inside sound
      obtain ⟨first, rest⟩ := List.forall_mem_cons.mp inside
      exact ih _ rest (State.dropReference_sound number uses sound first)
  exact each _ s (fun id mem => List.mem_range.mp mem) sound

/-- R54: the compaction decides on its next move. -/
theorem State.compactOn_sound (sound : s.gst.Sound) : s.compactOn.gst.Sound := by
  rw [State.compactOn]
  split
  · split
    · simpa using sound
    · next cursor id next =>
      split
      · simpa [State.abort] using sound
      split
      · exact sound.taken next
      · exact sound
  · exact sound

/-- R44 to R56: the glyph store stays in order in whatever the engine does to it. -/
theorem sound_kept : KeptByEngine fun s => s.gst.Sound where
  same sound gst _ _ := gst ▸ sound
  vacate {s _ l} sound _ := State.dropReferences_sound (s := s) sound l.number l.uses
  relabel sound _ _ gst _ _ := gst ▸ sound
  compactOn sound := State.compactOn_sound sound

theorem State.moveGlyph_sound (sound : s.gst.Sound) {cursor : Nat} (moves : s.gst.Moves cursor id) :
    (s.moveGlyph cursor id).gst.Sound := by
  rw [State.moveGlyph_eq]
  exact sound.moved moves

theorem State.finishMove_sound (sound : s.gst.Sound) : s.finishMove.gst.Sound := by
  rw [State.finishMove]
  split
  · next at_ who => exact State.moveGlyph_sound sound (.inl ⟨at_, who⟩)
  · exact sound

/-- R58: the glyph store after a port reset. -/
theorem Gst.Sound.portReset (sound : g.Sound) : g.portReset.Sound := by
  have each : ∀ (l : List Nat) (g : Gst), g.Sound → (∀ id ∈ l, id < 64 ∧ (g.entry id).state ≠ .empty) → l.Nodup →
      (l.foldl Gst.release g).Sound := by
    intro l
    induction l with
    | nil => exact fun _ sound _ _ => sound
    | cons a l ih =>
      intro g sound inUse distinct
      obtain ⟨⟨less, used⟩, rest⟩ := List.forall_mem_cons.mp inUse
      obtain ⟨new, distinct⟩ := List.nodup_cons.mp distinct
      refine ih _ (sound.release less used) (fun id mem => ⟨(rest id mem).1, ?_⟩) distinct
      have differ : id ≠ a := fun same => new (same ▸ mem)
      rw [Gst.release_eq, Gst.entry_set (sound.used_bound less), if_neg differ]
      exact (rest id mem).2
  have released := each g.doomedIds g sound (fun id mem => ?_) (List.nodup_range.filter _)
  · refine released.still.congr (by simp [Gst.portReset]) (fun i less => ?_) rfl rfl rfl
    have inside := released.used_bound less
    have entry : g.portReset.entry i = { (g.doomedIds.foldl Gst.release g).entry i with count := 0 } := by
      simp only [Gst.portReset, Gst.entry, List.getD_eq_getElem?_getD, List.getElem?_map]
      rw [List.getElem?_eq_getElem inside]
      rfl
    rw [entry]
    exact ⟨rfl, rfl, Iff.rfl⟩
  · have less : id < 64 := List.mem_range.mp (List.mem_filter.mp mem).1
    refine ⟨less, ?_⟩
    rw [(Gst.mem_doomedIds less).mp mem]
    nofun

/-! ### The dots of a glyph -/

/-- R93: the dot of the unscaled bitmap that a dot of the footprint shows lies within the bitmap. -/
theorem scaledPosition_within {e : Glyph} {form : Transform} {u v : Nat} (hm : 1 ≤ form.hm) (vm : 1 ≤ form.vm)
    (inWidth : u < (glyphFootprint e form 0 0).width) (inHeight : v < (glyphFootprint e form 0 0).height) :
    (scaledPosition e form u v).1 / form.hm < e.width ∧ (scaledPosition e form u v).2 / form.vm < e.height := by
  have wide : scaledWidth e form = e.width * form.hm := rfl
  have high : scaledHeight e form = e.height * form.vm := rfl
  rw [Nat.div_lt_iff_lt_mul hm, Nat.div_lt_iff_lt_mul vm, ← wide, ← high]
  have quarter : form.turns % 4 = 0 ∨ form.turns % 4 = 1 ∨ form.turns % 4 = 2 ∨ form.turns % 4 = 3 := by omega
  have upright (even : form.turns % 2 = 0) : u < scaledWidth e form ∧ v < scaledHeight e form := by
    simp only [glyphFootprint, even, if_true] at inWidth inHeight
    exact ⟨inWidth, inHeight⟩
  have sideways (odd : form.turns % 2 = 1) : u < scaledHeight e form ∧ v < scaledWidth e form := by
    simp only [glyphFootprint, odd, one_ne_zero, if_false] at inWidth inHeight
    exact ⟨inWidth, inHeight⟩
  rcases quarter with turned | turned | turned | turned <;> simp only [scaledPosition, turned]
  · exact upright (by omega)
  · have := sideways (by omega)
    exact ⟨by omega, by omega⟩
  · have := upright (by omega)
    exact ⟨by omega, by omega⟩
  · have := sideways (by omega)
    exact ⟨by omega, by omega⟩

/-- R55: the bytes of a glyph's bitmap are all that its dots are read from. -/
theorem glyphSource_congr {ram ram' : Memory} {e : Glyph} {base : Nat} {form : Transform} {u v : Nat} (hm : 1 ≤ form.hm)
    (vm : 1 ≤ form.vm) (inWidth : u < (glyphFootprint e form 0 0).width) (inHeight : v < (glyphFootprint e form 0 0).height)
    (size : e.size = (e.width + 7) / 8 * e.height)
    (same : ∀ i < e.size, ram'.read (glyphOffset base + i) = ram.read (glyphOffset e.base + i)) :
    glyphSource ram' { e with base := base } form u v = glyphSource ram e form u v := by
  obtain ⟨column, row⟩ := scaledPosition_within hm vm inWidth inHeight
  have at_ : scaledPosition { e with base := base } form u v = scaledPosition e form u v := rfl
  simp only [glyphSource, at_, bitmapDot]
  generalize scaledPosition e form u v = p at *
  rw [same]
  have bytes : ceilDiv e.width 8 = (e.width + 7) / 8 := rfl
  calc p.2 / form.vm * ceilDiv e.width 8 + p.1 / form.hm / 8
      < p.2 / form.vm * ceilDiv e.width 8 + (e.width + 7) / 8 := by omega
    _ = (p.2 / form.vm + 1) * ((e.width + 7) / 8) := by rw [bytes]; ring
    _ ≤ e.height * ((e.width + 7) / 8) := Nat.mul_le_mul_right _ row
    _ = e.size := by rw [size, Nat.mul_comm]

/-- R55: neither the glyph that is moved nor any other gives another dot. -/
theorem movedGlyphs_dots {cursor : Nat} (next : s.gst.nextMove = some (cursor, id)) (inside : id < s.gst.entries.length)
    (ordered : FreeListWf s.gst.free) (apart : s.gst.ExtentsApart) (less : other < 64)
    (used : (s.gst.entry other).state ≠ .empty) {form : Transform} {u v : Nat} (hm : 1 ≤ form.hm) (vm : 1 ≤ form.vm)
    (inWidth : u < (glyphFootprint (s.gst.entry other) form 0 0).width)
    (inHeight : v < (glyphFootprint (s.gst.entry other) form 0 0).height)
    (size : (s.gst.entry other).size = ((s.gst.entry other).width + 7) / 8 * (s.gst.entry other).height) :
    glyphSource (s.moveGlyph cursor id).ram ((s.moveGlyph cursor id).gst.entry other) form u v =
      glyphSource s.ram (s.gst.entry other) form u v := by
  obtain ⟨e, rest, free, first, lessId, usedId, base⟩ := Gst.nextMove_spec next
  have long : 0 < e.length := ordered.1 e (by simp [free])
  rw [State.moveGlyph_eq]
  simp only
  rw [Gst.entry_set inside]
  split
  · next same =>
    subst same
    refine glyphSource_congr hm vm inWidth inHeight size fun i inBitmap => ?_
    have stored : i < 8 * (((s.gst.entry other).size + 7) / 8) := by omega
    rw [glyphOffset_eq, glyphOffset_eq, Memory.read_written _ (by rwa [Memory.length_readBlock]),
      Memory.getD_readBlock _ _ stored]
  · next differ =>
    obtain ⟨-, between, others⟩ := apart.1 other less used
    have behind := between e (by simp [free])
    have beside := others id lessId (Ne.symm differ) usedId
    refine glyphSource_congr (e := s.gst.entry other) (base := (s.gst.entry other).base) hm vm inWidth inHeight size
      fun i inBitmap => ?_
    refine Memory.read_elsewhere _ ?_
    rw [glyphOffset_eq, Memory.length_readBlock]
    simp only [Glyph.granules_eq] at behind beside
    omega

end Sys2Proof.Machine

end

section
/-! The glyph store stays in order in every row (R44 to R58). -/

namespace Sys2Proof.Machine

variable {s t : State} {g h : Gst} {id : Nat}

/-- With no move in hand the free list may lose granules. -/
theorem Gst.Sound.shrunk (sound : g.Sound) (still : g.moving = none) {rest : List Extent} (ordered : FreeListWf rest)
    (less : ∀ x, Covered rest x → Covered g.free x) : ({ g with free := rest } : Gst).Sound where
  length := sound.length
  ordered := ordered
  sizes := sound.sizes
  freeWithin covered := sound.freeWithin (less _ covered)
  heldWithin := sound.heldWithin
  heldNotFree held covered := sound.heldNotFree held (less _ covered)
  heldOnce := sound.heldOnce
  move := by
    refine Gst.moveWf_iff.mpr ((Gst.moveWf_iff.mp sound.move).imp_right ?_)
    rintro ⟨_, _, _, who, _⟩
    exact absurd (still.symm.trans who) nofun

/-- R50: a bitmap is stored. -/
theorem State.defineGlyph_sound (sound : s.gst.Sound) (still : s.gst.moving = none) (width height : Nat)
    {bitmap : List Byte} (bytes : 0 < bitmap.length) : (s.defineGlyph id width height bitmap).gst.Sound := by
  have pos : 0 < granules bitmap.length := by rw [granules_eq]; omega
  cases fits : firstFit (granules bitmap.length) s.gst.free with
  | none => simpa only [State.defineGlyph, fits] using sound
  | some found =>
    obtain ⟨base, rest⟩ := found
    rw [State.defineGlyph_eq fits]
    by_cases less : id < 64
    · exact sound.defined less still (e := ⟨.defined, width, height, bitmap.length, base, 0⟩) nofun bytes fits
    · obtain ⟨-, restWf, -, restCovers, -⟩ := firstFit_spec pos sound.ordered fits
      have outside : s.gst.entries.length ≤ id := by rw [sound.length]; omega
      have empty : (s.gst.entry id).state = .empty := by
        rw [Gst.entry, List.getD_eq_default _ _ outside]
        rfl
      have kept : s.gst.setEntry id ⟨.defined, width, height, bitmap.length, base, 0⟩ = s.gst := by
        rw [Gst.setEntry, List.set_eq_of_length_le outside]
      rw [kept, if_pos empty]
      exact sound.shrunk still restWf fun x covered => ((restCovers x).mp covered).1

/-- R53: a glyph is released or doomed. -/
theorem State.commitDelete_sound (sound : s.gst.Sound) : s.commitDelete.1.gst.Sound := by
  cases state : (s.gst.entry (glyphId s.csq.block)).state with
  | empty => simpa only [State.commitDelete, state] using sound
  | doomed => simpa only [State.commitDelete, state] using sound
  | defined =>
    have used : (s.gst.entry (glyphId s.csq.block)).state ≠ .empty := by rw [state]; nofun
    have less : glyphId s.csq.block < 64 := by
      by_contra outside
      refine used ?_
      rw [Gst.entry, List.getD_eq_default _ _ (by rw [sound.length]; omega)]
      rfl
    simp only [State.commitDelete, state]
    split
    · exact sound.release less used
    · exact sound.doomed less used

theorem State.storePlacement_sound (sound : s.gst.Sound) (p : Placement) : (s.storePlacement p).gst.Sound := by
  rw [State.storePlacement]
  split
  · exact sound.addReferences _
  · exact sound

theorem State.dealFirst_sound (sound : s.gst.Sound) (torn : List Byte) : (s.dealFirst torn).gst.Sound :=
  State.finishMove_sound (by simpa using sound)

theorem State.portReset_sound (sound : s.gst.Sound) (i : Inputs) : (s.portReset i).gst.Sound := by
  simpa [State.portReset] using (State.dealFirst_sound sound i.torn).portReset

theorem State.outOfService_sound (sound : s.gst.Sound) (service : Service) : (s.outOfService service).gst.Sound :=
  (State.finishMove_sound (s := s.renderBand) (by simpa using sound)).still

theorem State.powerUpNow_sound (sound : s.gst.Sound) (kind : Nat) (p : PowerUp) : (s.powerUpNow kind p).gst.Sound := by
  rw [State.powerUpNow]
  split
  · simpa [State.powerUp] using Gst.wf_iff.mp reset_gstWf
  · exact State.outOfService_sound sound _

/-- R51: a DEFINE GLYPH at its second act has a bitmap, and no move is in hand. -/
theorem State.WorkWf.defines (h : s.WorkWf) (due : s.inHand 0x31 .finish = true) :
    s.gst.moving = none ∧ 0 < s.csq.body.length := by
  obtain ⟨moving, payload, -⟩ := h
  obtain ⟨-, stage, block⟩ := State.inHand_iff.1 due
  obtain ⟨counted, -⟩ := payload block
  have long := counted stage
  refine ⟨by_contra fun busy => ?_, ?_⟩
  · exact absurd (stage.symm.trans (moving busy)) nofun
  · rw [Csq.body, List.length_take]
    omega

/-- R44 to R58: whatever the row, the glyph store is in order after it. -/
theorem rowEffect_sound (i : Instr) (s : State) (work : s.WorkWf) (h : s.gst.Sound) : (rowEffect i s).gst.Sound := by
  let P (s : State) : Prop := s.gst.Sound
  have k : KeptByEngine P := sound_kept
  have ended (u : State) (e : Ending) (hu : P u) : P (u.finish e) := k.same hu (by simp) (by simp) (by simp)
  cases other : hasOwnStores i with
  | false => exact k.rowEffect i s other h
  | true =>
    cases i <;> simp only [hasOwnStores, Bool.false_eq_true] at other <;> simp only [rowEffect]
    case defineGlyph =>
      refine State.served_elim P h fun _ => State.withPayload_elim P h (fun _ _ => ended _ _ h)
        (fun _ _ => k.same h (by simp) (by simp) (by simp)) fun due _ _ => k.completeAfter ?_
      obtain ⟨still, bytes⟩ := work.defines due
      exact State.defineGlyph_sound h still _ _ bytes
    case deleteGlyph =>
      exact State.served_elim P h fun _ => State.plain_elim P h (fun _ _ => ended _ _ h)
        fun _ _ _ => k.completeAfter (State.commitDelete_sound h)
    case compactGlyphs =>
      exact State.served_elim P h fun _ => State.plain_elim P h (fun _ _ => ended _ _ h)
        fun _ _ _ => k.conclude (k.same h rfl rfl rfl)
    case glyphMove =>
      exact State.served_elim P h fun _ => State.moveEnds_elim P (fun _ => h) (fun _ => k.conclude h)
        fun _ _ _ moves => k.conclude (State.moveGlyph_sound h moves)
    case openLabel | closeLabel =>
      exact State.served_elim P h fun _ => State.plain_elim P h (fun _ _ => ended _ _ h)
        fun _ _ _ => k.completeAfter (by simpa [P] using h)
    case placeGlyph | placeRule =>
      exact State.served_elim P h fun _ => State.plain_elim P h (fun _ _ => ended _ _ h)
        fun _ _ _ => k.completeAfter (State.storePlacement_sound h _)
    case placeText | placeImage =>
      exact State.served_elim P h fun _ => State.withPayload_elim P h (fun _ _ => ended _ _ h)
        (fun _ _ => k.same h (by simp) (by simp) (by simp))
        fun _ _ _ => k.completeAfter (State.storePlacement_sound h _)
    case portReset value inputs => exact State.served_elim P h fun _ => State.portReset_sound h _
    case pinReset | powerOnReset => exact State.powerUpNow_sound h _ _
    case resetInputHeld => exact State.outOfService_sound h _

end Sys2Proof.Machine

end

section
/-! The motion in hand and the stop in progress (R33, R120): what leaves them alone. -/

namespace Sys2Proof.Machine

variable {s t u v : State}

/-- R33, R120: the motion in hand, and what has ordered a stop. -/
def Fmu.hand (f : Fmu) : Option FreeMotion × Option StopWhy := (f.motion, f.why)

/-- Position, speed, mode and target are no part of it. -/
@[simp] theorem Fmu.hand_mk (f : Fmu) (pos : Pos) (speed : Nat) (backward : Bool) (mode : Mode) (target : Option Pos)
    (stop : Option StopKind) (move : Move) (rest : Rest) (underrun : Option Copy) (present : Present) (offset : Nat)
    (energised settling : Bool) (idleTimer : Timer) :
    Fmu.hand ⟨pos, speed, backward, mode, target, stop, f.why, move, f.motion, rest, underrun, present, offset, energised,
      settling, idleTimer⟩ = f.hand := rfl

@[simp] theorem State.vacate_hand (s : State) (slot : Nat) (l : Label) :
    (s.vacate slot l).fmu.hand = s.fmu.hand := by
  simp only [State.vacate]
  (repeat' split) <;> simp

@[simp] theorem State.removeLabel_hand (s : State) (slot : Nat) (report : Option Event) :
    (s.removeLabel slot report).fmu.hand = s.fmu.hand := by
  simp only [State.removeLabel]
  (repeat' split) <;> simp

@[simp] theorem State.reportIdleQueue_hand (s : State) (before : Lbq) :
    (s.reportIdleQueue before).fmu.hand = s.fmu.hand := by
  simp only [State.reportIdleQueue]
  (repeat' split) <;> simp

@[simp] theorem State.copyDone_hand (s : State) (slot : Nat) :
    (s.copyDone slot).fmu.hand = s.fmu.hand := by
  simp only [State.copyDone]
  (repeat' split) <;> simp

@[simp] theorem State.beginCopy_hand (s : State) (c : Copy) :
    (s.beginCopy c).fmu.hand = s.fmu.hand := rfl

@[simp] theorem State.countLine_hand (s : State) :
    s.countLine.fmu.hand = s.fmu.hand := rfl

@[simp] theorem State.strobeLine_hand (s : State) (i : Nat) (l : Line) (d : Nat) :
    (s.strobeLine i l d).fmu.hand = s.fmu.hand := rfl

@[simp] theorem State.prepareTop_hand (s : State) (top : Pos) (length : Nat) :
    (s.prepareTop top length).fmu.hand = s.fmu.hand := rfl

@[simp] theorem State.passLine_hand (s : State) (l : LabelLine) :
    (s.passLine l).fmu.hand = s.fmu.hand := by
  simp only [State.passLine]
  (repeat' split) <;> simp

@[simp] theorem State.discardInterrupted_hand (s : State) (slot : Nat) :
    (s.discardInterrupted slot).fmu.hand = s.fmu.hand := by
  simp only [State.discardInterrupted]
  (repeat' split) <;> simp

@[simp] theorem State.enterRecovery_hand (s : State) (d : Bool) :
    (s.enterRecovery d).fmu.hand = s.fmu.hand := by
  simp only [State.enterRecovery]
  (repeat' split) <;> simp

@[simp] theorem State.cancelTargets_hand (s : State) (immediate : Bool) (targets : List Nat) :
    (s.cancelTargets immediate targets).fmu.hand = s.fmu.hand := by
  simp [Fmu.hand]

@[simp] theorem State.cutShort_hand (s : State) :
    s.cutShort.fmu.hand = s.fmu.hand := by
  simp only [State.cutShort]
  (repeat' split) <;> simp

@[simp] theorem State.unregister_hand (s : State) :
    s.unregister.fmu.hand = s.fmu.hand := rfl

@[simp] theorem State.emptyEdges_hand (s : State) :
    s.emptyEdges.fmu.hand = s.fmu.hand := rfl

@[simp] theorem State.registerAt_hand (s : State) (top : Pos) :
    (s.registerAt top).fmu.hand = s.fmu.hand := rfl

@[simp] theorem State.spoil_hand (s : State) :
    s.spoil.fmu.hand = s.fmu.hand := by
  simp only [State.spoil]
  (repeat' split) <;> simp

@[simp] theorem State.recordHalt_hand (s : State) (cs : List Cause) (p : Cause) :
    (s.recordHalt cs p).fmu.hand = s.fmu.hand := by
  simp [State.recordHalt]

@[simp] theorem State.reseat_hand (s : State) :
    s.reseat.fmu.hand = s.fmu.hand := rfl

@[simp] theorem State.countEdges_hand (s : State) :
    s.countEdges.fmu.hand = s.fmu.hand := by
  simp only [State.countEdges]
  (repeat' split) <;> simp

@[simp] theorem State.beginFind_hand (s : State) (n : Nat) :
    (s.beginFind n).fmu.hand = s.fmu.hand := by
  simp [State.beginFind]

@[simp] theorem State.takeFind_hand (s : State) :
    s.takeFind.fmu.hand = s.fmu.hand := by
  simp [State.takeFind]

@[simp] theorem State.takeCalibration_hand (s : State) :
    s.takeCalibration.fmu.hand = s.fmu.hand := by
  simp only [State.takeCalibration]
  (repeat' split) <;> simp

@[simp] theorem State.runOn_hand (s : State) :
    s.runOn.fmu.hand = s.fmu.hand := by
  simp only [State.runOn]
  (repeat' split) <;> simp

@[simp] theorem State.beginRun_hand (s : State) :
    s.beginRun.fmu.hand = s.fmu.hand := by
  simp only [State.beginRun]
  (repeat' split) <;> simp

@[simp] theorem State.restReason_hand (s : State) :
    s.restReason.fmu.hand = s.fmu.hand := by
  simp only [State.restReason]
  (repeat' split) <;> simp

@[simp] theorem State.reportUnderrun_hand (s : State) :
    s.reportUnderrun.fmu.hand = s.fmu.hand := by
  simp only [State.reportUnderrun]
  (repeat' split) <;> simp

@[simp] theorem State.endOfRunStep_hand (s : State) (m : MoveEnd) :
    (s.endOfRunStep m).fmu.hand = s.fmu.hand := by
  simp only [State.endOfRunStep]
  (repeat' split) <;> simp

@[simp] theorem State.startRun_hand (s : State) :
    s.startRun.fmu.hand = s.fmu.hand := by
  simp only [State.startRun]
  (repeat' split) <;> simp

@[simp] theorem State.atPrintLine_hand (s : State) :
    s.atPrintLine.fmu.hand = s.fmu.hand := by
  simp [State.atPrintLine]

@[simp] theorem State.claim_hand (s : State) :
    s.claim.fmu.hand = s.fmu.hand := by
  simp only [State.claim]
  (repeat' split) <;> simp

@[simp] theorem State.idleSampling_hand (s : State) :
    s.idleSampling.fmu.hand = s.fmu.hand := by
  simp only [State.idleSampling]
  (repeat' split) <;> simp

@[simp] theorem State.energise_hand (s : State) :
    s.energise.fmu.hand = s.fmu.hand := by
  simp only [State.energise]
  (repeat' split) <;> simp

@[simp] theorem State.findStep_hand (s : State) :
    s.findStep.1.fmu.hand = s.fmu.hand := by
  simp only [State.findStep]
  (repeat' split) <;> simp

@[simp] theorem State.measured_hand (s : State) (c : Calib) (a b d : Pos) :
    (s.measured c a b d).1.fmu.hand = s.fmu.hand := by
  simp only [State.measured]
  (repeat' split) <;> simp

@[simp] theorem State.measureStep_hand (s : State) (c : Calib) (ch : Option ClassChange) :
    (s.measureStep c ch).1.fmu.hand = s.fmu.hand := by
  simp only [State.measureStep]
  (repeat' split) <;> simp

@[simp] theorem State.calibStep_hand (s : State) (level : Byte) (ch : Option ClassChange) :
    (s.calibStep level ch).1.fmu.hand = s.fmu.hand := by
  simp only [State.calibStep]
  (repeat' split) <;> simp

@[simp] theorem State.searchStep_hand (s : State) (level : Byte) (ch : Option ClassChange) :
    (s.searchStep level ch).1.fmu.hand = s.fmu.hand := by
  simp only [State.searchStep]
  (repeat' split) <;> simp

@[simp] theorem State.loseRegistration_hand (s : State) :
    s.loseRegistration.fmu.hand = s.fmu.hand := by
  simp [State.loseRegistration]

@[simp] theorem State.decide4_hand (s : State) (under : Bool) (level : Byte) (ch : Option ClassChange) :
    (s.decide4 under level ch).state.fmu.hand = s.fmu.hand := by
  simp only [State.decide4]
  (repeat' split) <;> simp

@[simp] theorem State.lineParts12_hand (s : State) :
    s.lineParts12.fmu.hand = s.fmu.hand := by
  have stepped (u : State) (v : Nat) : (u.stepForward v).fmu.hand = u.fmu.hand := rfl
  simp only [State.lineParts12]
  (repeat' split) <;> simp [stepped]

@[simp] theorem State.releaseHold_hand (s : State) :
    s.releaseHold.fmu.hand = s.fmu.hand := by
  simp only [State.releaseHold]
  (repeat' split) <;> simp

@[simp] theorem State.mediaOut_hand (s : State) (attr : Byte) :
    (s.mediaOut attr).fmu.hand = s.fmu.hand := by
  simp [State.mediaOut]

end Sys2Proof.Machine

end

section
/-! The work that the port and the sequencer have in hand (R28, R30, R31, R36): a glyph move, the payload of a DEFINE GLYPH,
the wait timer, an attached motion and a Break's stop belong to the command at work on them, in every step. -/

namespace Sys2Proof.Machine

variable {s t u v : State} {id : Nat}

/-! ### What the engine frees -/

/-- Nothing in hand belongs to a command. -/
structure State.Unbound (s : State) : Prop where
  moving : s.gst.moving = none
  motion : ∀ code, s.fmu.motion ≠ some ⟨code, .attached⟩
  why : s.fmu.why ≠ some .breakRequest

/-- What is in hand after an operation was in hand before it. -/
structure State.Frees (s t : State) : Prop where
  moving : t.gst.moving ≠ none → s.gst.moving ≠ none
  motion : ∀ code, t.fmu.motion = some ⟨code, .attached⟩ → s.fmu.motion = some ⟨code, .attached⟩
  why : t.fmu.why = some .breakRequest → s.fmu.why = some .breakRequest

theorem State.Frees.refl (s : State) : s.Frees s := ⟨fun h => h, fun _ h => h, fun h => h⟩

theorem State.Frees.trans (h : s.Frees t) (k : t.Frees u) : s.Frees u :=
  ⟨fun m => h.moving (k.moving m), fun c m => h.motion c (k.motion c m), fun w => h.why (k.why w)⟩

theorem Fmu.hand_eq {f g : Fmu} (hand : g.hand = f.hand) : g.motion = f.motion ∧ g.why = f.why := Prod.mk.inj hand

theorem State.Frees.of_hand (gst : t.gst = s.gst) (hand : t.fmu.hand = s.fmu.hand) : s.Frees t := by
  obtain ⟨motion, why⟩ := Fmu.hand_eq hand
  exact ⟨by rw [gst]; exact fun h => h, fun _ => by rw [motion]; exact fun h => h, by rw [why]; exact fun h => h⟩

/-- A stop that nobody's Break has ordered. -/
theorem State.Frees.of_why (gst : t.gst = s.gst) (motion : t.fmu.motion = s.fmu.motion)
    (why : t.fmu.why ≠ some .breakRequest) : s.Frees t :=
  ⟨by rw [gst]; exact fun h => h, fun _ => by rw [motion]; exact fun h => h, fun h => absurd h why⟩

/-- A motion that is over. -/
theorem State.Frees.of_none (gst : t.gst = s.gst) (motion : t.fmu.motion = none) (why : t.fmu.why = s.fmu.why) :
    s.Frees t :=
  ⟨by rw [gst]; exact fun h => h, fun _ => by rw [motion]; nofun, by rw [why]; exact fun h => h⟩

theorem State.Unbound.frees (h : s.Unbound) (k : s.Frees t) : t.Unbound where
  moving := by_contra fun m => k.moving m h.moving
  motion code m := h.motion code (k.motion code m)
  why w := h.why (k.why w)

theorem State.toStopped_frees (s : State) : s.Frees s.toStopped := .of_why rfl rfl nofun

theorem State.autoPresent_frees (s : State) : s.Frees s.autoPresent := by
  rw [State.autoPresent_eq]
  split
  · split
    · exact .of_hand rfl rfl
    · exact ⟨fun h => h, fun _ h => absurd h (by simp), fun h => h⟩
  · exact .refl s

theorem State.endRun_frees (s : State) : s.Frees s.endRun :=
  State.Frees.trans (t := s.runDone) (.of_why rfl rfl nofun) (State.autoPresent_frees s.runDone)

theorem State.actOnRest_frees (s : State) : s.Frees s.actOnRest := by
  rw [State.actOnRest]
  split
  · exact .refl s
  · exact .refl s
  · exact s.toStopped_frees.trans (.of_hand rfl rfl)
  · exact s.endRun_frees
  · split
    · exact .of_hand (by simp) (by simp)
    · exact s.endRun_frees

theorem State.weighRest_frees (s : State) : s.Frees s.weighRest := by
  rw [State.weighRest]
  split
  · exact (State.Frees.of_hand (by simp) (by simp)).trans (State.actOnRest_frees _)
  · exact .refl s

theorem State.reviewRun_frees (s : State) : s.Frees s.reviewRun := s.weighRest_frees.trans (State.weighRest_frees _)

theorem State.leavePause_frees (s : State) : s.Frees s.leavePause := by
  rw [State.leavePause]
  split
  · exact .of_hand rfl rfl
  · exact .refl s

/-- R84 to R142: the engine's part of what follows. -/
theorem State.engineFollows_frees (s : State) : s.Frees s.engineFollows := by
  have claimed : s.Frees s.claim := .of_hand (by simp) (by simp)
  have reviewed := (claimed.trans (State.reviewRun_frees _)).trans (State.leavePause_frees _)
  have started : s.Frees s.claim.reviewRun.leavePause.startRun := reviewed.trans (.of_hand (by simp) (by simp))
  exact (started.trans (State.reviewRun_frees _)).trans (.of_hand (by simp) (by simp))

theorem State.conclude_frees (waits : s.csq.stage ≠ .waiting) (compacts : s.csq.stage ≠ .compacting) :
    s.Frees s.conclude := by
  rw [State.conclude_engine waits compacts]
  exact s.engineFollows_frees

theorem State.enterHold_frees (s : State) : s.Frees s.enterHold := by
  rw [State.enterHold]
  split
  · exact .of_hand (by simp) (by simp)
  split
  · exact .of_why (by simp) (by simpa using (Fmu.hand_eq s.cutShort_hand).1) (by simp)
  · exact .of_why (by simp) (by simp) (by simp)

theorem State.addCause_frees (s : State) (c : Cause) : s.Frees (s.addCause c) := by
  rw [State.addCause]
  split
  · exact .of_why rfl rfl nofun
  · exact .of_hand rfl rfl

/-- R148: a recovered engine has no Break's stop. -/
theorem State.recoveredEngine_frees (s : State) :
    s.Frees s.recoveredEngine ∧ s.recoveredEngine.fmu.why ≠ some .breakRequest := by
  have from_ {u : State} (k : s.toStopped.Frees u) : s.Frees u ∧ u.fmu.why ≠ some .breakRequest :=
    ⟨s.toStopped_frees.trans k, fun w => nomatch (k.why w)⟩
  rw [State.recoveredEngine]
  split
  · exact from_ (.of_hand rfl rfl)
  · have begun : s.toStopped.Frees ({ s.toStopped with eng := { s.toStopped.eng with cond := .running } } : State).beginRun :=
      .of_hand (by simp) (by simp)
    simp only
    split
    · exact from_ (begun.trans (State.enterHold_frees _))
    · exact from_ (begun.trans (State.reviewRun_frees _))

/-! ### The work in hand, through an operation -/

theorem State.WorkWf.frees (h : s.WorkWf) (k : s.Frees t) (hpu : t.hpu = s.hpu) (csq : t.csq = s.csq) : t.WorkWf := by
  obtain ⟨moving, payload, timer, motion, why⟩ := h
  rw [State.WorkWf, hpu, csq]
  exact ⟨fun m => moving (k.moving m), payload, timer, fun c m => motion c (k.motion c m), fun w => why (k.why w)⟩

theorem State.WorkWf.of_hand (h : s.WorkWf) (gst : t.gst = s.gst) (hand : t.fmu.hand = s.fmu.hand) (hpu : t.hpu = s.hpu)
    (csq : t.csq = s.csq) : t.WorkWf := h.frees (.of_hand gst hand) hpu csq

/-- A command that is not at work on a motion has nothing in hand. -/
theorem State.WorkWf.unbound (h : s.WorkWf) (idle : s.gst.moving = none) (still : s.csq.stage ≠ .moving) : s.Unbound := by
  obtain ⟨-, -, -, motion, why⟩ := h
  exact ⟨idle, fun c m => still (motion c m), fun w => still (why w)⟩

theorem State.WorkWf.unbound_of_stage (h : s.WorkWf) (compacts : s.csq.stage ≠ .compacting)
    (still : s.csq.stage ≠ .moving) : s.Unbound :=
  h.unbound (by_contra fun busy => compacts (h.1 busy)) still

theorem State.complete_workWf (h : s.Unbound) (keep : Bool) (e : Ending) : (s.complete keep e).WorkWf :=
  ⟨fun m => absurd h.moving m, by simp [State.complete], by simp [State.complete], fun c m => absurd m (h.motion c),
    fun w => absurd w h.why⟩

/-- R23: a command that ends with nothing in hand. -/
theorem State.finish_workWf (h : s.Unbound) (e : Ending) : (s.finish e).WorkWf := State.complete_workWf h _ e

/-- R33, R34: a motion ends, and with it the command that is at work on it. -/
theorem State.endMotion_workWf (h : s.WorkWf) (why : s.fmu.why ≠ some .breakRequest) (e : Ending) :
    (s.endMotion e).WorkWf := by
  obtain ⟨moving, payload, timer, motion, -⟩ := id h
  cases m : s.fmu.motion with
  | none =>
    simp only [State.endMotion, m]
    exact h.frees (.of_why rfl m.symm why) rfl rfl
  | some f =>
    obtain ⟨code, owner⟩ := f
    have over_ : s.Frees { s with fmu := { s.fmu with motion := none } } := .of_none rfl rfl rfl
    cases owner with
    | attached =>
      have stage := motion code m
      have idle : s.gst.moving = none := by_contra fun busy => absurd (stage.symm.trans (moving busy)) nofun
      obtain ⟨u, is⟩ : ∃ u : State, { s with fmu := { s.fmu with motion := none } } = u := ⟨_, rfl⟩
      have free : u.Unbound := ⟨by rw [← is, idle], fun _ => by simp [← is], by rw [← is]; exact why⟩
      have ends : s.endMotion e = u.finish e := by simp only [State.endMotion, m, is]
      rw [ends]
      exact State.finish_workWf free e
    | detached =>
      simp only [State.endMotion, m]
      exact (h.frees over_ rfl rfl).of_hand (by simp) (by simp) (by simp) (by simp)
    | engine =>
      simp only [State.endMotion, m]
      exact h.frees over_ rfl rfl

theorem State.toStopped_workWf (h : s.WorkWf) : s.toStopped.WorkWf := h.frees s.toStopped_frees rfl rfl

/-- A motion whose motor stands still ends. -/
theorem State.stoppedMotion_workWf (h : s.WorkWf) (gst : t.gst = s.gst) (hpu : t.hpu = s.hpu) (csq : t.csq = s.csq)
    (motion : t.fmu.motion = s.fmu.motion) (why : t.fmu.why = none) (e : Ending) : (t.endMotion e).WorkWf := by
  have calm : t.fmu.why ≠ some .breakRequest := by rw [why]; nofun
  exact State.endMotion_workWf (h.frees (.of_why gst motion calm) hpu csq) calm e

theorem State.cutShort_motion (s : State) : s.cutShort.fmu.motion = s.fmu.motion := (Fmu.hand_eq s.cutShort_hand).1

theorem State.failFreeMove_workWf (h : s.WorkWf) (code : SenseCode) : (s.failFreeMove code).WorkWf :=
  State.stoppedMotion_workWf h (by simp) (by simp) (by simp) (by simpa using s.cutShort_motion) rfl _

theorem State.abortFreeMove_workWf (h : s.WorkWf) : s.abortFreeMove.WorkWf :=
  State.stoppedMotion_workWf h (by simp) (by simp) (by simp) (by simpa using s.cutShort_motion) rfl _

theorem State.failSearch_workWf (h : s.WorkWf) : s.failSearch.WorkWf :=
  State.stoppedMotion_workWf h (by simp) (by simp) (by simp) (by simpa using s.cutShort_motion) rfl _

theorem State.endFreeMove_workWf (h : s.WorkWf) : s.endFreeMove.WorkWf :=
  State.stoppedMotion_workWf (t := s.toStopped) h rfl rfl rfl rfl rfl _

theorem State.stopForMediaOut_workWf (h : s.WorkWf) : s.stopForMediaOut.WorkWf := by
  rw [State.stopForMediaOut]
  split
  · exact h
  split
  · exact State.failFreeMove_workWf h _
  · exact h.frees (.of_why (by simp) (by simp) (by simp)) (by simp) (by simp)

/-- R144: a halt leaves no Break's stop. -/
theorem State.stopForHalt_hand (s : State) (cs : List Cause) : (s.stopForHalt cs).fmu.motion = s.fmu.motion ∧
    (s.stopForHalt cs).fmu.why ≠ some .breakRequest := by
  rw [State.stopForHalt_eq]
  simp only
  split
  · exact ⟨rfl, nofun⟩
  · split <;> exact ⟨rfl, nofun⟩

theorem State.haltRecorded_hand (s : State) (cs : List Cause) :
    (s.haltRecorded cs).fmu.hand = (s.stopForHalt cs).fmu.hand := by simp

/-- R145: after its record a halt ends the motion in hand. -/
theorem State.halt_ended (s : State) (cs : List Cause) :
    ∃ event e, s.halt cs = ((s.haltRecorded cs).post event).endMotion e := ⟨_, _, rfl⟩

theorem State.halt_workWf (h : s.WorkWf) (cs : List Cause) : (s.halt cs).WorkWf := by
  obtain ⟨motion, calm⟩ := s.stopForHalt_hand cs
  have stopped : (s.stopForHalt cs).WorkWf := h.frees (.of_why (by simp) motion calm) (by simp) (by simp)
  obtain ⟨-, why⟩ := Fmu.hand_eq (s.haltRecorded_hand cs)
  obtain ⟨event, e, is⟩ := s.halt_ended cs
  rw [is]
  exact State.endMotion_workWf (stopped.of_hand (by simp) (by simp) (by simp) (by simp)) (by simpa [why] using calm) _

/-- R145: nor a motion. -/
theorem State.halt_hand (s : State) (cs : List Cause) :
    (s.halt cs).fmu.motion = none ∧ (s.halt cs).fmu.why ≠ some .breakRequest := by
  obtain ⟨-, calm⟩ := s.stopForHalt_hand cs
  obtain ⟨-, why⟩ := Fmu.hand_eq (s.haltRecorded_hand cs)
  obtain ⟨event, e, is⟩ := s.halt_ended cs
  rw [is, State.endMotion_fmu]
  exact ⟨rfl, by simpa [why] using calm⟩

theorem State.headOpens_workWf (h : s.WorkWf) : s.headOpens.WorkWf := by
  rw [State.headOpens]
  split
  · exact State.halt_workWf h _
  split
  · exact h.frees (s.addCause_frees _) (by simp) (by simp)
  split
  · exact State.failFreeMove_workWf h _
  · exact h

theorem State.mediaGone_workWf (h : s.WorkWf) : s.mediaGone.WorkWf := by
  have lost : s.unregister.WorkWf := h.of_hand rfl rfl rfl rfl
  rw [State.mediaGone]
  split
  · exact State.halt_workWf h _
  split
  · exact h.frees (s.addCause_frees _) (by simp) (by simp)
  split
  · split
    · exact lost
    · exact State.stopForMediaOut_workWf lost
  · exact h

theorem State.stopForFault_workWf (h : s.WorkWf) (absent lost : Bool) : (s.stopForFault absent lost).WorkWf := by
  rw [State.stopForFault]
  split
  · exact State.halt_workWf h _
  split
  · exact State.mediaGone_workWf h
  · exact h

/-! ### Recovery, stops and Breaks -/

theorem State.recovered_workWf (h : s.WorkWf) : s.recovered.WorkWf := by
  obtain ⟨frees, why⟩ := s.recoveredEngine_frees
  rw [State.recovered_eq]
  exact State.endMotion_workWf ((h.frees frees (by simp) (by simp)).of_hand (by simp) (by simp) (by simp) (by simp))
    (by simpa using why) _

theorem State.recoveryFind_workWf (h : s.WorkWf) : s.recoveryFind.WorkWf := by
  by_cases mode : s.nvs.profile.mode = .continuous
  · rw [State.recoveryFind_continuous mode]
    exact State.recovered_workWf (h.of_hand (by simp) (by simp) (by simp) (by simp))
  · cases reached : (s.beginFind 1).findReached with
    | true =>
      rw [State.recoveryFind_found mode reached]
      exact State.recovered_workWf (h.of_hand (by simp) (by simp) (by simp) (by simp))
    | false =>
      rw [State.recoveryFind_searches mode reached]
      exact h.of_hand (by simp) (by simp) (by simp) (by simp)

theorem State.beginRecoveryFind_workWf (h : s.WorkWf) : s.beginRecoveryFind.WorkWf := by
  rw [State.beginRecoveryFind]
  split
  · exact h
  · exact State.recoveryFind_workWf h

/-- R13: the command of a Break in a recovery ends with the engine halted. -/
theorem State.breakRecovery_workWf (idle : s.gst.moving = none) : s.breakRecovery.WorkWf := by
  obtain ⟨u, is⟩ : ∃ u : State, ({ s with fmu := { s.fmu with motion := none } } : State).toStopped = u := ⟨_, rfl⟩
  obtain ⟨motion, why⟩ := u.halt_hand [.registrationLost]
  rw [State.breakRecovery, is]
  refine State.finish_workWf ⟨?_, fun _ => by simp [motion], why⟩ _
  rw [(State.halt_keeps _ _).1, ← is]
  exact idle

theorem State.stopEnded_workWf (h : s.WorkWf) : s.stopEnded.WorkWf := by
  have stopped := State.toStopped_workWf h
  rw [State.stopEnded]
  split
  · exact stopped
  · split
    · exact stopped.of_hand (by simp) (by simp) (by simp) (by simp)
    · exact stopped
  · split
    · exact State.recoveryFind_workWf stopped
    · exact stopped
  · exact State.failFreeMove_workWf h _
  · next why =>
    split
    · refine State.breakRecovery_workWf (by_contra fun busy => ?_)
      obtain ⟨moving, -, -, -, broken⟩ := h
      exact absurd ((moving busy).symm.trans (broken why)) nofun
    · exact State.abortFreeMove_workWf h
  · exact State.failSearch_workWf h

/-- R13: a Break's stop belongs to a command at work on its motion. -/
theorem State.WorkWf.breaks (h : s.WorkWf) (stage : s.csq.stage = .moving) (gst : t.gst = s.gst) (hpu : t.hpu = s.hpu)
    (csq : t.csq = s.csq) : t.WorkWf := by
  obtain ⟨moving, payload, timer, -, -⟩ := h
  rw [State.WorkWf, gst, hpu, csq]
  exact ⟨moving, payload, timer, fun _ _ => stage, fun _ => stage⟩

theorem State.breakMotion_workWf (h : s.WorkWf) (stage : s.csq.stage = .moving) : s.breakMotion.WorkWf := by
  have idle : s.gst.moving = none := by_contra fun busy => absurd (stage.symm.trans (h.1 busy)) nofun
  rw [State.breakMotion]
  split
  · split
    · exact h.breaks stage rfl rfl rfl
    split
    · exact State.breakRecovery_workWf idle
    · exact h.breaks stage (by simp) (by simp) (by simp)
  split
  · exact h
  split
  · exact State.abortFreeMove_workWf h
  · exact h.breaks stage (by simp) (by simp) (by simp)

/-! ### The commits of the motion commands -/

/-- A motion command at its commit: in EXECUTE, with nothing in hand. -/
structure State.Commits (s : State) : Prop where
  free : s.Unbound
  execute : s.hpu.phase = .execute
  timer : s.csq.waitTimer = none

theorem State.Commits.of_eq (h : s.Commits) (frees : s.Frees t) (hpu : t.hpu = s.hpu) (csq : t.csq = s.csq) : t.Commits :=
  ⟨h.free.frees frees, by rw [hpu]; exact h.execute, by rw [csq]; exact h.timer⟩

theorem State.Commits.of_hand (h : s.Commits) (gst : t.gst = s.gst) (hand : t.fmu.hand = s.fmu.hand) (hpu : t.hpu = s.hpu)
    (csq : t.csq = s.csq) : t.Commits := h.of_eq (.of_hand gst hand) hpu csq

/-- R33, R34: an attached motion belongs to its command. -/
theorem State.accept_workWf (h : s.Commits) (code : Byte) : (s.accept code).WorkWf := by
  obtain ⟨⟨moving, -, why⟩, execute, timer⟩ := h
  cases detached : (byteAt s.csq.block 1).getLsbD 7 with
  | true =>
    rw [State.accept_detached detached]
    obtain ⟨u, is⟩ : ∃ u : State, s.moved ⟨code, .detached⟩ = u := ⟨_, rfl⟩
    rw [is]
    exact State.finish_workWf ⟨by rw [← is]; exact moving, fun _ => by simp [← is], by rw [← is]; exact why⟩ _
  | false =>
    rw [State.accept_attached detached]
    refine ⟨fun busy => absurd moving busy, fun _ => ⟨nofun, fun out => absurd (execute.symm.trans out) nofun⟩,
      fun running => absurd timer running, fun _ _ => rfl, fun _ => rfl⟩

theorem State.commitFeed_workWf (h : s.Commits) : s.commitFeed.WorkWf := by
  simp only [State.commitFeed]
  split
  · exact State.finish_workWf h.free _
  split
  · exact State.accept_workWf (h.of_hand (by simp) (by simp [State.beginMove]) (by simp) (by simp)) _
  · exact State.accept_workWf (h.of_hand (by simp) (by simp [State.beginMove]) (by simp) (by simp)) _

theorem State.commitAdvance_workWf (h : s.Commits) : s.commitAdvance.WorkWf := by
  simp only [State.commitAdvance]
  split
  · exact State.accept_workWf (h.of_hand (by simp) (by simp [State.beginMove]) (by simp) (by simp)) _
  split
  · have found : s.Frees (s.atPrintLine.unregister.beginFind (num8 s.csq.block 2)).takeFind := .of_hand (by simp) (by simp)
    exact State.finish_workWf (h.free.frees (found.trans (State.toStopped_frees _))) _
  · exact State.accept_workWf (h.of_hand (by simp) (by simp) (by simp) (by simp)) _

theorem State.commitCalibrate_workWf (h : s.Commits) : s.commitCalibrate.WorkWf := by
  have began : s.atPrintLine.unregister.emptyEdges.Commits := h.of_hand (by simp) (by simp) (by simp) (by simp)
  refine State.accept_workWf ?_ 0x53
  exact began.of_hand rfl rfl rfl rfl

theorem State.commitPresent_workWf (h : s.Commits) : s.commitPresent.WorkWf := by
  simp only [State.commitPresent]
  split
  · exact State.finish_workWf h.free _
  split
  · exact State.finish_workWf (h.of_hand rfl rfl rfl rfl).free _
  · exact State.accept_workWf (h.of_hand (by simp) (by simp [State.beginMove]) (by simp) (by simp)) _

theorem State.commitRetract_workWf (h : s.Commits) : s.commitRetract.WorkWf := by
  simp only [State.commitRetract]
  split
  · exact State.finish_workWf h.free _
  split
  · exact State.finish_workWf (h.of_hand (by simp) (by simp) (by simp) (by simp)).free _
  · exact State.accept_workWf (h.of_hand (by simp) (by simp [State.beginMove]) (by simp) (by simp)) _

/-- R60: a removal begins no move. -/
theorem State.dropReferences_moving (s : State) (number : Half) (uses : List Nat) :
    (s.dropReferences number uses).gst.moving ≠ none → s.gst.moving ≠ none := by
  have each : ∀ (l : List Nat) (s : State), (l.foldl (State.dropReference number uses) s).gst.moving ≠ none →
      s.gst.moving ≠ none := by
    intro l
    induction l with
    | nil => exact fun _ h => h
    | cons a l ih =>
      intro s busy
      have after := ih _ busy
      rw [(s.dropReference_moving number uses a).2] at after
      split at after
      · exact absurd rfl after
      · exact after
  exact each _ s

theorem State.vacate_frees (s : State) (slot : Nat) (l : Label) : s.Frees (s.vacate slot l) := by
  obtain ⟨motion, why⟩ := Fmu.hand_eq (s.vacate_hand slot l)
  exact ⟨s.dropReferences_moving l.number l.uses, fun _ => by rw [motion]; exact fun h => h, by rw [why]; exact fun h => h⟩

theorem State.removeLabel_frees (s : State) (slot : Nat) (report : Option Event) : s.Frees (s.removeLabel slot report) := by
  simp only [State.removeLabel]
  split
  · exact .refl s
  · cases report with
    | none => exact s.vacate_frees _ _
    | some e => exact (State.Frees.of_hand (t := s.post e) (by simp) (by simp)).trans (State.vacate_frees _ _ _)

theorem State.reportIdleQueue_frees (s : State) (before : Lbq) : s.Frees (s.reportIdleQueue before) :=
  .of_hand (by simp) (by simp)

theorem State.cancelTargets_frees (s : State) (immediate : Bool) (targets : List Nat) :
    s.Frees (s.cancelTargets immediate targets) := by
  have one (s : State) (slot : Nat) : s.Frees (State.cancelOne immediate s slot) := by
    simp only [State.cancelOne]
    split
    · exact .refl s
    split
    · exact s.removeLabel_frees _ _
    · exact .of_hand (by simp) (by simp)
    · exact .refl s
    · exact s.removeLabel_frees _ _
  have each : ∀ (l : List Nat) (s : State), s.Frees (l.foldl (State.cancelOne immediate) s) := by
    intro l
    induction l with
    | nil => exact fun s => .refl s
    | cons a l ih => exact fun s => (one s a).trans (ih _)
  refine State.Frees.trans (each targets s) (State.Frees.trans (State.Frees.of_hand ?_ ?_) (State.reportIdleQueue_frees _ _))
  · rfl
  · simp

theorem State.enterRecovery_frees (s : State) (discard : Bool) : s.Frees (s.enterRecovery discard) := by
  have discarded (slot : Nat) : s.Frees (s.discardInterrupted slot) := by
    simp only [State.discardInterrupted]
    split
    · exact .refl s
    · next l _ =>
      refine (s.removeLabel_frees slot (some (cancelled l 3))).trans ?_
      exact State.Frees.trans (.of_hand (by simp) (by simp)) (State.reportIdleQueue_frees _ _)
  simp only [State.enterRecovery]
  split
  · split
    · exact (discarded _).trans (.of_hand rfl rfl)
    · exact .of_hand rfl rfl
  · exact .of_hand rfl rfl

theorem State.commitResume_workWf (h : s.Commits) : s.commitResume.WorkWf := by
  rw [State.commitResume]
  split
  · exact State.beginRecoveryFind_workWf (State.accept_workWf (h.of_eq (s.enterRecovery_frees _) (by simp) (by simp)) _)
  · exact State.finish_workWf h.free _

theorem State.commitMotion_workWf (h : s.Commits) : s.commitMotion.WorkWf := by
  rw [State.commitMotion]
  split
  · exact State.commitFeed_workWf h
  · exact State.commitAdvance_workWf h
  · exact State.commitCalibrate_workWf h
  · exact State.commitPresent_workWf h
  · exact State.commitRetract_workWf h
  · exact State.commitResume_workWf h

/-! ### What follows in the same step -/

theorem State.endWait_workWf (h : s.WorkWf) (port : s.PortWf) : s.endWait.WorkWf := by
  rw [State.endWait]
  split
  · next waits =>
    have free := h.unbound_of_stage (by rw [waits.1]; nofun) (by rw [waits.1]; nofun)
    have execute : s.hpu.phase = .execute := port.executes (by simp [waits.1]) (by simp [waits.1])
    have commits : s.waited.Commits := ⟨⟨free.moving, free.motion, free.why⟩, execute, rfl⟩
    exact State.act_elim _ (fun e => State.finish_workWf commits.free e) fun _ _ => State.commitMotion_workWf commits
  · exact h

theorem State.compactOn_workWf (h : s.WorkWf) : s.compactOn.WorkWf := by
  rw [State.compactOn]
  split
  · next at_ =>
    have free := h.unbound at_.2 (by rw [at_.1]; nofun)
    split
    · exact State.finish_workWf free _
    split
    · exact State.finish_workWf free _
    split
    · obtain ⟨-, payload, timer, motion, why⟩ := h
      exact ⟨fun _ => at_.1, payload, timer, motion, why⟩
    · exact h
  · exact h

theorem State.conclude_workWf (h : s.WorkWf) (port : s.PortWf) : s.conclude.WorkWf := by
  have compacted := State.compactOn_workWf (State.endWait_workWf h port)
  have follows : s.conclude = s.endWait.compactOn.engineFollows := rfl
  rw [follows]
  exact compacted.frees (State.engineFollows_frees _) (by simp) (by simp)

/-- R24: a command that completes with the step that it makes. -/
theorem State.completeAfter_workWf (h : s.WorkWf) {effect : State → State × Ending} (compacts : s.csq.stage ≠ .compacting)
    (waits : s.csq.stage ≠ .waiting) (still : s.csq.stage ≠ .moving) (frees : s.Frees (effect s).1)
    (csq : (effect s).1.csq = s.csq) : (s.completeAfter effect).WorkWf := by
  have free := (h.unbound_of_stage compacts still).frees frees
  have concluded := free.frees (State.conclude_frees (s := (effect s).1) (by rwa [csq]) (by rwa [csq]))
  exact State.finish_workWf concluded _

end Sys2Proof.Machine

end

section
/-! The work in hand through every row (R28, R30, R31, R36), and with it the order of the glyph store. -/

namespace Sys2Proof.Machine

variable {s t u v : State} {id : Nat}

theorem State.Unbound.of_eq (h : s.Unbound) (gst : t.gst = s.gst) (fmu : t.fmu = s.fmu) : t.Unbound :=
  h.frees (.of_hand gst (by rw [fmu]))

/-! ### Motor steps and the other steps of the engine -/

theorem State.copyDone_frees (s : State) (slot : Nat) : s.Frees (s.copyDone slot) := by
  simp only [State.copyDone]
  split
  · exact .refl s
  next l label =>
    split
    · refine State.Frees.trans (State.Frees.trans ?_ (State.removeLabel_frees _ slot none)) (State.reportIdleQueue_frees _ _)
      exact .of_hand (by simp) (by simp)
    split
    · refine State.Frees.trans (State.Frees.trans ?_ (State.removeLabel_frees _ slot _)) (State.reportIdleQueue_frees _ _)
      exact .of_hand (by simp) (by simp)
    · exact .of_hand (by simp) (by simp)

theorem State.passLine_frees (s : State) (l : LabelLine) : s.Frees (s.passLine l) := by
  simp only [State.passLine]
  split <;> split
  · exact State.Frees.trans (.of_hand (by simp) (by simp)) (State.copyDone_frees _ _)
  · exact State.Frees.trans (.of_hand (by simp) (by simp)) (State.copyDone_frees _ _)
  · exact .of_hand (by simp) (by simp)
  · exact .of_hand (by simp) (by simp)

theorem State.lineParts12_frees (s : State) : s.Frees s.lineParts12 := by
  have stepped (u : State) (v : Nat) : u.Frees (u.stepForward v) := .of_hand rfl rfl
  simp only [State.lineParts12]
  split <;> split
  · have lost : s.Frees s.unregister := .of_hand rfl rfl
    exact (lost.trans (stepped s.unregister _)).trans (State.passLine_frees _ _)
  · exact (stepped s _).trans (State.passLine_frees _ _)
  · exact .of_hand rfl rfl
  · exact .of_hand rfl rfl

theorem State.targetReached_workWf (h : s.WorkWf) : s.targetReached.WorkWf := by
  rw [State.targetReached]
  split <;> exact State.endFreeMove_workWf (h.of_hand rfl rfl rfl rfl)

theorem State.endOfFreeStep_workWf (h : s.WorkWf) (m : MoveEnd) : (s.endOfFreeStep m).WorkWf := by
  cases m with
  | found =>
    simp only [State.endOfFreeStep]
    split
    · exact State.recovered_workWf h
    · exact State.endFreeMove_workWf h
  | searchFailed =>
    simp only [State.endOfFreeStep, State.searchFails]
    split
    · exact State.failSearch_workWf h
    · exact h.frees (.of_why (by simp) (by simp) (by simp)) (by simp) (by simp)
  | calibrated => exact State.endFreeMove_workWf (h.of_hand (by simp) (by simp) (by simp) (by simp))
  | calibrationFailed e =>
    exact State.stoppedMotion_workWf h (by simp) (by simp) (by simp) (by simpa using s.cutShort_motion) rfl e
  | goesOn =>
    simp only [State.endOfFreeStep]
    split
    · exact State.targetReached_workWf h
    · exact h

theorem State.endOfStep_workWf (h : s.WorkWf) (m : MoveEnd) : (s.endOfStep m).WorkWf := by
  rw [State.endOfStep]
  split
  · exact h
  · split
    · exact State.stopEnded_workWf h
    · exact h
  · exact State.endOfFreeStep_workWf h m
  · exact h.of_hand (by simp) (by simp) (by simp) (by simp)

theorem State.lineStep_workWf (h : s.WorkWf) (port : s.PortWf) (level : Byte) : (s.lineStep level).WorkWf := by
  have passed : s.lineParts12.WorkWf := h.frees s.lineParts12_frees (by simp) (by simp)
  refine State.conclude_workWf (State.endOfStep_workWf (State.stopForFault_workWf ?_ _ _) _)
    (State.endOfStep_portWf (State.stopForFault_portWf (port.of_eq (by simp) (by simp)) _ _) _)
  exact passed.of_hand (by simp) (by simp) (by simp) (by simp)

theorem State.backAtTarget_workWf (h : s.WorkWf) : s.backAtTarget.WorkWf := by
  rw [State.backAtTarget]
  split
  · simp only
    split
    · exact h.of_hand (by simp) (by simp) (by simp) (by simp)
    · exact State.endFreeMove_workWf (h.of_hand (by simp) (by simp) (by simp) (by simp))
  all_goals exact State.endFreeMove_workWf h

theorem State.backStep_workWf (h : s.WorkWf) (port : s.PortWf) : s.backStep.WorkWf := by
  have stepped : s.stepBackward.strobeNothing.WorkWf := h.of_hand rfl rfl rfl rfl
  have stepped' : s.stepBackward.strobeNothing.PortWf := port.of_eq rfl rfl
  rw [State.backStep]
  split
  · exact State.conclude_workWf (State.backAtTarget_workWf stepped) (State.backAtTarget_portWf stepped')
  · exact State.conclude_workWf stepped stepped'

theorem State.readRequests_workWf (h : s.WorkWf) (before : Bool) : (s.readRequests before).WorkWf := by
  have posted {e : Event} : (s.post e).WorkWf := h.of_hand (by simp) (by simp) (by simp) (by simp)
  simp only [State.readRequests]
  split
  · split
    · exact State.halt_workWf posted _
    split
    · exact posted.frees (State.addCause_frees _ _) (by simp) (by simp)
    · exact posted
  split
  · exact h.frees s.enterHold_frees (by simp) (by simp)
  split
  · exact h.of_hand (by simp) (by simp) (by simp) (by simp)
  · exact h

theorem State.headChanges_workWf (h : s.WorkWf) : s.headChanges.WorkWf := by
  simp only [State.headChanges]
  split
  · exact State.headOpens_workWf (h.of_hand (by simp) (by simp) (by simp) (by simp))
  · exact h.of_hand (by simp) (by simp) (by simp) (by simp)

theorem State.idleStep_workWf (h : s.WorkWf) (level : Byte) : (s.idleStep level).WorkWf := by
  simp only [State.idleStep]
  split
  · exact State.mediaGone_workWf (h.of_hand (by simp) (by simp) (by simp) (by simp))
  · exact h.of_hand (by simp) (by simp) (by simp) (by simp)

/-! ### The rows of the host port -/

/-- In EXECUTE, before the second act of a payload command, only what is bound is looked at. -/
theorem State.workWf_executing (free : t.Unbound) (timer : t.csq.waitTimer = none) (execute : t.hpu.phase = .execute)
    (stage : t.csq.stage ≠ .finish) : t.WorkWf :=
  ⟨fun busy => absurd free.moving busy,
    fun _ => ⟨fun finish => absurd finish stage, fun out => absurd (execute.symm.trans out) nofun⟩,
    fun running => absurd timer running, fun code m => absurd m (free.motion code), fun w => absurd w free.why⟩

theorem State.WorkWf.no_timer (h : s.WorkWf) (waits : s.csq.stage ≠ .waiting) : s.csq.waitTimer = none := by
  obtain ⟨-, -, timer, -, -⟩ := h
  exact by_contra fun running => waits (timer running)

/-- In a transfer no command is past its first act. -/
theorem State.PortWf.transfers (port : s.PortWf) (phase : s.hpu.phase ≠ .execute) :
    s.csq.stage = .idle ∨ s.csq.stage = .validate := by
  by_cases idle : s.csq.stage = .idle
  · exact .inl idle
  · exact .inr ((port.1 idle).resolve_left phase).2

theorem State.WorkWf.transfers (h : s.WorkWf) (port : s.PortWf) (phase : s.hpu.phase ≠ .execute) :
    s.Unbound ∧ s.csq.waitTimer = none := by
  have at_ {x : Stage} (idle : x ≠ .idle) (validate : x ≠ .validate) : s.csq.stage ≠ x := fun is =>
    (port.transfers phase).elim (fun y => idle (is.symm.trans y)) fun y => validate (is.symm.trans y)
  exact ⟨h.unbound_of_stage (at_ nofun nofun) (at_ nofun nofun), h.no_timer (at_ nofun nofun)⟩

/-- The port's own fields outside the count of a payload. -/
theorem State.WorkWf.of_port (h : s.WorkWf) (gst : t.gst = s.gst) (fmu : t.fmu = s.fmu) (csq : t.csq = s.csq)
    (out : t.hpu.phase = .dataOut → s.hpu.phase = .dataOut ∧ t.hpu.counter = s.hpu.counter ∧ t.hpu.length = s.hpu.length) :
    t.WorkWf := by
  obtain ⟨moving, payload, timer, motion, why⟩ := h
  rw [State.WorkWf, gst, fmu, csq]
  refine ⟨moving, fun block => ⟨(payload block).1, fun phase => ?_⟩, timer, motion, why⟩
  obtain ⟨was, counter, length⟩ := out phase
  rw [counter, length]
  exact (payload block).2 was

theorem State.handOver_workWf (free : s.Unbound) (timer : s.csq.waitTimer = none) (block : List Byte) :
    (s.handOver block).WorkWf := by
  rw [State.handOver]
  obtain ⟨u, is⟩ : ∃ u : State, { s with
    hpu := { s.hpu with phase := .execute, byteTimer := none, cmd := [] }
    csq := { s.csq with block := block, payload := [], stage := .validate } } = u := ⟨_, rfl⟩
  have free' : u.Unbound := by
    rw [← is]
    exact ⟨free.moving, free.motion, free.why⟩
  rw [is]
  split
  · exact State.complete_workWf free' _ _
  split
  · exact State.finish_workWf free' _
  · exact State.workWf_executing free' (by rw [← is]; exact timer) (by rw [← is]) (by rw [← is]; nofun)

theorem State.takeCommandByte_workWf (h : s.WorkWf) (port : s.PortWf) (p : s.hpu.phase = .command) (b : Byte) :
    (s.takeCommandByte b).WorkWf := by
  obtain ⟨free, timer⟩ := h.transfers port (by rw [p]; nofun)
  simp only [State.takeCommandByte]
  split
  · refine State.handOver_workWf ?_ ?_ _
    · exact free.of_eq rfl rfl
    · exact timer
  · refine h.of_port rfl rfl rfl fun out => absurd (p.symm.trans out) nofun

/-- R9: the payload of a DEFINE GLYPH is counted as it comes. -/
theorem State.takePayloadByte_workWf (h : s.WorkWf) (port : s.PortWf) (p : s.hpu.phase = .dataOut) (b : Byte) :
    (s.takePayloadByte b).WorkWf := by
  obtain ⟨free, timer⟩ := h.transfers port (by rw [p]; nofun)
  obtain ⟨moving, payload, -, motion, why⟩ := id h
  simp only [State.takePayloadByte]
  split
  · next last =>
    refine ⟨fun busy => absurd free.moving busy, fun block => ⟨fun _ => ?_, nofun⟩, fun running => absurd timer running,
      fun code m => absurd m (free.motion code), fun w => absurd w free.why⟩
    obtain ⟨counted, long⟩ := (payload block).2 p
    simp only [List.length_append, List.length_singleton]
    omega
  · refine ⟨moving, fun block => ⟨fun finish => ?_, fun _ => ?_⟩, fun running => absurd timer running, motion, why⟩
    · exact (port.transfers (by rw [p]; nofun)).elim (fun is => absurd (finish.symm.trans is) nofun)
        fun is => absurd (finish.symm.trans is) nofun
    · obtain ⟨counted, long⟩ := (payload block).2 p
      simp only [State.raiseReq, List.length_append, List.length_singleton]
      exact ⟨by omega, long⟩

theorem State.giveResultByte_workWf (h : s.WorkWf) (port : s.PortWf) (p : s.hpu.phase = .dataIn) :
    s.giveResultByte.WorkWf := by
  obtain ⟨free, -⟩ := h.transfers port (by rw [p]; nofun)
  simp only [State.giveResultByte]
  split
  · refine State.finish_workWf ?_ _
    exact free.of_eq rfl rfl
  · exact h.of_port rfl rfl rfl fun out => absurd (p.symm.trans out) nofun

theorem State.refuseAccess_workWf (h : s.WorkWf) (kind : Byte) : (s.refuseAccess kind).WorkWf := by
  simp only [State.refuseAccess]
  split
  · exact h
  · exact h.of_port (by simp) (by simp) (by simp) fun out => by simpa using out

theorem State.refuseRead_workWf (h : s.WorkWf) : s.refuseRead.WorkWf :=
  State.refuseAccess_workWf (s := { s with hpu := { s.hpu with bus := 0xFF } })
    (h.of_port rfl rfl rfl fun out => ⟨out, rfl, rfl⟩) 3

theorem State.dataWrite_workWf (h : s.WorkWf) (port : s.PortWf) (b : Byte) : (s.dataWrite b).WorkWf := by
  cases p : s.hpu.phase with
  | command => simpa [State.dataWrite, p] using State.takeCommandByte_workWf h port p b
  | dataOut => simpa [State.dataWrite, p] using State.takePayloadByte_workWf h port p b
  | free | execute | dataIn | completion => simpa [State.dataWrite, p, State.refuseWrite] using State.refuseAccess_workWf h 2

theorem State.dataRead_workWf (h : s.WorkWf) (port : s.PortWf) : s.dataRead.WorkWf := by
  cases p : s.hpu.phase with
  | dataIn => simpa [State.dataRead, p] using State.giveResultByte_workWf h port p
  | completion =>
    simp only [State.dataRead, p]
    exact h.of_port rfl rfl rfl nofun
  | free | command | execute | dataOut => simpa [State.dataRead, p] using State.refuseRead_workWf h

end Sys2Proof.Machine

end

section
/-! The work in hand and the order of the glyph store, row by row (R28 to R58). -/

namespace Sys2Proof.Machine

variable {s t u v : State} {id : Nat}

/-! ### The rows of the host port -/

theorem State.dack_workWf (h : s.WorkWf) (port : s.PortWf) (a : Access) : (s.dack a).WorkWf := by
  cases a with
  | read =>
    cases p : s.hpu.phase with
    | dataIn => simpa [State.dack, p] using State.giveResultByte_workWf h port p
    | free | command | execute | dataOut | completion => simpa [State.dack, p] using State.refuseRead_workWf h
  | write b =>
    cases p : s.hpu.phase with
    | dataOut => simpa [State.dack, p] using State.takePayloadByte_workWf h port p b
    | free | command | execute | dataIn | completion =>
      simpa [State.dack, p, State.refuseWrite] using State.refuseAccess_workWf h 2

/-- The bus alone. -/
theorem State.WorkWf.of_bus (h : s.WorkWf) (b : Byte) : ({ s with hpu := { s.hpu with bus := b } } : State).WorkWf :=
  h.of_port rfl rfl rfl fun out => ⟨out, rfl, rfl⟩

theorem State.dataAccess_workWf (h : s.WorkWf) (port : s.PortWf) (a : Access) : (s.dataAccess a).WorkWf := by
  cases a with
  | read => exact State.servedRead_elim State.WorkWf (h.of_bus _) fun _ => State.dataRead_workWf h port
  | write b => exact State.served_elim State.WorkWf h fun _ => State.dataWrite_workWf h port b

theorem State.selectNow_workWf (h : s.WorkWf) : s.selectNow.WorkWf := by
  by_cases p : s.hpu.phase = .free
  · rw [State.selectNow_free p]
    exact h.of_port rfl rfl rfl nofun
  · rw [State.selectNow_refused p]
    exact State.refuseAccess_workWf h 1

theorem State.endEarly_workWf (free : s.Unbound) (e : Ending) : (s.endEarly e).WorkWf := by
  refine State.finish_workWf ?_ e
  exact free.of_eq rfl rfl

theorem State.breakExecute_workWf (h : s.WorkWf) : s.breakExecute.WorkWf := by
  have pended : s.pended.WorkWf := h.of_port rfl rfl rfl fun out => ⟨out, rfl, rfl⟩
  have aborts (free : s.pended.Unbound) : s.pended.abort.WorkWf := State.finish_workWf free _
  have stage : s.pended.csq.stage = s.csq.stage := rfl
  simp only [State.breakExecute]
  split
  · exact h
  split
  · next waits => exact aborts (pended.unbound_of_stage (by rw [stage, waits]; nofun) (by rw [stage, waits]; nofun))
  · next tests => exact aborts (pended.unbound_of_stage (by rw [stage, tests]; nofun) (by rw [stage, tests]; nofun))
  · next compacts =>
    split
    · next idle => exact aborts (pended.unbound (by simpa using idle) (by rw [stage, compacts]; nofun))
    · exact pended
  · next moves => exact State.breakMotion_workWf pended moves
  all_goals exact pended

theorem State.breakNow_workWf (h : s.WorkWf) (port : s.PortWf) : s.breakNow.WorkWf := by
  cases p : s.hpu.phase with
  | free | completion => simpa [State.breakNow, p] using h
  | command | dataOut | dataIn =>
    simpa [State.breakNow, p] using State.endEarly_workWf (h.transfers port (by rw [p]; nofun)).1 _
  | execute =>
    simpa [State.breakNow, p] using
      State.conclude_workWf (State.breakExecute_workWf h) (State.breakExecute_portWf port)

theorem State.timeoutNow_workWf (h : s.WorkWf) (port : s.PortWf) : s.timeoutNow.WorkWf := by
  rw [State.timeoutNow]
  split
  · next runs =>
    have transfer : s.hpu.phase ≠ .execute := fun execute => by
      rw [port.timerStopped execute] at runs
      cases runs
    exact State.endEarly_workWf (h.transfers port transfer).1 _
  · exact h

theorem State.waitExpires_workWf (h : s.WorkWf) : s.waitExpires.WorkWf := by
  rw [State.waitExpires]
  split
  · next runs =>
    obtain ⟨-, -, timer, -, -⟩ := id h
    have waits := timer (Option.isSome_iff_ne_none.mp runs)
    exact State.finish_workWf (h.unbound_of_stage (by rw [waits]; nofun) (by rw [waits]; nofun)) _
  · exact h

theorem State.readEvent_workWf (h : s.WorkWf) : s.readEvent.WorkWf := by
  cases q : s.eng.events with
  | nil =>
    simp only [State.readEvent, q]
    exact h.of_bus _
  | cons e rest =>
    simp only [State.readEvent, q]
    split <;> exact h.of_port rfl rfl rfl fun out => ⟨out, rfl, rfl⟩

/-! ### Glyph moves, record writes, byte tests and resets -/

theorem State.moveGlyph_frees (s : State) (cursor id : Nat) : s.Frees (s.moveGlyph cursor id) :=
  ⟨fun busy => absurd rfl busy, fun _ m => m, fun w => w⟩

theorem State.moveEnds_workWf (h : s.WorkWf) (port : s.PortWf) : s.moveEnds.WorkWf :=
  State.moveEnds_elim _ (fun _ => h) (fun _ => State.conclude_workWf h port)
    fun _ cursor id _ => State.conclude_workWf (h.frees (s.moveGlyph_frees cursor id) rfl rfl) (port.of_eq rfl rfl)

theorem State.attemptEnds_workWf (h : s.WorkWf) (port : s.PortWf) (differs : List Byte) :
    (s.attemptEnds differs).WorkWf := by
  cases stage : s.csq.stage with
  | writing w =>
    have free := h.unbound_of_stage (by rw [stage]; nofun) (by rw [stage]; nofun)
    have timer := h.no_timer (by rw [stage]; nofun)
    have execute := port.executes (by rw [stage]; nofun) (by rw [stage]; nofun)
    obtain ⟨u, is⟩ : ∃ u : State, { s with nvs := s.nvs.writeCopy w (readBack w.bytes differs) } = u := ⟨_, rfl⟩
    have free' : u.Unbound := by rw [← is]; exact free.of_eq rfl rfl
    simp only [State.attemptEnds, stage, is]
    split
    · exact State.finish_workWf free' _
    split
    · exact State.finish_workWf free' _
    split
    · exact State.finish_workWf free' _
    · refine State.workWf_executing ?_ timer execute nofun
      exact free.of_eq rfl rfl
  | idle | validate | finish | waiting | compacting | ramTesting n | moving =>
    simpa only [State.attemptEnds, stage] using h

theorem State.testByte_workWf (h : s.WorkWf) (port : s.PortWf) {offset : Nat} (stage : s.csq.stage = .ramTesting offset)
    (answer : ByteTest) : (s.testByte offset answer).WorkWf := by
  have free := h.unbound_of_stage (by rw [stage]; nofun) (by rw [stage]; nofun)
  have timer := h.no_timer (by rw [stage]; nofun)
  have execute := port.executes (by rw [stage]; nofun) (by rw [stage]; nofun)
  simp only [State.testByte, State.bytePasses]
  split
  · split
    · exact State.finish_workWf free _
    split
    · exact State.finish_workWf free _
    · exact State.workWf_executing (free.of_eq rfl rfl) timer execute nofun
  · refine State.finish_workWf ?_ _
    exact free.of_eq rfl rfl

theorem State.portReset_workWf (s : State) (i : Inputs) : (s.portReset i).WorkWf := by
  simp [State.WorkWf, State.portReset, State.clearBlocks, State.reset, State.readInputs, State.resetSample,
    State.sampleHead, Gst.portReset]

theorem State.outOfService_workWf (s : State) (service : Service) : (s.outOfService service).WorkWf := by
  simp [State.WorkWf, State.outOfService, State.reset, State.toStopped]

theorem State.powerUpNow_workWf (s : State) (kind : Nat) (p : PowerUp) : (s.powerUpNow kind p).WorkWf := by
  rw [State.powerUpNow]
  split
  · simp [State.WorkWf, State.powerUp, State.clearBlocks, State.reset, State.readInputs, State.resetSample,
      State.sampleHead]
  · exact s.outOfService_workWf _

/-! ### The acts of a command -/

/-- A command at its first act. -/
theorem State.WorkWf.firstAct (h : s.WorkWf) {code : Byte} (due : s.inHand code .validate = true) :
    s.Unbound ∧ s.csq.waitTimer = none := by
  obtain ⟨-, stage, -⟩ := State.inHand_iff.1 due
  exact ⟨h.unbound_of_stage (by rw [stage]; nofun) (by rw [stage]; nofun), h.no_timer (by rw [stage]; nofun)⟩

theorem State.WorkWf.secondAct (h : s.WorkWf) {code : Byte} (due : s.inHand code .finish = true) :
    s.Unbound ∧ s.csq.waitTimer = none := by
  obtain ⟨-, stage, -⟩ := State.inHand_iff.1 due
  exact ⟨h.unbound_of_stage (by rw [stage]; nofun) (by rw [stage]; nofun), h.no_timer (by rw [stage]; nofun)⟩

theorem State.plain_workWf {code : Byte} {checks : List (Bool × Ending)} {commit : State → State} (h : s.WorkWf)
    (commits : s.inHand code .validate = true → (commit s).WorkWf) : (s.plain code checks commit).WorkWf :=
  State.plain_elim _ h (fun due e => State.finish_workWf (h.firstAct due).1 e) fun due _ _ => commits due

theorem State.enterDataIn_workWf (free : s.Unbound) (timer : s.csq.waitTimer = none) (bytes : List Byte) :
    (s.enterDataIn bytes).WorkWf :=
  ⟨fun busy => absurd free.moving busy, fun _ => ⟨nofun, nofun⟩, fun running => absurd timer running,
    fun code m => absurd m (free.motion code), fun w => absurd w free.why⟩

/-- R8: the payload that a command asks for is counted from 0. -/
theorem State.enterDataOut_workWf (free : s.Unbound) (timer : s.csq.waitTimer = none) {code : Byte}
    (due : s.inHand code .validate = true) {length : Nat} (long : code = 0x31 → 2 < length) :
    (s.enterDataOut length).WorkWf := by
  obtain ⟨-, stage, block⟩ := State.inHand_iff.1 due
  refine ⟨fun busy => absurd free.moving busy, fun glyph => ⟨fun finish => absurd (stage.symm.trans finish) nofun,
    fun _ => ⟨rfl, long ?_⟩⟩, fun running => absurd timer running, fun code m => absurd m (free.motion code),
    fun w => absurd w free.why⟩
  exact Option.some.inj (block.symm.trans glyph)

theorem State.withPayload_workWf {code : Byte} {checks again : List (Bool × Ending)} {length : Nat}
    {commit : State → State} (h : s.WorkWf)
    (long : s.inHand code .validate = true → code = 0x31 → firstOf (s.ranges s.csq.block) = none → 2 < length)
    (commits : s.inHand code .finish = true → (commit s).WorkWf) : (s.withPayload code checks length again commit).WorkWf := by
  rw [State.withPayload]
  split
  · next due =>
    obtain ⟨free, timer⟩ := h.firstAct due
    refine State.act_elim _ (fun e => State.finish_workWf free e) fun passed _ => ?_
    refine State.enterDataOut_workWf free timer due fun glyph => long due glyph ?_
    rw [firstOf_append, Option.or_eq_none_iff, State.gateAndRanges,
      ← List.singleton_append, firstOf_append, Option.or_eq_none_iff] at passed
    exact passed.1.2
  split
  · next due =>
    exact State.act_elim _ (fun e => State.finish_workWf (h.secondAct due).1 e) fun _ _ => commits due
  · exact h

/-- The effect of a command that completes. -/
theorem State.completes_workWf {code : Byte} {x : Stage} (h : s.WorkWf) (due : s.inHand code x = true)
    (act : x = .validate ∨ x = .finish) {effect : State → State × Ending} (frees : s.Frees (effect s).1)
    (csq : (effect s).1.csq = s.csq) : (s.completeAfter effect).WorkWf := by
  obtain ⟨-, stage, -⟩ := State.inHand_iff.1 due
  have at_ {y : Stage} (validate : y ≠ .validate) (finish : y ≠ .finish) : s.csq.stage ≠ y := fun is => by
    rw [stage] at is
    exact act.elim (fun z => validate (is.symm.trans z)) fun z => finish (is.symm.trans z)
  exact State.completeAfter_workWf h (at_ nofun nofun) (at_ nofun nofun) (at_ nofun nofun) frees csq

end Sys2Proof.Machine

end

section
/-! The glyph store and the work in hand on it, in every step (R28 to R58). -/

namespace Sys2Proof.Machine

variable {s t u v : State} {id : Nat}

theorem State.Frees.of_fmu (moving : t.gst.moving ≠ none → s.gst.moving ≠ none) (fmu : t.fmu = s.fmu) : s.Frees t :=
  ⟨moving, by rw [fmu]; exact fun _ m => m, by rw [fmu]; exact fun w => w⟩

/-- R53: a glyph that is released or doomed begins no move. -/
theorem State.commitDelete_frees (s : State) : s.Frees s.commitDelete.1 := by
  refine .of_fmu (fun busy none => busy ?_) (by simp)
  simp only [State.commitDelete]
  split
  · split
    · simp [Gst.release_eq, none]
    · exact none
  · exact none
  · exact none

theorem State.storePlacement_frees (s : State) (p : Placement) : s.Frees (s.storePlacement p) := by
  refine .of_fmu (fun busy none => busy ?_) (by simp)
  rw [State.storePlacement]
  split <;> exact none

theorem State.commitDefine_frees (s : State) : s.Frees s.commitDefine.1 := by
  refine .of_fmu (fun busy none => busy ?_) (by simp)
  simp only [State.commitDefine, State.defineGlyph]
  split <;> exact none

theorem State.commitDiscard_frees (s : State) : s.Frees s.commitDiscard.1 := by
  cases opened : s.lbq.openSlot <;> simp only [State.commitDiscard, opened]
  · exact .refl s
  · exact s.removeLabel_frees _ _

/-- R27: a DEFINE GLYPH asks for a bitmap. -/
theorem State.glyphBytes_pos (code : byteAt s.csq.block 0 = 0x31) (passed : firstOf (s.ranges s.csq.block) = none) :
    0 < glyphBytes s.csq.block := by
  have ranges : s.ranges s.csq.block = defineGlyphRanges s.csq.block := by simp [State.ranges, code]
  rw [ranges, firstOf_eq_none] at passed
  simp only [defineGlyphRanges, List.mem_cons, List.not_mem_nil, or_false, forall_eq_or_imp, forall_eq,
    decide_eq_false_iff_not, beq_eq_false_iff_ne] at passed
  obtain ⟨-, width, height⟩ := passed
  refine Nat.mul_pos ?_ (Nat.pos_of_ne_zero height)
  have bytes : ceilDiv (num8 s.csq.block 3) 8 = (num8 s.csq.block 3 + 7) / 8 := rfl
  rw [bytes]
  omega

/-! ### The commands -/

theorem State.works_workWf {code : Byte} (h : s.WorkWf) (due : s.inHand code .validate = true) {x : Stage}
    (other : x ≠ .finish) : ({ s with csq := { s.csq with stage := x } } : State).WorkWf := by
  obtain ⟨free, timer⟩ := h.firstAct due
  refine State.workWf_executing ?_ timer (State.inHand_iff.1 due).1 other
  exact free.of_eq rfl rfl

theorem State.commitMechanism_workWf {code : Byte} (h : s.WorkWf) (port : s.PortWf) (due : s.inHand code .finish = true) :
    s.commitMechanism.WorkWf := by
  obtain ⟨free, timer⟩ := h.secondAct due
  have execute := (State.inHand_iff.1 due).1
  obtain ⟨u, is⟩ : ∃ u : State, s.useMechanism (Mechanism.ofBytes s.csq.body) = u := ⟨_, rfl⟩
  have free' : u.Unbound := free.of_eq (by simp [← is]) (by simp [← is])
  have csq : u.csq = s.csq := by simp [← is]
  have hpu : u.hpu = s.hpu := by simp [← is]
  rw [State.commitMechanism, is]
  refine State.conclude_workWf (State.workWf_executing ?_ ?_ ?_ nofun) (port.of_hpu execute (by simp [hpu]))
  · exact free'.of_eq (by simp) (by simp)
  · simpa [State.beginWrite, csq] using timer
  · simpa [hpu] using execute

theorem State.setMechanism_workWf (h : s.WorkWf) (port : s.PortWf) (strap : Bool) (decay : List Decay) :
    (s.setMechanism strap decay).WorkWf := by
  refine State.setMechanism_elim _ h fun _ => ?_
  have sampled : ((s.sampleStrap strap).readStore decay).WorkWf := h.of_hand rfl rfl rfl rfl
  exact State.withPayload_workWf sampled (fun _ => nofun) fun due =>
    State.commitMechanism_workWf sampled (port.of_eq rfl rfl) due

theorem State.storeProfile_workWf (h : s.WorkWf) (strap : Bool) (decay : List Decay) :
    (s.storeProfile strap decay).WorkWf := by
  have sampled : ((s.sampleStrap strap).readStore decay).WorkWf := h.of_hand rfl rfl rfl rfl
  rw [State.storeProfile]
  split
  · refine State.plain_workWf sampled fun due => ?_
    obtain ⟨free, timer⟩ := sampled.firstAct due
    refine State.workWf_executing ?_ timer (State.inHand_iff.1 due).1 nofun
    exact free.of_eq rfl rfl
  · exact h

theorem State.loadSlot_workWf (h : s.WorkWf) (decay : List Decay) : (s.loadSlot decay).WorkWf := by
  have read : (s.readStore decay).WorkWf := h.of_hand rfl rfl rfl rfl
  rw [State.loadSlot]
  split
  · exact State.plain_workWf read fun due =>
      State.completes_workWf read due (.inl rfl) (.of_hand (by simp) (by simp)) (by simp)
  · exact h

theorem State.verifyStore_workWf (h : s.WorkWf) (decay : List Decay) : (s.verifyStore decay).WorkWf := by
  have read : (s.readStore decay).WorkWf := h.of_hand rfl rfl rfl rfl
  rw [State.verifyStore]
  split
  · exact State.plain_workWf read fun due => State.enterDataIn_workWf (read.firstAct due).1 (read.firstAct due).2 _
  · exact h

theorem State.cancelNow_workWf {code : Byte} (h : s.WorkWf) (due : s.inHand code .validate = true) :
    s.cancelNow.WorkWf := by
  rw [State.cancelNow]
  split
  · exact State.finish_workWf (h.firstAct due).1 _
  · refine State.completes_workWf h due (.inl rfl) ?_ (by simp)
    rw [State.commitCancel]
    split
    · exact .refl s
    · exact s.cancelTargets_frees _ _

/-- R35: the wait timer runs for a command that waits. -/
theorem State.waits_workWf {code : Byte} (h : s.WorkWf) (due : s.inHand code .validate = true) (timer : Timer) :
    ({ s with csq := { s.csq with stage := .waiting, waitTimer := timer } } : State).WorkWf := by
  obtain ⟨free, -⟩ := h.firstAct due
  have execute := (State.inHand_iff.1 due).1
  exact ⟨fun busy => absurd free.moving busy, fun _ => ⟨nofun, fun out => absurd (execute.symm.trans out) nofun⟩,
    fun _ => rfl, fun code m => absurd m (free.motion code), fun w => absurd w free.why⟩

theorem State.motion_workWf (h : s.WorkWf) (port : s.PortWf) (code : Byte) : (s.motion code).WorkWf := by
  refine State.motion_elim _ h (fun due e => State.finish_workWf (h.firstAct due).1 e)
    (fun due _ => State.waits_workWf h due _) fun due _ _ _ => ?_
  obtain ⟨free, timer⟩ := h.firstAct due
  have execute := (State.inHand_iff.1 due).1
  exact State.conclude_workWf (State.commitMotion_workWf ⟨free, execute, timer⟩) (State.commitMotion_portWf port execute)

theorem State.ramByteTest_workWf (h : s.WorkWf) (port : s.PortWf) (answer : ByteTest) :
    (rowEffect (.ramByteTest answer) s).WorkWf := by
  rw [rowEffect]
  split
  · next stage => exact State.served_elim _ h fun _ => State.testByte_workWf h port stage _
  · exact h

/-! ### Every row -/

/-- R28 to R37: whatever the row, what is in hand belongs to a command at work on it. -/
theorem rowEffect_workWf (i : Instr) (s : State) (h : s.WorkWf) (port : s.PortWf) : (rowEffect i s).WorkWf := by
  cases i <;> simp only [rowEffect]
  case select => exact State.served_elim _ h fun _ => State.selectNow_workWf h
  case breakRequest => exact State.served_elim _ h fun _ => State.breakNow_workWf h port
  case notifyMaskWrite value =>
    exact State.served_elim State.WorkWf h fun _ => h.of_port rfl rfl rfl fun out => ⟨out, rfl, rfl⟩
  case portReset value inputs => exact State.served_elim State.WorkWf h fun _ => State.portReset_workWf _ _
  case pinReset found => exact State.powerUpNow_workWf _ _ _
  case powerOnReset found => exact State.powerUpNow_workWf _ _ _
  case resetInputHeld => exact State.outOfService_workWf _ _
  case commandByte | payloadByte | resultByteRead | completionByteRead | refusedDataPortAccess =>
    exact State.dataAccess_workWf h port _
  case dackCycle access =>
    cases access with
    | read => exact State.servedRead_elim State.WorkWf (h.of_bus _) fun _ => State.dack_workWf h port _
    | write b => exact State.served_elim State.WorkWf h fun _ => State.dack_workWf h port _
  case byteTimeout => exact State.served_elim _ h fun _ => State.timeoutNow_workWf h port
  case eventPortRead => exact State.servedRead_elim State.WorkWf (h.of_bus _) fun _ => State.readEvent_workWf h
  case testReady =>
    exact State.served_elim _ h fun _ => State.plain_workWf h fun due => State.finish_workWf (h.firstAct due).1 _
  case requestSense | readEngineState | sensorRead | readMediaParameters | readGlyphEntry =>
    exact State.served_elim _ h fun _ => State.plain_workWf h fun due =>
      State.enterDataIn_workWf (h.firstAct due).1 (h.firstAct due).2 _
  case deleteGlyph =>
    exact State.served_elim _ h fun _ => State.plain_workWf h fun due =>
      State.completes_workWf h due (.inl rfl) s.commitDelete_frees (by simp)
  case openLabel | closeLabel =>
    exact State.served_elim _ h fun _ => State.plain_workWf h fun due =>
      State.completes_workWf h due (.inl rfl) (.of_hand (by simp) (by simp)) (by simp)
  case setRunGate =>
    exact State.served_elim _ h fun _ => State.plain_workWf h fun due =>
      State.completes_workWf h due (.inl rfl) (.of_hand rfl rfl) rfl
  case placeGlyph | placeRule =>
    exact State.served_elim _ h fun _ => State.plain_workWf h fun due =>
      State.completes_workWf h due (.inl rfl) (s.storePlacement_frees _) (by simp)
  case discardLabel =>
    exact State.served_elim _ h fun _ => State.plain_workWf h fun due =>
      State.completes_workWf h due (.inl rfl) s.commitDiscard_frees (by simp)
  case cancelLabels => exact State.served_elim _ h fun _ => State.plain_workWf h fun due => State.cancelNow_workWf h due
  case compactGlyphs =>
    exact State.served_elim _ h fun _ => State.plain_workWf h fun due =>
      State.conclude_workWf (State.works_workWf h due nofun) (port.of_hpu (State.inHand_iff.1 due).1 rfl)
  case ramTest => exact State.served_elim _ h fun _ => State.plain_workWf h fun due => State.works_workWf h due nofun
  case defineGlyph =>
    refine State.served_elim _ h fun _ => State.withPayload_workWf h (fun due _ passed => ?_) fun due =>
      State.completes_workWf h due (.inr rfl) s.commitDefine_frees (by simp)
    have bytes := State.glyphBytes_pos (byteAt_head (State.inHand_iff.1 due).2.2) passed
    omega
  case placeText | placeImage =>
    exact State.served_elim _ h fun _ => State.withPayload_workWf h (fun _ => nofun) fun due =>
      State.completes_workWf h due (.inr rfl) (s.storePlacement_frees _) (by simp)
  case setMediaParameters =>
    exact State.served_elim _ h fun _ => State.withPayload_workWf h (fun _ => nofun) fun due =>
      State.completes_workWf h due (.inr rfl) (.of_hand (by simp) (by simp)) (by simp)
  case setMechanismParameters strap decay => exact State.served_elim _ h fun _ => State.setMechanism_workWf h port _ _
  case storeProfile strap decay => exact State.served_elim _ h fun _ => State.storeProfile_workWf h _ _
  case loadProfile decay => exact State.served_elim _ h fun _ => State.loadSlot_workWf h _
  case verifyProfiles decay => exact State.served_elim _ h fun _ => State.verifyStore_workWf h _
  case recordCopyWrite differs => exact State.served_elim _ h fun _ => State.attemptEnds_workWf h port _
  case glyphMove => exact State.served_elim _ h fun _ => State.moveEnds_workWf h port
  case feed | advanceToEdge | calibrateMedia | present | retract | resume =>
    exact State.served_elim _ h fun _ => State.motion_workWf h port _
  case ramByteTest answer => exact State.ramByteTest_workWf h port answer
  case motionWaitTimeout => exact State.served_elim _ h fun _ => State.waitExpires_workWf h
  case bandRender =>
    refine State.served_elim _ h fun _ => ?_
    split
    · exact State.conclude_workWf (h.of_hand (by simp) (by simp) (by simp) (by simp)) (port.of_eq (by simp) (by simp))
    · exact h
  case lineStep level elapsed =>
    refine State.served_elim _ h fun _ => ?_
    have clocked : (s.advanceClock elapsed).WorkWf := h.of_hand rfl rfl rfl rfl
    split
    · exact State.lineStep_workWf clocked (port.of_eq rfl rfl) level
    · exact h
  case backwardStep elapsed =>
    refine State.served_elim _ h fun _ => ?_
    have clocked : (s.advanceClock elapsed).WorkWf := h.of_hand rfl rfl rfl rfl
    split
    · exact State.backStep_workWf clocked (port.of_eq rfl rfl)
    · exact h
  case runStart =>
    refine State.served_elim _ h fun _ => ?_
    split
    · exact State.conclude_workWf (h.of_hand (by simp) (by simp) (by simp) (by simp)) (port.of_eq (by simp) (by simp))
    · exact h
  case temperatureSample degrees =>
    have sampled : (s.sampleHead degrees).WorkWf := h.of_hand rfl rfl rfl rfl
    have sampledPort : (s.sampleHead degrees).PortWf := port.of_eq rfl rfl
    exact State.served_elim _ h fun _ =>
      State.conclude_workWf (State.readRequests_workWf sampled _) (State.readRequests_portWf sampledPort _)
  case headStateChange =>
    exact State.served_elim _ h fun _ => State.conclude_workWf (State.headChanges_workWf h) (State.headChanges_portWf port)
  case idleSample level =>
    refine State.served_elim _ h fun _ => ?_
    split
    · exact State.conclude_workWf (State.idleStep_workWf h level) (State.idleStep_portWf port level)
    · exact h
  case autoRecover =>
    refine State.served_elim _ h fun _ => ?_
    split
    · refine State.conclude_workWf (State.beginRecoveryFind_workWf ?_)
        (State.beginRecoveryFind_portWf (port.of_eq (by simp) (by simp)))
      exact h.frees (s.enterRecovery_frees _) (by simp) (by simp)
    · exact h
  case motorRelease =>
    refine State.served_elim State.WorkWf h fun _ => ?_
    split
    · exact h.of_hand rfl rfl rfl rfl
    · exact h

/-- R43 to R58, row by row. -/
theorem rowEffect_glyphsWf (i : Instr) (s : State) (h : s.GlyphsWf) : (rowEffect i s).GlyphsWf := by
  obtain ⟨gst, work, port⟩ := h
  exact ⟨Gst.wf_iff.mpr (rowEffect_sound i s work (Gst.wf_iff.mp gst)), rowEffect_workWf i s work port,
    rowEffect_portWf i s port⟩

/-- Settles O30: a move's dots granule by granule, and the store's order row by row. -/
theorem movedGlyphsKeepTheirDots : Obligations.MovedGlyphsKeepTheirDots := by
  unfold Obligations.MovedGlyphsKeepTheirDots
  refine ⟨fun s cursor id next inside ordered apart other less used form u v => ?_,
    fun _ _ h step => step_keeps (fun _ _ h => h) rowEffect_glyphsWf h step⟩
  exact fun hm vm inWidth inHeight size => movedGlyphs_dots next inside ordered apart less used hm vm inWidth inHeight size

end Sys2Proof.Machine

end

section
/-! The lines of a run (R83, R98, R133), the copies it counts (R74), its horizon (R115) and its rests (R116, R117): what
settles O45. -/

namespace Sys2Proof.Machine

variable {s t u v : State} {c : Copy} {line slot : Nat} {l : Label}

/-! ### The line that the head is handed -/

/-- R111: a forward step that is due, with no sample due by count. -/
theorem exec_lineStep (h : s.InService) (due : s.forwardDue = true) (room : s.hdu.strobed < 16) (level : Byte)
    (elapsed : Nat) : exec (.lineStep level elapsed) s = .next ((s.advanceClock elapsed).lineStep level) := by
  have acts : (s.forwardDue && !s.sampleDue) = true := by
    simp [due, State.sampleDue, Config.linesPerSample, room]
  exact (congrArg Host.Outcome.next (State.served_inService h _)).trans (congrArg _ (if_pos acts))

/-- R111: past parts 1 and 2 nothing hands the head a line. -/
theorem State.lineStep_hdu (s : State) (level : Byte) : (s.lineStep level).hdu = s.lineParts12.hdu := by
  simp [State.lineStep]

/-- R119: a step with a line to pass lies within its horizon. -/
theorem State.nextLine_count {h : Horizon} (passes : s.nextLine h = some ⟨c, line⟩) : h.count ≠ 0 := fun none => by
  rw [State.nextLine, if_pos none] at passes
  nomatch passes

/-- R111: the step passes a label line. -/
theorem State.lineParts12_passes (under : s.underHorizon = true) (passes : s.nextLine s.horizon = some ⟨c, line⟩) :
    s.lineParts12 = (s.stepForward (s.forwardSpeed s.horizon)).passLine ⟨c, line⟩ := by
  have within : s.overrunStep s.horizon = false := by simp [State.overrunStep, State.nextLine_count passes]
  simp [State.lineParts12, under, passes, within]

/-- R111: the step passes no label line, within the horizon or outside a run. -/
theorem State.lineParts12_slews (none : s.underHorizon = true → s.nextLine s.horizon = none ∧ s.horizon.count ≠ 0) :
    s.lineParts12 = (s.stepForward (s.forwardSpeed s.horizon)).strobeNothing := by
  cases under : s.underHorizon with
  | false => simp [State.lineParts12, under, State.overrunStep]
  | true => simp [State.lineParts12, under, State.overrunStep, none under]

/-- R119: the step lies beyond the horizon. -/
theorem State.lineParts12_overruns (under : s.underHorizon = true) (beyond : s.horizon.count = 0) :
    s.nextLine s.horizon = none ∧
    s.lineParts12 = (s.unregister.stepForward (s.forwardSpeed s.horizon)).strobeNothing := by
  have none : s.nextLine s.horizon = none := if_pos beyond
  exact ⟨none, by simp [State.lineParts12, under, State.overrunStep, beyond, none]⟩

theorem ringOffset_eq (band line : Nat) : ringOffset band line = 1664 * band + 104 * line := by
  simp only [ringOffset, Config.bandLines, Config.lineBytes]
  omega

/-- R83: the bytes of a line as its band holds them. -/
abbrev State.heldLine (s : State) (line : Nat) : Line :=
  s.ram.readBlock (1664 * s.ring.head + 104 * (line - (s.ring.band s.ring.head).first)) 104

/-- R82: the dots of a line as its band counts them. -/
abbrev State.lineDots (s : State) (line : Nat) : Nat :=
  (s.ring.band s.ring.head).dots.getD (line - (s.ring.band s.ring.head).first) 0

/-- R98: the head's part of the step that passes a label line. -/
theorem State.passLine_hdu (s : State) (c : Copy) (line : Nat) :
    (s.passLine ⟨c, line⟩).hdu = (s.strobeLine line (s.heldLine line) (s.lineDots line)).hdu := by
  simp only [State.passLine, ringOffset_eq]
  (repeat' split) <;> simp [State.beginCopy, State.countLine] <;> rfl

/-- R98, R111: what the head is handed by a step. -/
theorem lineStep_hands (h : s.InService) (due : s.forwardDue = true) (room : s.hdu.strobed < 16) (level : Byte)
    (elapsed : Nat) : ∃ t, exec (.lineStep level elapsed) s = .next t ∧
      (∀ c line, s.underHorizon = true → s.nextLine s.horizon = some ⟨c, line⟩ →
        t.hdu.history = s.heldLine line ∧ t.hdu.current = some ⟨s.heldLine line, s.lineDots line⟩ ∧ t.hdu.clock = some 0) ∧
      (s.underHorizon = false ∨ s.nextLine s.horizon = none →
        t.hdu.history = s.hdu.history ∧ t.hdu.current = none ∧ t.hdu.strobe = [] ∧
        t.hdu.clock = s.hdu.clock.map (· + elapsed)) := by
  refine ⟨_, exec_lineStep h due room level elapsed, fun c line under passes => ?_, fun none => ?_⟩
  · rw [State.lineStep_hdu, State.lineParts12_passes (s := s.advanceClock elapsed) under passes, State.passLine_hdu]
    exact ⟨rfl, rfl, rfl⟩
  · rw [State.lineStep_hdu]
    by_cases beyond : s.underHorizon = true ∧ s.horizon.count = 0
    · rw [(State.lineParts12_overruns (s := s.advanceClock elapsed) beyond.1 beyond.2).2]
      exact ⟨rfl, rfl, rfl, rfl⟩
    · rw [State.lineParts12_slews (s := s.advanceClock elapsed) fun under =>
        ⟨none.resolve_left (by rw [show s.underHorizon = true from under]; nofun), fun count => beyond ⟨under, count⟩⟩]
      exact ⟨rfl, rfl, rfl, rfl⟩

/-! ### Parts 1 and 2 of a step -/

/-- R133: the registration in the step that passes line 0 of a copy of this length. -/
abbrev State.topPrepared (s : State) (top : Pos) (length : Nat) : Registration :=
  if s.nvs.profile.mode = .continuous then
    ⟨.registered, some (top + BitVec.ofNat 32 (length + s.nvs.profile.gap)), true, s.msu.reg.miss⟩
  else { s.msu.reg with top := some (top + BitVec.ofNat 32 s.nvs.profile.pitch), decided := false }

theorem shift_nat (p : Pos) (n : Nat) : shift p n = p + BitVec.ofNat 32 n := by
  rw [shift, BitVec.ofInt_natCast]

theorem State.prepareTop_eq (s : State) (top : Pos) (length : Nat) : s.prepareTop top length =
    { s with msu := { s.msu with reg := s.topPrepared top length, lastLen := some length } } := by
  simp only [State.prepareTop, State.topPrepared, ← Nat.cast_add, shift_nat]
  cases s.nvs.profile.mode <;> rfl

/-- R83: the ring once a line of the head band has been passed. -/
theorem Ring.passLine_eq (r : Ring) (line : Nat) : r.passLine line =
    if line + 1 < (r.band r.head).first + (r.band r.head).count then
      { r with bands := r.bands.set (r.head % 16) { r.band r.head with state := .printing } }
    else { r with bands := r.bands.set (r.head % 16) .blank, head := (r.head + 1) % 16 } := rfl

/-- R83, R98, R133, R74: the state once a line has been passed, before its copy is counted. -/
abbrev State.linePassed (s : State) (c : Copy) (line length : Nat) : State := { s with
  ring := s.ring.passLine line
  hdu := (s.strobeLine line (s.heldLine line) (s.lineDots line)).hdu
  lbq := { s.lbq with printing := if line = 0 then some ⟨c.slot, c.copy, 1⟩
    else s.lbq.printing.map fun p => { p with passed := p.passed + 1 } }
  msu := if line = 0 then { s.msu with reg := s.topPrepared s.fmu.pos length, lastLen := some length } else s.msu }

theorem State.passLine_eq (label : s.lbq.label c.slot = some l) : s.passLine ⟨c, line⟩ =
    if line + 1 = l.length then (s.linePassed c line l.length).copyDone c.slot else s.linePassed c line l.length := by
  by_cases first : line = 0
  · simp only [State.passLine, ringOffset_eq, label, if_pos first, State.prepareTop_eq, State.linePassed]
    rfl
  · simp only [State.passLine, ringOffset_eq, label, if_neg first, State.linePassed]
    rfl

/-! ### The copies counted -/

theorem Lbq.setLabel_same {q : Lbq} (label : q.label slot = some l) (x : Option Label) :
    (q.setLabel slot x).label slot = x := by
  have inRange : slot < q.slots.length := by
    by_contra out
    simp [Lbq.label, List.getD_eq_getElem?_getD, List.getElem?_eq_none (Nat.not_lt.mp out)] at label
  simp [Lbq.setLabel, Lbq.label, inRange]

/-- R74: a copy is counted and reported. -/
abbrev State.copyCounted (s : State) (slot : Nat) (l : Label) : State :=
  ({ s with lbq := { s.lbq with slots := s.lbq.slots.set slot (some { l with done := l.done + 1 }), printing := none } } :
    State).post ⟨.copyDone, BitVec.ofNat 8 l.copies, l.number, BitVec.ofNat 16 (l.done + 1)⟩

/-- R75: a queue that has become empty is reported. -/
abbrev State.emptied (s v : State) : State :=
  if s.lbq.queue ≠ [] ∧ v.lbq.queue = [] then v.post ⟨.queueIdle, 0, 0xFFFF, 0⟩ else v

theorem State.reportIdleQueue_emptied (s v : State) : v.reportIdleQueue s.lbq = s.emptied v := by
  rw [State.reportIdleQueue, State.emptied]
  exact if_congr (by simp) rfl rfl

/-- R60: a label that is removed is reported first. -/
theorem State.removeLabel_eq (label : s.lbq.label slot = some l) (report : Option Event) :
    s.removeLabel slot report = (report.elim s s.post).vacate slot l := by
  simp only [State.removeLabel, label]
  cases report <;> rfl

/-- R74, R78: the last line of a copy has been passed. -/
theorem State.copyDone_eq (label : s.lbq.label slot = some l) : s.copyDone slot =
    if l.finishing then s.emptied ((s.copyCounted slot l).vacate slot { l with done := l.done + 1 })
    else if l.done + 1 = l.copies then s.emptied
      (((s.copyCounted slot l).post ⟨.labelDone, 0, l.number, BitVec.ofNat 16 (l.done + 1)⟩).vacate slot
        { l with done := l.done + 1 })
    else s.copyCounted slot l := by
  have counted : (s.copyCounted slot l).lbq.label slot = some { l with done := l.done + 1 } := by
    rw [State.copyCounted, State.post_is]
    exact Lbq.setLabel_same label _
  have allowed := State.removeLabel_eq counted none
  have last := State.removeLabel_eq counted (some ⟨.labelDone, 0, l.number, BitVec.ofNat 16 (l.done + 1)⟩)
  simp only [Option.elim_none, Option.elim_some] at allowed last
  rw [← allowed, ← last, ← State.reportIdleQueue_emptied, ← State.reportIdleQueue_emptied]
  simp only [State.copyDone, label]
  rfl

/-! ### The horizon -/

theorem numbered_eq (j : Nat) (dots : List Nat) : numbered j dots = dots.mapIdx fun i d => (j + i, d) := by
  rw [numbered, List.mapIdx_eq_zipIdx_map]

/-- R115 item 2: with no top known there is no slew to count. -/
theorem State.roadBeyond_unknown (unknown : s.msu.reg.state = .unknown ∨ s.msu.reg.top = none) (r : Nat)
    (lines : List Nat) : s.roadBeyond r lines = ⟨r, lines.mapIdx fun j d => (1 + j, d),
      if s.lbq.gate = false ∧ s.lbq.nextCopy ≠ none then .gateClosed else .topUnknown⟩ := by
  have none (q : Pos) : s.slewFrom q = none := by
    rcases unknown with h | h
    · simp [State.slewFrom, h]
    · cases state : s.msu.reg.state <;> simp [State.slewFrom, h, state]
  simp only [State.roadBeyond, none, numbered_eq]
  congr 1
  exact if_congr (by simp [Option.isSome_iff_ne_none]) rfl rfl

/-- R115 item 2: how far slew counts to a top that is known. -/
abbrev State.slewTo (s : State) (top : Pos) (r : Nat) : Nat :=
  ((if s.msu.reg.decided then top - 1 else top - BitVec.ofNat 32 (s.nvs.profile.tolerance + 1)) -
    (s.fmu.pos + BitVec.ofNat 32 r)).toInt.toNat

theorem shift_back (p : Pos) (n : Nat) : shift p (-(n : Int) - 1) = p - BitVec.ofNat 32 (n + 1) := by
  rw [shift, show (-(n : Int) - 1) = -((n + 1 : Nat) : Int) by push_cast; ring, BitVec.ofInt_neg, BitVec.ofInt_natCast,
    BitVec.sub_eq_add_neg]

theorem State.slewFrom_known {top : Pos} (state : s.msu.reg.state ≠ .unknown) (known : s.msu.reg.top = some top) (r : Nat) :
    s.slewFrom (shift s.fmu.pos r) = some (s.slewTo top r) := by
  have one : shift top (-1) = top - 1 := shift_back top 0
  rw [State.slewTo, ← shift_back, ← one, ← shift_nat]
  cases h : s.msu.reg.state <;> simp_all [State.slewFrom, ahead]

/-- R115 item 2: with the next top known and nothing left to print, slew counts up to it. -/
theorem State.roadBeyond_last {top : Pos} (state : s.msu.reg.state ≠ .unknown) (known : s.msu.reg.top = some top)
    (none : s.lbq.nextCopy = none) (r : Nat) (lines : List Nat) :
    s.roadBeyond r lines = ⟨r + s.slewTo top r, lines.mapIdx fun j d => (1 + j, d), .nothingLeft⟩ := by
  simp only [State.roadBeyond, State.slewFrom_known state known, numbered_eq, none]

/-- R115 item 3: at an open gate the lines of the next copy that are held count too. -/
theorem State.roadBeyond_next {top : Pos} (state : s.msu.reg.state ≠ .unknown) (known : s.msu.reg.top = some top)
    (next : s.lbq.nextCopy = some c) (r : Nat) (lines : List Nat) : s.roadBeyond r lines =
      if s.lbq.gate then
        ⟨r + s.slewTo top r + (s.heldFrom c 0).length, (lines.mapIdx fun j d => (1 + j, d)) ++
          (s.heldFrom c 0).mapIdx fun j d => (r + s.slewTo top r + 1 + j, d), .notHeld c (s.heldFrom c 0).length⟩
      else ⟨r + s.slewTo top r, lines.mapIdx fun j d => (1 + j, d), .gateClosed⟩ := by
  simp only [State.roadBeyond, State.slewFrom_known state known, numbered_eq, next]

/-- R115 item 1: the printing copy, short of its last line or with all its lines held. -/
theorem State.horizon_printing {p : Printing} (prints : s.lbq.printing = some p) (label : s.lbq.label p.slot = some l) :
    s.horizon =
      let lines := (s.heldFrom ⟨p.slot, p.copy⟩ p.passed).take (l.length - p.passed)
      if lines.length < l.length - p.passed then
        ⟨lines.length, lines.mapIdx fun j d => (1 + j, d), .notHeld ⟨p.slot, p.copy⟩ (p.passed + lines.length)⟩
      else s.roadBeyond (l.length - p.passed) lines := by
  simp only [State.horizon, prints, label, Option.elim_some, numbered_eq]

theorem State.horizon_idle (idle : s.lbq.printing = none) : s.horizon = s.roadBeyond 0 [] := by
  simp only [State.horizon, idle]

/-! ### The next copy and the next line -/

/-- R84: the first copy still to be printed of a label, if its slot is named. -/
abbrev State.firstOf (s : State) (slot : Option Nat) : Option Copy :=
  slot.bind fun i => (s.lbq.label i).map fun l => ⟨i, l.done + 1⟩

theorem State.nextCopy_idle (idle : s.lbq.printing = none) : s.lbq.nextCopy = s.firstOf s.lbq.queue.head? := by
  simp only [Lbq.nextCopy, idle]
  rfl

/-- R84: a further copy of the printing label. -/
theorem State.nextCopy_further {p : Printing} (prints : s.lbq.printing = some p)
    (label : s.lbq.label p.slot = some l) (more : p.copy < l.copies) (goesOn : l.finishing = false) :
    s.lbq.nextCopy = some ⟨p.slot, p.copy + 1⟩ := by
  simp [Lbq.nextCopy, prints, Lbq.copyAfter, label, more, goesOn]

/-- R84: behind the last copy of the printing label. -/
theorem State.nextCopy_behind {p : Printing} {before behind : List Nat} (prints : s.lbq.printing = some p)
    (label : s.lbq.label p.slot = some l) (last : l.copies ≤ p.copy ∨ l.finishing = true)
    (queue : s.lbq.queue = before ++ p.slot :: behind) (first : p.slot ∉ before) :
    s.lbq.nextCopy = s.firstOf behind.head? := by
  have none : ¬ (p.copy < l.copies ∧ !l.finishing) := by
    rcases last with last | last <;> simp [last]
  simp only [Lbq.nextCopy, prints, Lbq.copyAfter, label, if_neg none, queue, slotAfter_split first]
  rfl

/-! ### The end of a step of a run -/

/-- R117: a run that is not starved reports nothing. -/
theorem State.reportUnderrun_other (other : s.fmu.rest ≠ .starved) : s.reportUnderrun = s := by
  simp only [State.reportUnderrun, other, false_and, if_false]
  cases s.horizon.beyond <;> rfl

theorem State.endOfStep_run (mode : s.fmu.mode = .printRun) (run : s.fmu.move = .run) (m : MoveEnd) :
    s.endOfStep m = s.restReason.reportUnderrun := by
  simp only [State.endOfStep, mode, State.endOfRunStep, if_pos run]

/-- R116: a run with a step to take has no reason to rest. -/
theorem State.runStep_goesOn (mode : s.fmu.mode = .printRun) (run : s.fmu.move = .run)
    (goes : 0 < s.horizon.count ∨ s.nvs.mech.startSpeed < s.fmu.speed) (m : MoveEnd) :
    s.endOfStep m = { s with fmu := { s.fmu with rest := .none } } := by
  have steps : s.restReason = { s with fmu := { s.fmu with rest := .none } } := if_neg fun ⟨still, slow⟩ =>
    goes.elim (fun more => more.ne' still) fun fast => fast.not_ge slow
  rw [State.endOfStep_run mode run, steps, State.reportUnderrun_other (show Rest.none ≠ .starved by decide)]

/-- R116: a run whose horizon has ended rests, at S or below. -/
theorem State.runStep_rests (mode : s.fmu.mode = .printRun) (run : s.fmu.move = .run) (none : s.horizon.count = 0)
    (slow : s.fmu.speed ≤ s.nvs.mech.startSpeed) (m : MoveEnd) :
    s.endOfStep m = (s.restingFor s.horizon.beyond.rest).reportUnderrun := by
  have rests : s.restReason = s.restingFor s.horizon.beyond.rest := if_pos ⟨none, slow⟩
  rw [State.endOfStep_run mode run, rests]

/-- R117: a starved rest is reported once for each copy. -/
theorem State.restingFor_starved (starved : s.horizon.beyond = .notHeld c line) :
    (s.restingFor .starved).reportUnderrun =
      if s.fmu.underrun = some c then s.restingFor .starved
      else ({ s.restingFor .starved with fmu := { (s.restingFor .starved).fmu with underrun := some c } } : State).post
        ⟨.rasterUnderrun, BitVec.ofNat 8 c.copy, (s.lbq.label c.slot).elim 0xFFFF (·.number), BitVec.ofNat 16 line⟩ := by
  simp only [State.reportUnderrun, s.restingFor_horizon, starved, true_and, ne_eq, ite_not]

/-- Settles O45: the line that the head is handed, parts 1 and 2 of a step, the copies counted, the horizon, and where a
run rests. -/
theorem linesArePassedAndCopiesCounted : Obligations.LinesArePassedAndCopiesCounted := by
  refine ⟨fun s level elapsed h due room => lineStep_hands h due room level elapsed, fun s => ?_,
    fun s slot l label => ?_, fun s => ?_, fun s c line => ⟨rfl, rfl⟩, fun c line b rest => ?_, fun w m mode run => ?_⟩
  · refine ⟨fun outside => ?_, fun _ more none => ?_, fun under beyond => ?_, fun c line l under passes label => ?_⟩
    · exact State.lineParts12_slews fun under => absurd under (by rw [outside]; nofun)
    · exact State.lineParts12_slews fun _ => ⟨none, more.ne'⟩
    · exact State.lineParts12_overruns under beyond
    · exact (State.lineParts12_passes under passes).trans (State.passLine_eq label)
  · intro counted u gone
    have counts := State.copyDone_eq label
    refine ⟨fun goesOn more => ?_, fun goesOn last => ?_, fun finishes => ?_⟩
    · rw [counts, goesOn, if_neg nofun, if_neg more]
    · rw [counts, goesOn, if_neg nofun, if_pos last, last]
    · rw [counts, if_pos finishes]
  · intro h copyBehind beyond
    have road (r : Nat) (lines : List Nat) (is : h = s.roadBeyond r lines) : beyond r lines := by
      exact ⟨fun unknown => is.trans (State.roadBeyond_unknown unknown r lines), fun top state known =>
        ⟨fun none => is.trans (State.roadBeyond_last state known none r lines),
          fun c next => is.trans (State.roadBeyond_next state known next r lines)⟩⟩
    refine ⟨fun idle => road 0 [] (State.horizon_idle idle), fun p l prints label => ?_, State.nextCopy_idle,
      fun p l prints label => ⟨State.nextCopy_further prints label, fun before behind => State.nextCopy_behind prints label⟩,
      fun none => if_pos none, fun p more prints => ?_, fun more idle => ?_⟩
    · have held := State.horizon_printing prints label
      exact ⟨fun short => held.trans (if_pos short), fun all => road _ _ (held.trans (if_neg all.not_lt))⟩
    · rw [State.nextLine, if_neg more.ne', prints]
    · rw [State.nextLine, if_neg more.ne', idle]
  · intro holds
    have held : b.held ∧ b.slot = c.slot ∧ b.copy = c.copy ∧ b.first ≤ line ∧ line < b.first + b.count ↔ holds := by
      simp [holds, Band.held]
    exact ⟨fun is => if_pos (held.mpr is), fun not => if_neg (mt held.mp not)⟩
  · refine ⟨fun goes => State.runStep_goesOn mode run goes m, fun none slow => ?_⟩
    have rests := State.runStep_rests mode run none slow m
    refine ⟨fun beyond => ?_, fun beyond => ?_, fun beyond => ?_, fun c line beyond => ?_⟩
    · exact rests.trans (by rw [beyond, State.reportUnderrun_other (show Rest.gate ≠ .starved by decide)]; rfl)
    · exact rests.trans (by rw [beyond, State.reportUnderrun_other (show Rest.finished ≠ .starved by decide)]; rfl)
    · exact rests.trans (by rw [beyond, State.reportUnderrun_other (show Rest.topUnknown ≠ .starved by decide)]; rfl)
    · have starves : w.endOfStep m = (w.restingFor .starved).reportUnderrun := rests.trans (by rw [beyond]; rfl)
      rw [State.restingFor_starved beyond] at starves
      exact ⟨fun told => starves.trans (if_pos told), fun new => starves.trans (if_neg new)⟩

end Sys2Proof.Machine

end

section
/-! The pace of the motor behind a forward step (R111 to R113): the step is the last thing that sets its speed and its
direction; whatever it brings with it can only bring the motor to rest. What the head's and the sensor's records, the run
gate and the mechanism keep stands beside it. -/

namespace Sys2Proof.Machine

variable {s t u v : State} {n : Nat}

/-- R111: forward and energised, at this speed or at rest. -/
structure Fmu.Paced (n : Nat) (f : Fmu) : Prop where
  forward : f.backward = false
  on : f.energised = true
  speed : f.speed = n ∨ f.speed = 0

/-- R111: only speed, direction and current say so. -/
theorem Fmu.Paced.of_eq {f g : Fmu} (h : f.Paced n) (speed : g.speed = f.speed) (backward : g.backward = f.backward)
    (energised : g.energised = f.energised) : g.Paced n :=
  ⟨backward.trans h.forward, energised.trans h.on, by rw [speed]; exact h.speed⟩

@[simp] theorem Fmu.paced_mk {f : Fmu} (h : f.Paced n) (pos : Pos) (mode : Mode) (target : Option Pos)
    (stop : Option StopKind) (why : Option StopWhy) (move : Move) (motion : Option FreeMotion) (rest : Rest)
    (underrun : Option Copy) (present : Present) (offset : Nat) (settling : Bool) (idleTimer : Timer) :
    Fmu.Paced n ⟨pos, f.speed, f.backward, mode, target, stop, why, move, motion, rest, underrun, present, offset,
      f.energised, settling, idleTimer⟩ := ⟨h.forward, h.on, h.speed⟩

@[simp] theorem Fmu.paced_rest {f : Fmu} (h : f.Paced n) (pos : Pos) (mode : Mode) (target : Option Pos)
    (stop : Option StopKind) (why : Option StopWhy) (move : Move) (motion : Option FreeMotion) (rest : Rest)
    (underrun : Option Copy) (present : Present) (offset : Nat) (settling : Bool) (idleTimer : Timer) :
    Fmu.Paced n ⟨pos, 0, f.backward, mode, target, stop, why, move, motion, rest, underrun, present, offset,
      f.energised, settling, idleTimer⟩ := ⟨h.forward, h.on, .inr rfl⟩

@[simp] theorem Fmu.Paced.vacate (h : s.fmu.Paced n) (slot : Nat) (l : Label) :
    (s.vacate slot l).fmu.Paced n := by
  simp only [State.vacate]
  (repeat' split) <;> simp [h]

@[simp] theorem Fmu.Paced.removeLabel (h : s.fmu.Paced n) (slot : Nat) (report : Option Event) :
    (s.removeLabel slot report).fmu.Paced n := by
  simp only [State.removeLabel]
  (repeat' split) <;> simp [h]

@[simp] theorem Fmu.Paced.reportIdleQueue (h : s.fmu.Paced n) (before : Lbq) :
    (s.reportIdleQueue before).fmu.Paced n := by
  simp only [State.reportIdleQueue]
  (repeat' split) <;> simp [h]

@[simp] theorem Fmu.Paced.copyDone (h : s.fmu.Paced n) (slot : Nat) :
    (s.copyDone slot).fmu.Paced n := by
  simp only [State.copyDone]
  (repeat' split) <;> simp [h]

@[simp] theorem Fmu.Paced.passLine (h : s.fmu.Paced n) (l : LabelLine) :
    (s.passLine l).fmu.Paced n := by
  simp only [State.passLine]
  (repeat' split) <;> simp [h]

@[simp] theorem Fmu.Paced.discardInterrupted (h : s.fmu.Paced n) (slot : Nat) :
    (s.discardInterrupted slot).fmu.Paced n := by
  simp only [State.discardInterrupted]
  (repeat' split) <;> simp [h]

@[simp] theorem Fmu.Paced.enterRecovery (h : s.fmu.Paced n) (d : Bool) :
    (s.enterRecovery d).fmu.Paced n := by
  simp only [State.enterRecovery]
  (repeat' split) <;> simp [h]

@[simp] theorem Fmu.Paced.unregister (h : s.fmu.Paced n) :
    s.unregister.fmu.Paced n := h

@[simp] theorem Fmu.Paced.emptyEdges (h : s.fmu.Paced n) :
    s.emptyEdges.fmu.Paced n := h

@[simp] theorem Fmu.Paced.registerAt (h : s.fmu.Paced n) (top : Pos) :
    (s.registerAt top).fmu.Paced n := h

@[simp] theorem Fmu.Paced.atPrintLine (h : s.fmu.Paced n) :
    s.atPrintLine.fmu.Paced n := by
  simp [State.atPrintLine, h]

@[simp] theorem Fmu.Paced.post (h : s.fmu.Paced n) (e : Event) :
    (s.post e).fmu.Paced n := by
  simpa using h

@[simp] theorem Fmu.Paced.finish (h : s.fmu.Paced n) (e : Ending) :
    (s.finish e).fmu.Paced n := by
  simpa using h

@[simp] theorem Fmu.Paced.cutShort (h : s.fmu.Paced n) :
    s.cutShort.fmu.Paced n := by
  simp only [State.cutShort]
  (repeat' split) <;> simp [h]

@[simp] theorem Fmu.Paced.spoil (h : s.fmu.Paced n) :
    s.spoil.fmu.Paced n := by
  simp only [State.spoil]
  (repeat' split) <;> simp [h]

@[simp] theorem Fmu.Paced.toStopped (h : s.fmu.Paced n) :
    s.toStopped.fmu.Paced n := by
  simp [State.toStopped, h]

@[simp] theorem Fmu.Paced.beginStop (h : s.fmu.Paced n) (kind : StopKind) (why : StopWhy) :
    (s.beginStop kind why).fmu.Paced n := by
  simp [State.beginStop, h]

@[simp] theorem Fmu.Paced.beginMove (h : s.fmu.Paced n) (move : Move) (target : Option Pos) :
    (s.beginMove move target).fmu.Paced n := by
  simp [State.beginMove, h]

@[simp] theorem Fmu.Paced.stopForHalt (h : s.fmu.Paced n) (cs : List Cause) :
    (s.stopForHalt cs).fmu.Paced n := by
  simp only [State.stopForHalt]
  (repeat' split) <;> simp [h]

@[simp] theorem Fmu.Paced.recordHalt (h : s.fmu.Paced n) (cs : List Cause) (p : Cause) :
    (s.recordHalt cs p).fmu.Paced n := by
  simp [State.recordHalt, h]

@[simp] theorem Fmu.Paced.reseat (h : s.fmu.Paced n) :
    s.reseat.fmu.Paced n := h

@[simp] theorem Fmu.Paced.endMotion (h : s.fmu.Paced n) (e : Ending) :
    (s.endMotion e).fmu.Paced n := by
  simp only [State.endMotion]
  (repeat' split) <;> simp [h]

@[simp] theorem Fmu.Paced.halt (h : s.fmu.Paced n) (cs : List Cause) :
    (s.halt cs).fmu.Paced n := by
  obtain ⟨event, e, is⟩ := s.halt_ended cs
  have flushed : ({ (s.stopForHalt cs).spoil with ring := (s.stopForHalt cs).spoil.ring.flush } :
    State).reseat.fmu.Paced n := (h.stopForHalt cs).spoil
  have recorded : (s.haltRecorded cs).fmu.Paced n := flushed.cutShort.unregister.recordHalt _ _
  rw [is]
  exact (recorded.post event).endMotion e

@[simp] theorem Fmu.Paced.countEdges (h : s.fmu.Paced n) :
    s.countEdges.fmu.Paced n := by
  simp only [State.countEdges]
  (repeat' split) <;> simp [h]

@[simp] theorem Fmu.Paced.beginFind (h : s.fmu.Paced n) (k : Nat) :
    (s.beginFind k).fmu.Paced n := by
  simp [State.beginFind, h]

@[simp] theorem Fmu.Paced.takeFind (h : s.fmu.Paced n) :
    s.takeFind.fmu.Paced n := by
  simp [State.takeFind, h]

@[simp] theorem Fmu.Paced.takeCalibration (h : s.fmu.Paced n) :
    s.takeCalibration.fmu.Paced n := by
  simp only [State.takeCalibration]
  (repeat' split) <;> simp [h]

@[simp] theorem Fmu.Paced.runOn (h : s.fmu.Paced n) :
    s.runOn.fmu.Paced n := by
  have begun := h.beginFind 1
  simp only [State.runOn]
  (repeat' split)
  · exact h.of_eq rfl rfl rfl
  · exact begun.takeFind.of_eq rfl rfl rfl
  · exact begun.of_eq rfl rfl rfl
  · exact h.of_eq rfl rfl rfl

@[simp] theorem Fmu.Paced.beginRun (h : s.fmu.Paced n) :
    s.beginRun.fmu.Paced n := by
  simp only [State.beginRun]
  (repeat' split) <;> simp [h]

@[simp] theorem Fmu.Paced.autoPresent (h : s.fmu.Paced n) :
    s.autoPresent.fmu.Paced n := by
  simp only [State.autoPresent]
  (repeat' split) <;> simp [h]

@[simp] theorem Fmu.Paced.endRun (h : s.fmu.Paced n) :
    s.endRun.fmu.Paced n := by
  simp [State.endRun, h]

@[simp] theorem Fmu.Paced.actOnRest (h : s.fmu.Paced n) :
    s.actOnRest.fmu.Paced n := by
  simp only [State.actOnRest]
  (repeat' split) <;> simp [h]

@[simp] theorem Fmu.Paced.restReason (h : s.fmu.Paced n) :
    s.restReason.fmu.Paced n := by
  simp only [State.restReason]
  (repeat' split) <;> simp [h]

@[simp] theorem Fmu.Paced.weighRest (h : s.fmu.Paced n) :
    s.weighRest.fmu.Paced n := by
  simp only [State.weighRest]
  (repeat' split) <;> simp [h]

@[simp] theorem Fmu.Paced.reviewRun (h : s.fmu.Paced n) :
    s.reviewRun.fmu.Paced n := by
  simp [State.reviewRun, h]

@[simp] theorem Fmu.Paced.leavePause (h : s.fmu.Paced n) :
    s.leavePause.fmu.Paced n := by
  simp only [State.leavePause]
  (repeat' split) <;> simp [h]

@[simp] theorem Fmu.Paced.startRun (h : s.fmu.Paced n) :
    s.startRun.fmu.Paced n := by
  simp only [State.startRun]
  (repeat' split) <;> simp [h]

@[simp] theorem Fmu.Paced.enterHold (h : s.fmu.Paced n) :
    s.enterHold.fmu.Paced n := by
  simp only [State.enterHold]
  (repeat' split) <;> simp [h]

@[simp] theorem Fmu.Paced.recovered (h : s.fmu.Paced n) :
    s.recovered.fmu.Paced n := by
  have stopped := h.toStopped
  have rests : ({ s.toStopped with eng := { s.toStopped.eng with cond := .idle } } : State).fmu.Paced n := stopped
  have runs : ({ s.toStopped with eng := { s.toStopped.eng with cond := .running } } : State).fmu.Paced n := stopped
  simp only [State.recovered]
  (repeat' split)
  · exact (rests.post _).endMotion _
  · exact (runs.beginRun.enterHold.post _).endMotion _
  · exact (runs.beginRun.reviewRun.post _).endMotion _

@[simp] theorem Fmu.Paced.recoveryFind (h : s.fmu.Paced n) :
    s.recoveryFind.fmu.Paced n := by
  have begun := h.beginFind 1
  simp only [State.recoveryFind]
  (repeat' split)
  · exact (h.registerAt _).recovered
  · exact begun.takeFind.recovered
  · exact begun.of_eq rfl rfl rfl

@[simp] theorem Fmu.Paced.beginRecoveryFind (h : s.fmu.Paced n) :
    s.beginRecoveryFind.fmu.Paced n := by
  simp only [State.beginRecoveryFind]
  (repeat' split) <;> simp [h]

@[simp] theorem Fmu.Paced.endFreeMove (h : s.fmu.Paced n) :
    s.endFreeMove.fmu.Paced n := by
  simp [State.endFreeMove, h]

@[simp] theorem Fmu.Paced.targetReached (h : s.fmu.Paced n) :
    s.targetReached.fmu.Paced n := by
  simp only [State.targetReached]
  (repeat' split) <;> simp [h]

@[simp] theorem Fmu.Paced.failFreeMove (h : s.fmu.Paced n) (c : SenseCode) :
    (s.failFreeMove c).fmu.Paced n := by
  refine Fmu.Paced.endMotion ?_ _
  exact h.cutShort.unregister.toStopped.of_eq rfl rfl rfl

@[simp] theorem Fmu.Paced.failSearch (h : s.fmu.Paced n) :
    s.failSearch.fmu.Paced n := h.cutShort.toStopped.endMotion _

@[simp] theorem Fmu.Paced.searchFails (h : s.fmu.Paced n) :
    s.searchFails.fmu.Paced n := by
  simp only [State.searchFails]
  (repeat' split) <;> simp [h]

@[simp] theorem Fmu.Paced.calibrationEnds (h : s.fmu.Paced n) (e : Ending) :
    (s.calibrationEnds e).fmu.Paced n := h.cutShort.toStopped.endMotion e

@[simp] theorem Fmu.Paced.abortFreeMove (h : s.fmu.Paced n) :
    s.abortFreeMove.fmu.Paced n := h.cutShort.toStopped.endMotion _

@[simp] theorem Fmu.Paced.breakRecovery (h : s.fmu.Paced n) :
    s.breakRecovery.fmu.Paced n := by
  have alone : ({ s with fmu := { s.fmu with motion := none } } : State).fmu.Paced n := h.of_eq rfl rfl rfl
  exact (alone.toStopped.halt _).finish _

@[simp] theorem Fmu.Paced.stopEnded (h : s.fmu.Paced n) :
    s.stopEnded.fmu.Paced n := by
  simp only [State.stopEnded]
  (repeat' split) <;> simp [h]

@[simp] theorem Fmu.Paced.endOfFreeStep (h : s.fmu.Paced n) (m : MoveEnd) :
    (s.endOfFreeStep m).fmu.Paced n := by
  simp only [State.endOfFreeStep]
  (repeat' split) <;> simp [h]

@[simp] theorem Fmu.Paced.reportUnderrun (h : s.fmu.Paced n) :
    s.reportUnderrun.fmu.Paced n := by
  simp only [State.reportUnderrun]
  (repeat' split) <;> simp [h]

@[simp] theorem Fmu.Paced.endOfRunStep (h : s.fmu.Paced n) (m : MoveEnd) :
    (s.endOfRunStep m).fmu.Paced n := by
  simp only [State.endOfRunStep]
  (repeat' split) <;> simp [h]

@[simp] theorem Fmu.Paced.endOfStep (h : s.fmu.Paced n) (m : MoveEnd) :
    (s.endOfStep m).fmu.Paced n := by
  simp only [State.endOfStep]
  (repeat' split) <;> simp [h]

@[simp] theorem Fmu.Paced.addCause (h : s.fmu.Paced n) (c : Cause) :
    (s.addCause c).fmu.Paced n := by
  simp only [State.addCause]
  (repeat' split) <;> simp [h]

@[simp] theorem Fmu.Paced.stopForMediaOut (h : s.fmu.Paced n) :
    s.stopForMediaOut.fmu.Paced n := by
  simp only [State.stopForMediaOut]
  (repeat' split) <;> simp [h]

@[simp] theorem Fmu.Paced.mediaGone (h : s.fmu.Paced n) :
    s.mediaGone.fmu.Paced n := by
  simp only [State.mediaGone]
  (repeat' split) <;> simp [h]

@[simp] theorem Fmu.Paced.stopForFault (h : s.fmu.Paced n) (absent lost : Bool) :
    (s.stopForFault absent lost).fmu.Paced n := by
  simp only [State.stopForFault]
  (repeat' split) <;> simp [h]

@[simp] theorem Fmu.Paced.accept (h : s.fmu.Paced n) (code : Byte) :
    (s.accept code).fmu.Paced n := by
  simp only [State.accept]
  (repeat' split) <;> simp [h]

@[simp] theorem Fmu.Paced.commitFeed (h : s.fmu.Paced n) :
    s.commitFeed.fmu.Paced n := by
  have opened := h.atPrintLine.unregister
  simp only [State.commitFeed]
  (repeat' split)
  · exact h.finish _
  · exact (opened.emptyEdges.beginMove _ _).accept _
  · exact (opened.beginMove _ _).accept _

@[simp] theorem Fmu.Paced.commitAdvance (h : s.fmu.Paced n) :
    s.commitAdvance.fmu.Paced n := by
  have opened := h.atPrintLine.unregister
  have begun := opened.beginFind (num8 s.csq.block 2)
  simp only [State.commitAdvance]
  (repeat' split)
  · exact (opened.beginMove _ _).accept _
  · exact begun.takeFind.toStopped.finish _
  · refine Fmu.Paced.accept ?_ _
    exact begun.of_eq rfl rfl rfl

@[simp] theorem Fmu.Paced.commitCalibrate (h : s.fmu.Paced n) :
    s.commitCalibrate.fmu.Paced n := by
  refine Fmu.Paced.accept (Fmu.Paced.beginMove ?_ _ _) _
  exact h.atPrintLine.unregister.emptyEdges.of_eq rfl rfl rfl

@[simp] theorem Fmu.Paced.commitPresent (h : s.fmu.Paced n) :
    s.commitPresent.fmu.Paced n := by
  simp only [State.commitPresent]
  (repeat' split) <;> simp [h]

@[simp] theorem Fmu.Paced.commitRetract (h : s.fmu.Paced n) :
    s.commitRetract.fmu.Paced n := by
  simp only [State.commitRetract]
  (repeat' split) <;> simp [h]

@[simp] theorem Fmu.Paced.commitResume (h : s.fmu.Paced n) :
    s.commitResume.fmu.Paced n := by
  simp only [State.commitResume]
  (repeat' split)
  · exact ((h.enterRecovery _).accept _).beginRecoveryFind
  · exact h.finish _

@[simp] theorem Fmu.Paced.commitMotion (h : s.fmu.Paced n) :
    s.commitMotion.fmu.Paced n := by
  simp only [State.commitMotion]
  (repeat' split) <;> simp [h]

@[simp] theorem Fmu.Paced.motionStep5 (h : s.fmu.Paced n) :
    s.motionStep5.fmu.Paced n := State.act_elim (·.fmu.Paced n) (fun _ => h.finish _) fun _ _ => h.commitMotion

@[simp] theorem Fmu.Paced.endWait (h : s.fmu.Paced n) :
    s.endWait.fmu.Paced n := by
  simp only [State.endWait]
  (repeat' split) <;> simp [h]

@[simp] theorem Fmu.Paced.compactOn (h : s.fmu.Paced n) :
    s.compactOn.fmu.Paced n := by
  simp only [State.compactOn]
  (repeat' split) <;> simp [h]

@[simp] theorem Fmu.Paced.claim (h : s.fmu.Paced n) :
    s.claim.fmu.Paced n := by
  simp only [State.claim]
  (repeat' split) <;> simp [h]

@[simp] theorem Fmu.Paced.idleSampling (h : s.fmu.Paced n) :
    s.idleSampling.fmu.Paced n := by
  simp only [State.idleSampling]
  (repeat' split) <;> simp [h]

@[simp] theorem Fmu.Paced.energise (h : s.fmu.Paced n) :
    s.energise.fmu.Paced n := by
  rw [State.energise_energised h.on]
  exact h

@[simp] theorem Fmu.Paced.conclude (h : s.fmu.Paced n) :
    s.conclude.fmu.Paced n := h.endWait.compactOn.claim.reviewRun.leavePause.startRun.reviewRun.energise.idleSampling

@[simp] theorem Fmu.Paced.findStep (h : s.fmu.Paced n) :
    s.findStep.1.fmu.Paced n := by
  simp only [State.findStep]
  (repeat' split) <;> simp [h]

@[simp] theorem Fmu.Paced.measured (h : s.fmu.Paced n) (c : Calib) (a b d : Pos) :
    (s.measured c a b d).1.fmu.Paced n := by
  simp only [State.measured]
  (repeat' split) <;> simp [h]

@[simp] theorem Fmu.Paced.measureStep (h : s.fmu.Paced n) (c : Calib) (ch : Option ClassChange) :
    (s.measureStep c ch).1.fmu.Paced n := by
  simp only [State.measureStep]
  (repeat' split) <;> simp [h]

@[simp] theorem Fmu.Paced.calibStep (h : s.fmu.Paced n) (level : Byte) (ch : Option ClassChange) :
    (s.calibStep level ch).1.fmu.Paced n := by
  simp only [State.calibStep]
  (repeat' split) <;> simp [h]

@[simp] theorem Fmu.Paced.searchStep (h : s.fmu.Paced n) (level : Byte) (ch : Option ClassChange) :
    (s.searchStep level ch).1.fmu.Paced n := by
  simp only [State.searchStep]
  (repeat' split) <;> simp [h]

@[simp] theorem Fmu.Paced.loseRegistration (h : s.fmu.Paced n) :
    s.loseRegistration.fmu.Paced n := by
  simp [State.loseRegistration, h]

@[simp] theorem Fmu.Paced.decide4 (h : s.fmu.Paced n) (under : Bool) (level : Byte) (ch : Option ClassChange) :
    (s.decide4 under level ch).state.fmu.Paced n := by
  simp only [State.decide4]
  (repeat' split) <;> simp [h]

end Sys2Proof.Machine

end

section
/-! A forward step (R111): it leaves the run gate alone, and behind part 3 the sensor's reading. -/

namespace Sys2Proof.Machine

variable {s t u v : State}

@[simp] theorem State.vacate_gate (s : State) (slot : Nat) (l : Label) :
    (s.vacate slot l).lbq.gate = s.lbq.gate := by
  exact (s.vacate_queue slot l).2

@[simp] theorem State.removeLabel_gate (s : State) (slot : Nat) (report : Option Event) :
    (s.removeLabel slot report).lbq.gate = s.lbq.gate := by
  exact (s.removeLabel_queue slot report).2

@[simp] theorem State.copyDone_gate (s : State) (slot : Nat) :
    (s.copyDone slot).lbq.gate = s.lbq.gate := by
  simp only [State.copyDone]
  (repeat' split) <;> simp [Lbq.setLabel]

@[simp] theorem State.beginCopy_gate (s : State) (c : Copy) :
    (s.beginCopy c).lbq.gate = s.lbq.gate := rfl

@[simp] theorem State.countLine_gate (s : State) :
    s.countLine.lbq.gate = s.lbq.gate := rfl

@[simp] theorem State.stepForward_gate (s : State) (v : Nat) :
    (s.stepForward v).lbq.gate = s.lbq.gate := rfl

@[simp] theorem State.passLine_gate (s : State) (l : LabelLine) :
    (s.passLine l).lbq.gate = s.lbq.gate := by
  simp only [State.passLine]
  (repeat' split) <;> simp

@[simp] theorem State.lineParts12_gate (s : State) :
    s.lineParts12.lbq.gate = s.lbq.gate := by
  simp only [State.lineParts12]
  (repeat' split) <;> simp

@[simp] theorem State.spoil_gate (s : State) :
    s.spoil.lbq.gate = s.lbq.gate := by
  simp only [State.spoil]
  (repeat' split) <;> simp

@[simp] theorem State.halt_gate (s : State) (cs : List Cause) :
    (s.halt cs).lbq.gate = s.lbq.gate := by
  simp [State.halt]

@[simp] theorem State.mediaGone_gate (s : State) :
    s.mediaGone.lbq.gate = s.lbq.gate := by
  simp only [State.mediaGone]
  (repeat' split) <;> simp

@[simp] theorem State.stopForFault_gate (s : State) (absent lost : Bool) :
    (s.stopForFault absent lost).lbq.gate = s.lbq.gate := by
  simp only [State.stopForFault]
  (repeat' split) <;> simp

@[simp] theorem State.breakRecovery_gate (s : State) :
    s.breakRecovery.lbq.gate = s.lbq.gate := by
  simp [State.breakRecovery]

@[simp] theorem State.stopEnded_gate (s : State) :
    s.stopEnded.lbq.gate = s.lbq.gate := by
  simp only [State.stopEnded]
  (repeat' split) <;> simp

@[simp] theorem State.endOfStep_gate (s : State) (m : MoveEnd) :
    (s.endOfStep m).lbq.gate = s.lbq.gate := by
  simp only [State.endOfStep]
  (repeat' split) <;> simp

@[simp] theorem State.discardInterrupted_gate (s : State) (slot : Nat) :
    (s.discardInterrupted slot).lbq.gate = s.lbq.gate := by
  simp only [State.discardInterrupted]
  (repeat' split) <;> simp

@[simp] theorem State.enterRecovery_gate (s : State) (d : Bool) :
    (s.enterRecovery d).lbq.gate = s.lbq.gate := by
  simp only [State.enterRecovery]
  (repeat' split) <;> simp

@[simp] theorem State.commitResume_gate (s : State) :
    s.commitResume.lbq.gate = s.lbq.gate := by
  simp only [State.commitResume]
  (repeat' split) <;> simp

@[simp] theorem State.commitMotion_gate (s : State) :
    s.commitMotion.lbq.gate = s.lbq.gate := by
  simp only [State.commitMotion]
  (repeat' split) <;> simp

@[simp] theorem State.endWait_gate (s : State) :
    s.endWait.lbq.gate = s.lbq.gate := by
  simp only [State.endWait]
  split
  · exact State.act_elim (·.lbq.gate = s.lbq.gate) (fun _ => by simp) fun _ _ => by simp
  · rfl

@[simp] theorem State.conclude_gate (s : State) :
    s.conclude.lbq.gate = s.lbq.gate := by
  simp [State.conclude]

@[simp] theorem State.findStep_reading (s : State) :
    s.findStep.1.msu.reading = s.msu.reading := by
  simp only [State.findStep]
  (repeat' split) <;> simp

@[simp] theorem State.measured_reading (s : State) (c : Calib) (a b d : Pos) :
    (s.measured c a b d).1.msu.reading = s.msu.reading := by
  simp only [State.measured]
  (repeat' split) <;> simp

@[simp] theorem State.measureStep_reading (s : State) (c : Calib) (ch : Option ClassChange) :
    (s.measureStep c ch).1.msu.reading = s.msu.reading := by
  simp only [State.measureStep]
  (repeat' split) <;> simp

@[simp] theorem State.surveyStep_reading (s : State) (c : Calib) (level : Byte) :
    (s.surveyStep c level).1.msu.reading = s.msu.reading := by
  simp only [State.surveyStep]
  (repeat' split) <;> simp

@[simp] theorem State.calibStep_reading (s : State) (level : Byte) (ch : Option ClassChange) :
    (s.calibStep level ch).1.msu.reading = s.msu.reading := by
  simp only [State.calibStep]
  (repeat' split) <;> simp

@[simp] theorem State.searchStep_reading (s : State) (level : Byte) (ch : Option ClassChange) :
    (s.searchStep level ch).1.msu.reading = s.msu.reading := by
  simp only [State.searchStep]
  (repeat' split) <;> simp

@[simp] theorem State.missTop_reading (s : State) (top : Pos) :
    (s.missTop top).1.msu.reading = s.msu.reading := by
  simp only [State.missTop]
  (repeat' split) <;> simp

@[simp] theorem State.decideWindow_reading (s : State) :
    s.decideWindow.1.msu.reading = s.msu.reading := by
  simp only [State.decideWindow]
  (repeat' split) <;> simp

@[simp] theorem State.loseRegistration_reading (s : State) :
    s.loseRegistration.msu.reading = s.msu.reading := by
  simp [State.loseRegistration]

@[simp] theorem State.decide4_reading (s : State) (under : Bool) (level : Byte) (ch : Option ClassChange) :
    (s.decide4 under level ch).state.msu.reading = s.msu.reading := by
  simp only [State.decide4]
  (repeat' split) <;> simp

end Sys2Proof.Machine

end

section
/-! The step sample (R127 to R130): what it makes of the sensor's record, case by case. -/

namespace Sys2Proof.Machine

variable {s t u v a : State} {level : Byte}

/-! ### The debounced class -/

/-- R127: what a step sample makes of the candidate class, and the change of class that it completes. -/
abbrev State.debounced (a : State) (level : Byte) : Msu × Option ClassChange :=
  (({ a.msu with raw := level } : Msu).restarted .step).debounceStep (a.classOf level) a.fmu.pos

/-- R127: the sample agrees with the candidate that the last step sample left. -/
abbrev State.agrees (a : State) (level : Byte) : Prop :=
  a.msu.lastKind = .step ∧ a.msu.cand = some (a.classOf level)

/-- R127: how many step samples agree now. -/
abbrev State.agreement (a : State) (level : Byte) : Nat := if a.agrees level then a.msu.agree + 1 else 1

/-- R127: the sensor's record once a step sample has come, up to what is debounced. -/
abbrev State.sampledMsu (a : State) (level : Byte) (cls : Class) (cand : Option Class) (agree : Nat) (candPos : Pos) : Msu :=
  { a.msu with raw := level, lastKind := .step, cls := cls, cand := cand, agree := agree, candPos := candPos }

/-- R127: a sample of the debounced class drops the candidate. -/
theorem State.debounced_same (same : a.classOf level = a.msu.cls) :
    a.debounced level = (a.sampledMsu level a.msu.cls none 0 a.msu.candPos, none) := by
  simp only [State.debounced, Msu.debounceStep, Msu.restarted, same]
  split <;> simp_all

/-- R127: short of three, the candidate is counted. -/
theorem State.debounced_counts (other : a.classOf level ≠ a.msu.cls) (short : a.agreement level ≠ 3) :
    a.debounced level = (a.sampledMsu level a.msu.cls (some (a.classOf level)) (a.agreement level)
      (if a.agrees level then a.msu.candPos else a.fmu.pos), none) := by
  by_cases kind : a.msu.lastKind = .step
  · by_cases cand : a.msu.cand = some (a.classOf level)
    · have three : a.msu.agree + 1 ≠ 3 := by simpa [State.agreement, State.agrees, kind, cand] using short
      simp [State.debounced, Msu.debounceStep, Msu.restarted, kind, cand, other, three]
    · simp [State.debounced, Msu.debounceStep, Msu.restarted, kind, cand, other]
  · simp [State.debounced, Msu.debounceStep, Msu.restarted, kind, other]

/-- R127: the third that agrees changes the class, at the first one's position. -/
theorem State.debounced_changes (other : a.classOf level ≠ a.msu.cls) (third : a.agreement level = 3) :
    a.debounced level = (a.sampledMsu level (a.classOf level) none 0 a.msu.candPos,
      some ⟨a.msu.cls, a.classOf level, a.msu.candPos⟩) := by
  have agrees : a.agrees level := by
    by_contra not
    rw [State.agreement, if_neg not] at third
    nomatch third
  have three : a.msu.agree + 1 = 3 := by rwa [State.agreement, if_pos agrees] at third
  obtain ⟨kind, cand⟩ := agrees
  simp [State.debounced, Msu.debounceStep, Msu.restarted, kind, cand, other, three]

/-- R127: the debounce changes nothing else. -/
theorem State.debounced_frame (a : State) (level : Byte) : (a.debounced level).1 = a.sampledMsu level
    (a.debounced level).1.cls (a.debounced level).1.cand (a.debounced level).1.agree (a.debounced level).1.candPos := by
  by_cases same : a.classOf level = a.msu.cls
  · rw [State.debounced_same same]
  by_cases third : a.agreement level = 3
  · rw [State.debounced_changes same third]
  · rw [State.debounced_counts same third]

/-- R127: a change is referred to the candidate's position. -/
theorem State.debounced_at {c : ClassChange} (change : (a.debounced level).2 = some c) : c.at_ = a.msu.candPos := by
  by_cases same : a.classOf level = a.msu.cls
  · rw [State.debounced_same same] at change
    nomatch change
  by_cases third : a.agreement level = 3
  · rw [State.debounced_changes same third] at change
    cases change
    rfl
  · rw [State.debounced_counts same third] at change
    nomatch change

/-! ### Media out -/

/-- R128: the step sample sets the media-absent condition. -/
abbrev State.runsOut (u : State) : Bool :=
  decide (u.msu.cls = .empty ∧ u.msu.emptyRun < u.nvs.mech.outLength ∧ u.nvs.mech.outLength ≤ u.msu.emptyRun + 1 ∧
    u.msu.absent = false)

theorem State.countEmpty_eq (u : State) : u.countEmpty = ({ u with
    eng := (if u.runsOut then u.post ⟨.mediaOut, 0, 0xFFFF, u.fmu.pos.setWidth 16⟩ else u).eng
    msu := { u.msu with
      emptyRun := if u.msu.cls = .empty then min u.nvs.mech.outLength (u.msu.emptyRun + 1) else 0
      absent := u.msu.absent || u.runsOut } }, u.runsOut) := by
  by_cases empty : u.msu.cls = .empty
  · have reached : (decide (u.msu.emptyRun < u.nvs.mech.outLength ∧
        min u.nvs.mech.outLength (u.msu.emptyRun + 1) = u.nvs.mech.outLength) && !u.msu.absent) = u.runsOut := by
      simp [State.runsOut, empty, Bool.and_assoc]
    simp only [State.countEmpty, if_pos empty, reached]
    cases u.runsOut with
    | false => simp
    | true =>
      simp only [State.mediaOut, State.post_eq, if_true, Bool.or_true]
      rfl
  · simp [State.countEmpty, State.runsOut, empty]

/-! ### Leading edges -/

/-- R129: a leading edge that is accepted. -/
abbrev State.takesEdge (u : State) (change : Option ClassChange) (candPos : Pos) : Prop :=
  change = some ⟨.marker, .media, candPos⟩ ∧ u.nvs.profile.mode ≠ .continuous ∧ u.msu.calib = none ∧
  ∀ l, u.msu.lastEdge = some l → (u.nvs.profile.pitch : Int) - u.nvs.profile.tolerance ≤ (u.edgeAt candPos - l).toInt

theorem State.edgeSpaced_iff (u : State) (e : Pos) : u.edgeSpaced e = true ↔ ∀ l, u.msu.lastEdge = some l →
    (u.nvs.profile.pitch : Int) - u.nvs.profile.tolerance ≤ (e - l).toInt := by
  cases last : u.msu.lastEdge <;> simp [State.edgeSpaced, last, ahead]

/-- R130: the edges that an accepted one finds in the queue. -/
abbrev State.edgeRoom (u : State) : List Pos :=
  if u.msu.edges.length < 16 then u.msu.edges else u.msu.edges.dropWhile fun e => decide ((e - u.fmu.pos).toInt ≤ 0)

/-- R130: an accepted edge joins the queue, if it has room. -/
theorem State.takeEdge_takes {change : Option ClassChange} {candPos : Pos} (takes : u.takesEdge change candPos) :
    u.takeEdge change = { u with msu := { u.msu with
      edges := if u.edgeRoom.length < 16 then u.edgeRoom ++ [u.edgeAt candPos] else u.edgeRoom
      lastEdge := some (u.edgeAt candPos) } } := by
  obtain ⟨rfl, mode, calib, spaced⟩ := takes
  have none : ¬ (u.nvs.profile.mode = .continuous ∨ u.msu.calib.isSome = true) := by simp [mode, calib]
  simp only [State.takeEdge, if_neg none, if_pos ((u.edgeSpaced_iff _).mpr spaced)]
  rfl

/-- R129: no other change of class brings an edge. -/
theorem State.takeEdge_leaves {change : Option ClassChange} {candPos : Pos}
    (here : ∀ c, change = some c → c.at_ = candPos) (not : ¬ u.takesEdge change candPos) : u.takeEdge change = u := by
  simp only [State.takeEdge]
  split
  next p =>
    obtain rfl : p = candPos := here _ rfl
    split
    · rfl
    next gap =>
      obtain ⟨mode, calib⟩ := not_or.mp gap
      refine if_neg fun spaced => not ⟨rfl, mode, by simpa using calib, (u.edgeSpaced_iff _).mp spaced⟩
  · rfl

/-! ### The step sample -/

/-- R127, R128: the state once a step sample has been debounced and counted. -/
abbrev State.countedEmpty (a : State) (level : Byte) : State × Bool :=
  ({ a with msu := (a.debounced level).1 } : State).countEmpty

theorem State.stepSample_eq (a : State) (level : Byte) : a.stepSample level =
    ⟨(a.countedEmpty level).1.takeEdge (a.debounced level).2, (a.debounced level).2, (a.countedEmpty level).2⟩ := rfl

/-- R128: this step sample sets the media-absent condition. -/
abbrev State.goesOut (a : State) (level : Byte) : Bool :=
  decide ((a.debounced level).1.cls = .empty ∧ a.msu.emptyRun < a.nvs.mech.outLength ∧
    a.nvs.mech.outLength ≤ a.msu.emptyRun + 1 ∧ a.msu.absent = false)

/-- R128: the empty-run count behind a step sample. -/
abbrev State.emptyCount (a : State) (level : Byte) : Nat :=
  if (a.debounced level).1.cls = .empty then min a.nvs.mech.outLength (a.msu.emptyRun + 1) else 0

/-- R127, R128: the sensor's record behind a step sample, but for the edges. -/
abbrev State.countedMsu (a : State) (level : Byte) : Msu :=
  { (a.debounced level).1 with
    emptyRun := a.emptyCount level
    absent := a.msu.absent || a.goesOut level }

theorem State.countedEmpty_eq (a : State) (level : Byte) : a.countedEmpty level = ({ a with
    eng := (if a.goesOut level then a.post ⟨.mediaOut, 0, 0xFFFF, a.fmu.pos.setWidth 16⟩ else a).eng
    msu := a.countedMsu level }, a.goesOut level) := by
  have frame := a.debounced_frame level
  obtain ⟨d, is⟩ : ∃ d, (a.debounced level).1 = d := ⟨_, rfl⟩
  rw [is] at frame
  have out : ({ a with msu := d } : State).runsOut = a.goesOut level := by
    simp only [State.runsOut, State.goesOut, is]
    rw [frame]
  have posted : (if a.goesOut level = true then
      ({ a with msu := d } : State).post ⟨.mediaOut, 0, 0xFFFF, a.fmu.pos.setWidth 16⟩ else { a with msu := d }).eng =
      (if a.goesOut level then a.post ⟨.mediaOut, 0, 0xFFFF, a.fmu.pos.setWidth 16⟩ else a).eng := by
    split
    · exact State.post_eng (u := { a with msu := d }) (v := a) rfl _
    · rfl
  have counted : ({ d with
      emptyRun := if d.cls = .empty then min a.nvs.mech.outLength (d.emptyRun + 1) else 0
      absent := d.absent || a.goesOut level } : Msu) = a.countedMsu level := by
    rw [State.countedMsu, State.emptyCount, is, frame]
  rw [State.countedEmpty, is, State.countEmpty_eq, out, posted, ← counted]

theorem State.stepSample_change (a : State) (level : Byte) : (a.stepSample level).change = (a.debounced level).2 := rfl

theorem State.stepSample_absentNow (a : State) (level : Byte) : (a.stepSample level).absentNow = a.goesOut level := by
  rw [State.stepSample_eq, State.countedEmpty_eq]

/-- R127, R128: the edges and the calibration wait for part 4 of the sample. -/
theorem State.countedMsu_edges (a : State) (level : Byte) : (a.countedMsu level).edges = a.msu.edges ∧
    (a.countedMsu level).lastEdge = a.msu.lastEdge ∧ (a.countedMsu level).calib = a.msu.calib :=
  have frame := a.debounced_frame level
  ⟨(congrArg Msu.edges frame :), (congrArg Msu.lastEdge frame :), (congrArg Msu.calib frame :)⟩

/-- R129: the leading edge that the step sample takes. -/
theorem State.stepSample_takes (takes : a.takesEdge (a.debounced level).2 a.msu.candPos) :
    (a.stepSample level).state = { a with
      eng := (if a.goesOut level then a.post ⟨.mediaOut, 0, 0xFFFF, a.fmu.pos.setWidth 16⟩ else a).eng
      msu := { a.countedMsu level with
        edges := if a.edgeRoom.length < 16 then a.edgeRoom ++ [a.edgeAt a.msu.candPos] else a.edgeRoom
        lastEdge := some (a.edgeAt a.msu.candPos) } } := by
  obtain ⟨edges, lastEdge, calib⟩ := a.countedMsu_edges level
  rw [State.stepSample_eq, State.countedEmpty_eq]
  obtain ⟨m, is⟩ : ∃ m, a.countedMsu level = m := ⟨_, rfl⟩
  obtain ⟨g, posted⟩ : ∃ g, (if a.goesOut level then a.post ⟨.mediaOut, 0, 0xFFFF, a.fmu.pos.setWidth 16⟩ else a).eng = g :=
    ⟨_, rfl⟩
  rw [is] at edges lastEdge calib ⊢
  rw [posted]
  obtain ⟨change, mode, none, spaced⟩ := takes
  refine (State.takeEdge_takes (u := { a with eng := g, msu := m })
    ⟨change, mode, calib.trans none, fun l last => spaced l (lastEdge ▸ last)⟩).trans ?_
  simp only [State.edgeRoom, edges]
  rfl

/-- R129: and where it takes none. -/
theorem State.stepSample_leaves (not : ¬ a.takesEdge (a.debounced level).2 a.msu.candPos) :
    (a.stepSample level).state = { a with
      eng := (if a.goesOut level then a.post ⟨.mediaOut, 0, 0xFFFF, a.fmu.pos.setWidth 16⟩ else a).eng
      msu := a.countedMsu level } := by
  obtain ⟨-, lastEdge, calib⟩ := a.countedMsu_edges level
  rw [State.stepSample_eq, State.countedEmpty_eq]
  refine State.takeEdge_leaves (fun _ => State.debounced_at) fun ⟨change, mode, idle, spaced⟩ => not
    ⟨change, mode, calib.symm.trans idle, fun l last => spaced l (lastEdge.trans last)⟩

/-- R127 to R130: what a step sample changes, field by field. -/
theorem State.stepSample_state (a : State) (level : Byte) : ∃ edges lastEdge,
    (a.takesEdge (a.debounced level).2 a.msu.candPos →
      edges = (if a.edgeRoom.length < 16 then a.edgeRoom ++ [a.edgeAt a.msu.candPos] else a.edgeRoom) ∧
      lastEdge = some (a.edgeAt a.msu.candPos)) ∧
    (¬ a.takesEdge (a.debounced level).2 a.msu.candPos → edges = a.msu.edges ∧ lastEdge = a.msu.lastEdge) ∧
    (a.stepSample level).state = { a with
      eng := (if a.goesOut level then a.post ⟨.mediaOut, 0, 0xFFFF, a.fmu.pos.setWidth 16⟩ else a).eng
      msu := { a.msu with
        raw := level, lastKind := .step, cls := (a.debounced level).1.cls, cand := (a.debounced level).1.cand
        agree := (a.debounced level).1.agree, candPos := (a.debounced level).1.candPos
        emptyRun := a.emptyCount level, absent := a.msu.absent || a.goesOut level, edges := edges, lastEdge := lastEdge } } :=
  by
  have frame (edges : List Pos) (lastEdge : Option Pos) : ({ a.countedMsu level with edges := edges, lastEdge := lastEdge } :
      Msu) = { a.sampledMsu level (a.debounced level).1.cls (a.debounced level).1.cand (a.debounced level).1.agree
        (a.debounced level).1.candPos with
        emptyRun := a.emptyCount level, absent := a.msu.absent || a.goesOut level, edges := edges, lastEdge := lastEdge } :=
    (congrArg (fun d : Msu => ({ d with
      emptyRun := a.emptyCount level, absent := a.msu.absent || a.goesOut level, edges := edges, lastEdge := lastEdge } :
      Msu)) (a.debounced_frame level) :)
  by_cases takes : a.takesEdge (a.debounced level).2 a.msu.candPos
  · exact ⟨_, _, fun _ => ⟨rfl, rfl⟩, fun not => absurd takes not, by rw [State.stepSample_takes takes, frame]⟩
  · refine ⟨_, _, fun is => absurd is takes, fun _ => ⟨rfl, rfl⟩, ?_⟩
    rw [State.stepSample_leaves takes, ← frame]
    obtain ⟨edges, lastEdge, -⟩ := a.countedMsu_edges level
    rw [← edges, ← lastEdge]

end Sys2Proof.Machine

end

section
/-! The window decision (R132) and the speed of a forward step (R113, R116, R119, R120), said once. -/

namespace Sys2Proof.Machine

variable {s t u v : State} {top e : Pos}

/-! ### The window decision -/

/-- R132: the step stands at the decision point of this undecided top. -/
abbrev State.decidesOn (s : State) (top : Pos) : Prop :=
  s.msu.reg.top = some top ∧ s.nvs.profile.mode ≠ .continuous ∧ s.msu.reg.state ≠ .unknown ∧ s.msu.reg.decided = false ∧
  s.fmu.pos = top - BitVec.ofNat 32 (s.nvs.profile.tolerance + 1)

/-- R132 step 1: the edges that do not lie before the window. -/
abbrev State.windowEdges (s : State) (top : Pos) : List Pos :=
  s.msu.edges.dropWhile fun e => decide ((e - top).toInt < -(s.nvs.profile.tolerance : Int))

/-- The state with these edges and this registration. -/
abbrev State.registeredAs (s : State) (edges : List Pos) (reg : Registration) : State :=
  { s with msu := { s.msu with edges := edges, reg := reg } }

theorem State.atDecision_eq (known : s.msu.reg.top = some top) :
    s.atDecision = if s.decidesOn top then some top else none := by
  simp only [State.atDecision, known, shift_back]
  exact if_congr (by simp [State.decidesOn, known]) rfl rfl

theorem State.decideWindow_idle (none : s.atDecision = none) : s.decideWindow = (s, false) := by
  simp only [State.decideWindow, none]

/-- R132 step 2: an edge in the window is the top. -/
theorem State.decideWindow_found {rest : List Pos} (decides : s.decidesOn top) (queue : s.windowEdges top = e :: rest)
    (near : (e - top).toInt ≤ s.nvs.profile.tolerance) :
    s.decideWindow = (s.registeredAs rest ⟨.registered, some e, true, 0⟩, false) := by
  have at_ := (State.atDecision_eq decides.1).trans (if_pos decides)
  have first : (s.msu.edges.dropWhile fun x => decide (ahead top x < -(s.nvs.profile.tolerance : Int))) = e :: rest := queue
  have inside : ahead top e ≤ s.nvs.profile.tolerance := near
  simp only [State.decideWindow, at_, first, if_pos inside]
  rfl

/-- R132 steps 3 and 4: no edge in the window. -/
theorem State.decideWindow_missed (decides : s.decidesOn top)
    (none : ∀ e rest, s.windowEdges top = e :: rest → s.nvs.profile.tolerance < (e - top).toInt) :
    s.decideWindow = ({ s with msu := { s.msu with edges := s.windowEdges top } } : State).missTop top := by
  have at_ := (State.atDecision_eq decides.1).trans (if_pos decides)
  simp only [State.decideWindow, at_]
  cases queue : s.msu.edges.dropWhile fun x => decide (ahead top x < -(s.nvs.profile.tolerance : Int)) with
  | cons e rest =>
    have first : s.windowEdges top = e :: rest := queue
    rw [first]
    exact if_neg (none e rest first).not_ge
  | nil =>
    have first : s.windowEdges top = [] := queue
    rw [first]

/-- R132 step 3: a first miss is coasted over. -/
theorem State.missTop_coasts (first : s.msu.reg.miss = 0) : s.missTop top =
    (({ s with msu := { s.msu with reg := ⟨.flywheel, some top, true, 1⟩ } } : State).post
      ⟨.edgeMissed, 1, 0xFFFF, top.setWidth 16⟩, false) := by
  rw [State.missTop, if_neg (by rw [first]; decide), first]
  rfl

/-- R132 step 4: a second one loses registration. -/
theorem State.missTop_loses (again : 1 ≤ s.msu.reg.miss) : s.missTop top =
    (({ s with msu := { s.msu with reg := ⟨.unknown, none, false, 0⟩ } } : State).post
      ⟨.registrationLost, 2, 0xFFFF, top.setWidth 16⟩, true) :=
  if_pos (Nat.succ_le_succ again)

/-! ### The speed chosen for a step -/

/-- R116: the look-ahead cap is the greatest speed that every line ahead, and the end of the road, allow. -/
theorem State.le_lookAhead (s : State) (h : Horizon) (c : Nat) : c ≤ s.lookAhead h ↔
    c ≤ s.nvs.mech.startSpeed + s.nvs.profile.accel * (h.count - 1) ∧
      ∀ l ∈ h.lines, 2 ≤ l.1 → ∀ k, s.capOf l.2 = some k → c ≤ k + s.nvs.profile.accel * (l.1 - 1) := by
  simp only [State.lookAhead, State.accel, State.startSpeed]
  generalize s.nvs.mech.startSpeed + s.nvs.profile.accel * (h.count - 1) = road
  induction h.lines generalizing road with
  | nil => simp
  | cons l lines ih =>
    rw [List.foldl_cons, ih, List.forall_mem_cons, ← and_assoc]
    refine and_congr_left' ?_
    by_cases near : l.1 < 2
    · simp [near, show ¬ 2 ≤ l.1 by omega]
    · cases s.capOf l.2 <;> simp [near, show 2 ≤ l.1 by omega]

/-- R104: a line's cap, by the passes that its dots take. -/
theorem State.capOf_eq (s : State) (dots : Nat) : s.capOf dots = if dots = 0 then none else
    some (1000000 / ((if dots ≤ s.nvs.mech.powerLimit then 1 else if dots ≤ 2 * s.nvs.mech.powerLimit then 2 else 4) *
      fullStrobe s.nvs.profile.darkness s.hdu.temp)) := by
  by_cases blank : dots = 0
  · simp [State.capOf, lineCap, blank]
  · simp only [State.capOf, lineCap, lineTime, passSegments, if_neg blank]
    (repeat' split) <;> simp

/-- R113: a free move changes its speed by A at most, and starts at S at most. -/
theorem State.freeSpeed_bounds (s : State) : (s.fmu.speed = 0 → s.freeSpeed ≤ s.nvs.mech.startSpeed) ∧
    (0 < s.fmu.speed → s.fmu.speed - s.nvs.profile.accel ≤ s.freeSpeed ∧
      s.freeSpeed ≤ s.fmu.speed + s.nvs.profile.accel) := by
  simp only [State.freeSpeed, State.accel, State.startSpeed]
  generalize capped (capped s.cruise s.targetCap) s.edgeCap = cap
  refine ⟨fun rests => ?_, fun moves => ?_⟩
  · rw [if_pos rests, rests]
    omega
  · rw [if_neg moves.ne']
    omega

theorem State.underHorizon_iff (s : State) : s.underHorizon = true ↔
    s.fmu.move = .run ∧ (s.fmu.mode = .printRun ∨ (s.fmu.mode = .stopping ∧ s.fmu.stop = some .soft)) := by
  simp [State.underHorizon]

/-- R113, R119: the lowest speed of a step within a run. -/
abbrev State.runFloor (s : State) (h : Horizon) : Nat :=
  if s.nvs.mech.startSpeed + s.nvs.profile.accel * (h.count - 1) < s.fmu.speed then
    s.fmu.speed - s.nvs.mech.faultDecel
  else s.fmu.speed - s.nvs.profile.accel

theorem State.runFloor_eq (s : State) (h : Horizon) :
    (if s.withdrawn h then s.fmu.speed - s.faultDecel else s.fmu.speed - s.accel) = s.runFloor h :=
  if_congr decide_eq_true_iff rfl rfl

/-- R113: the highest, by the present speed. -/
abbrev State.upperSpeed (s : State) : Nat :=
  if s.fmu.speed = 0 then s.nvs.mech.startSpeed else s.fmu.speed + s.nvs.profile.accel

/-- R113: the speed of a run step. -/
theorem State.forwardSpeed_run (under : s.underHorizon = true) (mode : s.fmu.mode = .printRun) (h : Horizon) :
    s.forwardSpeed h = capped (max (s.runFloor h) (min s.upperSpeed (min s.nvs.profile.speed
      (capped (s.lookAhead h) (s.lineCapNow h))))) (s.lineCapNow h) := by
  rw [State.forwardSpeed, if_pos under, if_pos mode, State.runSpeed, State.runFloor_eq]
  rfl

/-- R120: the speed of a step of a soft stop in a run. -/
theorem State.forwardSpeed_runStop (under : s.underHorizon = true) (mode : s.fmu.mode = .stopping) (h : Horizon) :
    s.forwardSpeed h = capped (max (s.runFloor h) (min (max s.nvs.mech.startSpeed (s.fmu.speed - s.nvs.profile.accel))
      (capped (s.lookAhead h) (s.lineCapNow h)))) (s.lineCapNow h) := by
  rw [State.forwardSpeed, if_pos under, if_neg (by rw [mode]; nofun), State.runStopSpeed, State.runFloor_eq]
  rfl

/-- R120: the speed of a step of any other stop. -/
theorem State.forwardSpeed_stop (outside : ¬ s.underHorizon = true) (mode : s.fmu.mode = .stopping) (h : Horizon) :
    s.forwardSpeed h = max s.nvs.mech.startSpeed
      (s.fmu.speed - if s.fmu.stop = some .fault then s.nvs.mech.faultDecel else s.nvs.profile.accel) := by
  simp [State.forwardSpeed, outside, mode, State.stopSpeed, State.accel, State.startSpeed, State.faultDecel]

/-- Table 7-3: the target cap, the edge cap, or neither. -/
abbrev State.furtherCap (s : State) : Nat :=
  match s.fmu.target with
  | some t => s.nvs.mech.startSpeed + s.nvs.profile.accel * ((t - s.fmu.pos).toInt.toNat - 1)
  | none => if s.fmu.move = .find then s.nvs.mech.startSpeed + s.nvs.profile.accel * s.nvs.mech.sensorOffset else s.cruise

/-- R113: the speed of a step of a free move or of an edge find. -/
theorem State.forwardSpeed_free (outside : ¬ s.underHorizon = true) (mode : s.fmu.mode ≠ .stopping) (h : Horizon) :
    s.forwardSpeed h = max (s.fmu.speed - s.nvs.profile.accel) (min s.upperSpeed (min s.cruise s.furtherCap)) := by
  have caps : capped (capped s.cruise s.targetCap) s.edgeCap = min s.cruise s.furtherCap := by
    simp only [State.targetCap, State.edgeCap, State.furtherCap, State.accel, State.startSpeed]
    cases target : s.fmu.target with
    | some t => simp [capped, ahead]
    | none => by_cases find : s.fmu.move = .find <;> simp [capped, find]
  simp only [State.forwardSpeed, if_neg outside, if_neg mode, State.freeSpeed, caps]
  rfl

end Sys2Proof.Machine

end

section
/-! A forward step as a whole (R111): the stage of the sequencer behind it, how it ends, and what settles O44. -/

namespace Sys2Proof.Machine

variable {s t u v w : State} {k : Stage}

/-! ### The stage behind a step -/

theorem State.halt_stage (h : s.csq.stage ≠ k) (busy : k ≠ .idle) (cs : List Cause) : (s.halt cs).csq.stage ≠ k :=
  State.endMotion_stage _ _ (by simpa using h) busy

theorem State.failFreeMove_stage (h : s.csq.stage ≠ k) (busy : k ≠ .idle) (code : SenseCode) :
    (s.failFreeMove code).csq.stage ≠ k :=
  State.endMotion_stage _ _ (by simpa using h) busy

theorem State.failSearch_stage (h : s.csq.stage ≠ k) (busy : k ≠ .idle) : s.failSearch.csq.stage ≠ k :=
  State.endMotion_stage _ _ (by simpa using h) busy

theorem State.abortFreeMove_stage (h : s.csq.stage ≠ k) (busy : k ≠ .idle) : s.abortFreeMove.csq.stage ≠ k :=
  State.endMotion_stage _ _ (by simpa using h) busy

theorem State.mediaGone_stage (h : s.csq.stage ≠ k) (busy : k ≠ .idle) : s.mediaGone.csq.stage ≠ k := by
  simp only [State.mediaGone, State.stopForMediaOut]
  (repeat' split)
  · exact State.halt_stage h busy _
  · simpa using h
  · exact h
  · exact h
  · exact State.failFreeMove_stage (s := s.unregister) h busy _
  · exact h
  · exact h

/-- R111 part 5: a command that a fault ends is at no stage. -/
theorem State.stopForFault_stage (h : s.csq.stage ≠ k) (busy : k ≠ .idle) (absent lost : Bool) :
    (s.stopForFault absent lost).csq.stage ≠ k := by
  simp only [State.stopForFault]
  (repeat' split)
  · exact State.halt_stage h busy _
  · exact State.mediaGone_stage h busy
  · exact h

theorem State.recovered_stage (h : s.csq.stage ≠ k) (busy : k ≠ .idle) : s.recovered.csq.stage ≠ k := by
  rw [State.recovered_eq]
  exact State.endMotion_stage _ _ (by simpa using h) busy

theorem State.stopEnded_stage (h : s.csq.stage ≠ k) (busy : k ≠ .idle) : s.stopEnded.csq.stage ≠ k := by
  simp only [State.stopEnded, State.recoveryFind]
  (repeat' split)
  · exact h
  · simpa using h
  · exact h
  · exact State.recovered_stage h busy
  · exact State.recovered_stage (by simpa using h) busy
  · simpa using h
  · exact h
  · exact State.failFreeMove_stage h busy _
  · exact fun is => busy is.symm
  · exact State.abortFreeMove_stage h busy
  · exact State.failSearch_stage h busy

theorem State.endFreeMove_stage (h : s.csq.stage ≠ k) (busy : k ≠ .idle) : s.endFreeMove.csq.stage ≠ k :=
  State.endMotion_stage _ _ h busy

theorem State.endOfFreeStep_stage (h : s.csq.stage ≠ k) (busy : k ≠ .idle) (m : MoveEnd) :
    (s.endOfFreeStep m).csq.stage ≠ k := by
  cases m <;> simp only [State.endOfFreeStep]
  case found =>
    split
    · exact State.recovered_stage h busy
    · exact State.endFreeMove_stage h busy
  case searchFailed =>
    rw [State.searchFails]
    split
    · exact State.failSearch_stage h busy
    · exact h
  case calibrated => exact State.endFreeMove_stage (by simpa using h) busy
  case calibrationFailed e => exact State.endMotion_stage _ _ (by simpa using h) busy
  case goesOn =>
    split
    · rw [State.targetReached]
      split <;> exact State.endFreeMove_stage h busy
    · exact h

/-- R111 part 6: a command that the end of a step ends is at no stage. -/
theorem State.endOfStep_stage (h : s.csq.stage ≠ k) (busy : k ≠ .idle) (m : MoveEnd) : (s.endOfStep m).csq.stage ≠ k := by
  simp only [State.endOfStep]
  (repeat' split)
  · exact h
  · exact State.stopEnded_stage h busy
  · exact h
  · exact State.endOfFreeStep_stage h busy m
  · simpa using h

/-! ### The end of a free move -/

/-- R121: a free move at its target is over. -/
theorem State.targetReached_over (w : State) : ({ w with
    fmu := { w.fmu.atRest with present := if w.fmu.move = .present then .presented else w.fmu.present }
    msu := { w.msu with reg := if w.fmu.move = .advance then ⟨.registered, some (w.fmu.pos + 1), true, 0⟩
      else w.msu.reg } } : State).MotionOver w.targetReached .ok := by
  simp only [State.targetReached]
  cases move : w.fmu.move <;> exact State.endMotion_over _ .ok

/-- R112, R120: a step of a stop ends it at S or below. -/
theorem State.endOfStep_stopping (mode : w.fmu.mode = .stopping) (m : MoveEnd) :
    w.endOfStep m = if w.fmu.speed ≤ w.nvs.mech.startSpeed then w.stopEnded else w := by
  simp only [State.endOfStep, mode]
  rfl

/-- R120: what the end of a stop brings, by what has ordered it. -/
theorem State.stopEnded_outcomes (w : State) :
    let rests : State := { w with fmu := w.fmu.atRest }
    let here : SenseInfo := .position w.fmu.pos
    (w.fmu.why = none → w.stopEnded = rests) ∧
    (w.fmu.why = some .hold → w.stopEnded = if w.eng.cond = .running then rests.beginRun else rests) ∧
    (w.fmu.why = some .halt → w.stopEnded = if w.eng.cond = .recovering then rests.recoveryFind else rests) ∧
    (w.fmu.why = some .mediaOut → w.freeMoveFailed.MotionOver w.stopEnded (.error .mediaOut none here)) ∧
    (w.fmu.why = some .searchFailed → w.movementCut.MotionOver w.stopEnded (.error .edgeNotFound none here)) ∧
    (w.fmu.why = some .breakRequest → w.eng.cond ≠ .recovering →
      w.movementCut.MotionOver w.stopEnded (.error .aborted none .nothing)) := by
  intro rests here
  refine ⟨fun why => ?_, fun why => ?_, fun why => ?_, fun why => ?_, fun why => ?_, fun why cond => ?_⟩ <;>
    simp only [State.stopEnded, why]
  · rfl
  · rfl
  · rfl
  · exact w.failFreeMove_over .mediaOut
  · exact w.failSearch_over
  · rw [if_neg cond]
    exact w.abortFreeMove_over

/-- R136, R137: a calibration that fails is cut short. -/
theorem State.calibrationEnds_over (w : State) (e : Ending) : w.movementCut.MotionOver (w.calibrationEnds e) e := by
  rw [State.calibrationEnds, State.cutShort_toStopped]
  exact State.endMotion_over _ e

/-- R112, R121, R134, R137: how a step of a free move ends. -/
theorem State.endOfFreeStep_outcomes (w : State) (m : MoveEnd) :
    let r := w.endOfFreeStep m
    let here : SenseInfo := .position w.fmu.pos
    (m = .goesOn → w.fmu.move = .find ∨ w.fmu.move = .calibrate ∨ w.fmu.target ≠ some w.fmu.pos → r = w) ∧
    (m = .goesOn → w.fmu.move ≠ .find → w.fmu.move ≠ .calibrate → w.fmu.target = some w.fmu.pos →
      ({ w with
        fmu := { w.fmu.atRest with present := if w.fmu.move = .present then .presented else w.fmu.present }
        msu := { w.msu with reg := if w.fmu.move = .advance then ⟨.registered, some (w.fmu.pos + 1), true, 0⟩
          else w.msu.reg } } : State).MotionOver r .ok) ∧
    (m = .found → w.eng.cond ≠ .recovering → ({ w with fmu := w.fmu.atRest } : State).MotionOver r .ok) ∧
    (m = .found → w.eng.cond = .recovering → r = w.recovered) ∧
    (m = .searchFailed →
      (w.fmu.speed ≤ w.nvs.mech.startSpeed → w.movementCut.MotionOver r (.error .edgeNotFound none here)) ∧
      (w.nvs.mech.startSpeed < w.fmu.speed → r = { w with
        fmu := { w.fmu with mode := .stopping, stop := some .soft, why := some .searchFailed }
        msu := { w.msu with find := none } })) ∧
    (∀ e, m = .calibrationFailed e → w.movementCut.MotionOver r e) := by
  intro r here
  refine ⟨fun is rests => ?_, fun is noFind noCalib there => ?_, fun is cond => ?_, fun is cond => ?_, fun is => ?_,
    fun e is => ?_⟩ <;> subst is
  · refine if_neg fun ⟨noFind, noCalib, there⟩ => ?_
    exact rests.elim noFind fun rests => rests.elim noCalib (· there)
  · have reached : r = w.targetReached := if_pos ⟨noFind, noCalib, there⟩
    rw [reached]
    exact w.targetReached_over
  · have ends : r = w.endFreeMove := if_neg cond
    rw [ends]
    exact State.endMotion_over _ .ok
  · exact if_pos cond
  · refine ⟨fun slow => ?_, fun fast => if_neg fast.not_ge⟩
    have fails : r = w.failSearch := if_pos slow
    rw [fails]
    exact w.failSearch_over
  · exact w.calibrationEnds_over e

/-! ### The step as a whole -/

/-- R111: parts 1 and 2 take the step at the speed chosen for it. -/
theorem State.lineParts12_paced (s : State) : s.lineParts12.fmu.Paced (s.forwardSpeed s.horizon) := by
  have stepped (u : State) (n : Nat) : (u.stepForward n).fmu.Paced n := ⟨rfl, rfl, .inl rfl⟩
  simp only [State.lineParts12]
  (repeat' split)
  · exact (stepped _ _).passLine _
  · exact (stepped _ _).passLine _
  · exact stepped _ _
  · exact stepped _ _

/-- R111: nothing else in a step sets the speed, but to rest. -/
theorem State.lineStep_paced (s : State) (level : Byte) :
    (s.lineStep level).fmu.Paced (s.forwardSpeed s.horizon) := by
  have sampled : (s.lineParts12.stepSample level).state.fmu.Paced (s.forwardSpeed s.horizon) := by
    simpa using s.lineParts12_paced
  exact (((sampled.decide4 s.underHorizon level _).stopForFault _ _).endOfStep _).conclude

theorem State.stepSample_reads (s : State) (level : Byte) :
    (s.stepSample level).state.msu.raw = level ∧ (s.stepSample level).state.msu.lastKind = .step := by
  obtain ⟨_, _, -, -, is⟩ := s.stepSample_state level
  rw [is]
  exact ⟨rfl, rfl⟩

/-- R111: the head's sense of heat is left alone. -/
theorem State.lineParts12_heat (s : State) :
    s.lineParts12.hdu.temp = s.hdu.temp ∧ s.lineParts12.hdu.thermal = s.hdu.thermal := by
  simp only [State.lineParts12]
  (repeat' split)
  · rw [State.passLine_hdu]
    exact ⟨rfl, rfl⟩
  · rw [State.passLine_hdu]
    exact ⟨rfl, rfl⟩
  · exact ⟨rfl, rfl⟩
  · exact ⟨rfl, rfl⟩

theorem Msu.reading_raw {m n : Msu} (same : m.reading = n.reading) : m.raw = n.raw ∧ m.lastKind = n.lastKind :=
  ⟨congrArg (·.1) same, congrArg (·.2.2.2.2.2.1) same⟩

/-- R127: behind a step the sensor holds what part 3 has read. -/
theorem State.lineStep_reads (s : State) (level : Byte) :
    (s.lineStep level).msu.raw = level ∧ (s.lineStep level).msu.lastKind = .step := by
  have same : (s.lineStep level).msu.reading = (s.lineParts12.stepSample level).state.msu.reading := by
    simp [State.lineStep]
  obtain ⟨raw, kind⟩ := Msu.reading_raw same
  obtain ⟨read, step⟩ := s.lineParts12.stepSample_reads level
  exact ⟨raw.trans read, kind.trans step⟩

theorem State.lineStep_gate (s : State) (level : Byte) : (s.lineStep level).lbq.gate = s.lbq.gate := by
  simp [State.lineStep]

/-- R111: what a step is in general. -/
theorem lineStep_moves (h : s.InService) (due : s.forwardDue = true) (room : s.hdu.strobed < 16) (level : Byte)
    (elapsed : Nat) : ∃ t, exec (.lineStep level elapsed) s = .next t ∧ t.fmu.pos = s.fmu.pos + 1 ∧
      t.fmu.backward = false ∧ (t.fmu.speed = s.forwardSpeed s.horizon ∨ t.fmu.speed = 0) ∧
      t.fmu.energised = true ∧ t.msu.raw = level ∧ t.msu.lastKind = .step ∧ t.ram = s.ram ∧ t.hdu.temp = s.hdu.temp ∧
      t.hdu.thermal = s.hdu.thermal ∧ t.eng.headOpen = s.eng.headOpen ∧ t.nvs.mech = s.nvs.mech ∧
      t.nvs.store = s.nvs.store ∧ t.lbq.gate = s.lbq.gate ∧ t.strap = s.strap ∧ t.pending = s.pending := by
  obtain ⟨forward, on, speed⟩ := (s.advanceClock elapsed).lineStep_paced level
  obtain ⟨ram, strap, pending, pos, headOpen, -, mech, store⟩ := (s.advanceClock elapsed).lineStep_keeps level
  obtain ⟨temp, thermal⟩ := (s.advanceClock elapsed).lineParts12_heat
  obtain ⟨raw, kind⟩ := (s.advanceClock elapsed).lineStep_reads level
  have heat := (s.advanceClock elapsed).lineStep_hdu level
  refine ⟨_, exec_lineStep h due room level elapsed, pos, forward, speed, on, raw, kind, ram, ?_, ?_, headOpen, mech, store,
    State.lineStep_gate _ level, strap, pending⟩
  · rw [heat, temp]
    rfl
  · rw [heat, thermal]
    rfl

/-- R111: the six parts of a step, and what follows in it when no command waits. -/
theorem lineStep_parts (h : s.InService) (due : s.forwardDue = true) (room : s.hdu.strobed < 16) (level : Byte)
    (elapsed : Nat) (waits : s.csq.stage ≠ .waiting) (compacts : s.csq.stage ≠ .compacting) :
    let a := ({ s with hdu := { s.hdu with clock := s.hdu.clock.map (· + elapsed) } } : State).lineParts12
    let p := a.stepSample level
    let d := p.state.decide4 s.underHorizon level p.change
    let w := (d.state.stopForFault p.absentNow d.lost).endOfStep d.move
    ∃ t, exec (.lineStep level elapsed) s = .next t ∧ t.hpu = w.hpu ∧ t.csq = w.csq ∧ w.OnlyFollows t := by
  intro a p d w
  have stage {k : Stage} (not : s.csq.stage ≠ k) (busy : k ≠ .idle) : w.csq.stage ≠ k := by
    refine State.endOfStep_stage (State.stopForFault_stage ?_ busy _ _) busy _
    simpa [d, p, a] using not
  exact ⟨_, exec_lineStep h due room level elapsed, State.conclude_follows (stage waits nofun) (stage compacts nofun)⟩

/-- R106, R112: with no step due, or a sample due by count, the step does not come. -/
theorem exec_lineStep_still (still : s.forwardDue = false ∨ 16 ≤ s.hdu.strobed) (level : Byte) (elapsed : Nat) :
    exec (.lineStep level elapsed) s = .next s := by
  have none : (s.forwardDue && !s.sampleDue) = false := by
    rcases still with rests | full
    · simp [rests]
    · simp [State.sampleDue, Config.linesPerSample, full]
  refine congrArg Host.Outcome.next (State.served_elim (· = s) rfl fun _ => ?_)
  exact if_neg (by rw [none]; nofun)

/-- Settles O44: the step and its parts, the speed chosen for it, the step sample, the window decision, and the end of the
step. -/
theorem lineStepMovesOneLineForward : Obligations.LineStepMovesOneLineForward := by
  refine ⟨fun s level elapsed h due room => lineStep_moves h due room level elapsed,
    fun s level elapsed h due room => lineStep_parts h due room level elapsed,
    fun s level elapsed still => exec_lineStep_still still level elapsed, State.freeSpeed_bounds, fun s => ?_,
    fun a level => ?_, fun s top => ?_, fun w m => ?_⟩
  · intro v low acc upper h under road floor held cruise further
    have stretched (x : Nat) : capped x (s.lineCapNow h) = held x := by
      simp only [held]
      cases s.lineCapNow h <;> rfl
    have cruises : s.cruise = cruise := by
      simp only [cruise, State.cruise]
      cases s.fmu.move <;> rfl
    have caps : s.furtherCap = further := by
      simp only [further, State.furtherCap, cruises]
      cases s.fmu.target <;> rfl
    have horizon : s.underHorizon = true ↔ under := s.underHorizon_iff
    refine ⟨horizon, fun is mode => ?_, fun is mode => ?_, fun not mode => ?_, fun not mode => ?_, s.le_lookAhead h,
      fun none => ?_, fun l j dots line first => ?_, s.capOf_eq⟩
    · rw [State.forwardSpeed_run (horizon.mpr is) mode, stretched, stretched]
    · rw [State.forwardSpeed_runStop (horizon.mpr is) mode, stretched, stretched]
    · exact State.forwardSpeed_stop (mt horizon.mp not) mode h
    · rw [State.forwardSpeed_free (mt horizon.mp not) mode, cruises, caps]
    · rw [State.lineCapNow, none, Option.bind_none]
    · rw [State.lineCapNow, line, first, Option.bind_some, Option.bind_some]
  · intro p m marker cls agrees n out edge leading room
    obtain ⟨edges, lastEdge, taken, left, is⟩ := a.stepSample_state level
    have msu : m = _ := congrArg State.msu is
    have eng : p.state.eng = _ := congrArg State.eng is
    have gone : p.absentNow = a.goesOut level := a.stepSample_absentNow level
    have debounced (d : Msu × Option ClassChange) (how : a.debounced level = d) : p.change = d.2 ∧ m.cls = d.1.cls ∧
        m.cand = d.1.cand ∧ m.agree = d.1.agree ∧ m.candPos = d.1.candPos := by
      rw [msu, ← how]
      exact ⟨rfl, rfl, rfl, rfl, rfl⟩
    have here : m.cls = (a.debounced level).1.cls := (congrArg Msu.cls msu :)
    have run : m.emptyRun = a.emptyCount level := (congrArg Msu.emptyRun msu :)
    refine ⟨?_, fun same => ?_, fun other short => ?_, fun other third => ?_, fun holds => ?_, fun empty => ?_, ?_, ?_,
      fun not => ?_, fun takes => ?_⟩
    · rw [eng, msu]
      exact is
    · obtain ⟨change, cls_, cand, agree, -⟩ := debounced _ (State.debounced_same same)
      exact ⟨change, cls_.trans same.symm, cand, agree⟩
    · exact debounced _ (State.debounced_counts other short)
    · obtain ⟨change, cls_, cand, agree, -⟩ := debounced _ (State.debounced_changes other third)
      exact ⟨change, cls_, cand, agree⟩
    · rw [run, gone, State.emptyCount, State.goesOut, ← here]
      simp [holds]
    · rw [run, gone, State.emptyCount, State.goesOut, ← here]
      simp [empty, out]
    · rw [gone]
      exact (congrArg Msu.absent msu :)
    · rw [gone]
      exact eng
    · obtain ⟨same, last⟩ := left not
      exact ⟨(congrArg Msu.edges msu :).trans same, (congrArg Msu.lastEdge msu :).trans last⟩
    · obtain ⟨joins, last⟩ := taken takes
      exact ⟨(congrArg Msu.edges msu :).trans joins, (congrArg Msu.lastEdge msu :).trans last⟩
  · intro r tol far queue decides left
    have at_ (known : r.top = some top) : s.atDecision = if decides then some top else none := State.atDecision_eq known
    refine ⟨fun none => State.decideWindow_idle ?_, fun known not => State.decideWindow_idle ((at_ known).trans (if_neg not)),
      fun e rest is first near => State.decideWindow_found is first near, fun is none => ?_⟩
    · simp only [State.atDecision, show s.msu.reg.top = Option.none from none]
    · have misses := State.decideWindow_missed is none
      exact ⟨fun first => misses.trans (State.missTop_coasts first), fun again => misses.trans (State.missTop_loses again)⟩
  · intro r low here rests
    refine ⟨fun mode => ?_, fun mode => ⟨fun fast => ?_, fun slow => ?_⟩, fun mode => ?_, fun mode finds => ?_⟩
    · simp only [r, State.endOfStep, mode]
    · exact (State.endOfStep_stopping mode m).trans (if_neg fast.not_ge)
    · have ends : r = w.stopEnded := (State.endOfStep_stopping mode m).trans (if_pos slow)
      rw [ends]
      exact w.stopEnded_outcomes
    · have ends : r = w.endOfFreeStep m := by simp only [r, State.endOfStep, mode]
      rw [ends]
      exact w.endOfFreeStep_outcomes m
    · have ends : r = w.endOfRunStep m := by simp only [r, State.endOfStep, mode]
      rw [ends, State.endOfRunStep, if_neg finds]
      exact ⟨fun found => if_pos found, fun other => if_neg other⟩

end Sys2Proof.Machine

end

end
